-- ==== Sys2Proof/Word.lean ====
section
/-! DEFINITION. The words of the request links: a byte of a frame and a two-byte field (R183, R186).
Quantities inside the part (speeds, torques, counts) are exact integers (R1) and are not words. -/

namespace Sys2Proof

/-- One byte of a frame (R183). -/
abbrev Byte := BitVec 8

/-- A two-byte field of a body, low byte first on the wire (R186). -/
abbrev Half := BitVec 16

end Sys2Proof
end

