-- ==== Sys2Proof/Syntax.lean ====
section
/-! DEFINITION. The commands of the block: one constructor of `Instr` per row of
spec/opcode_table.json, with the row's operands. Requests carry their link, tag and claimed authority
(`Hdr`) and their body fields at the width R186 gives them; events carry the readings they take. -/

namespace Sys2Proof

/-- The two request links (Chapter 11). -/
inductive Link | operations | safety
  deriving DecidableEq, Repr

/-- The rear, driven wheels (Conventions, Wheels). -/
inductive Wheel | left | right
  deriving DecidableEq, Repr

/-- The three speed sources, in the order of R59 and R191. -/
inductive Source | front | sat | rear
  deriving DecidableEq, Repr

/-- The SRC_PREF strap: FRONT or SAT (11.6). -/
inductive SrcPref | front | sat
  deriving DecidableEq, Repr

/-- The PARAM_GUARD strap: OPEN or TIED (R190). -/
inductive ParamGuard | opened | tied
  deriving DecidableEq, Repr

/-- The four grid positions, numbered 1 to 4 (R111). -/
inductive GridNo | g1 | g2 | g3 | g4
  deriving DecidableEq, Repr

/-- Four like things: grids, struts. -/
structure Four (α : Type) where
  a1 : α
  a2 : α
  a3 : α
  a4 : α
  deriving DecidableEq, Repr

/-- One thing for each wheel. -/
structure PerWheel (α : Type) where
  left : α
  right : α
  deriving DecidableEq, Repr

/-- The three straps as tied on the board (11.6). `gridFit` is the highest fitted grid. -/
structure Straps where
  gridFit : GridNo
  srcPref : SrcPref
  paramGuard : ParamGuard
  deriving DecidableEq, Repr

/-- What every request frame carries beside its code and body: the link it came on, its tag and the
authority it claims in byte 2 (R185, R191). -/
structure Hdr where
  link : Link
  tag : Byte
  claim : Byte
  deriving DecidableEq, Repr

/-- What a window reads: per front input the pulses of the window and whether its line monitor found
no open or shorted sensor circuit during it (R53). -/
structure WindowIn where
  pulses : PerWheel Nat
  lineGood : PerWheel Bool
  deriving DecidableEq, Repr

/-- What a capacity step reads of one grid: its blower input and its mean power over the interval, in
kW (R111). -/
structure GridIn where
  running : Bool
  power : Nat
  deriving DecidableEq, Repr

/-- What a capacity step reads: the four grids' inputs and the DC-link voltage in volts (R113). -/
structure CapacityIn where
  grids : Four GridIn
  volts : Nat
  deriving DecidableEq, Repr

/-- What a steer step reads: the two readings, each with whether its line monitor found no fault since
the last step (R140). -/
structure SteerIn where
  angle : Int
  angleLineGood : Bool
  pressure : Int
  pressureLineGood : Bool
  deriving DecidableEq, Repr

/-- The commands, one constructor per row of spec/opcode_table.json, in the table's order.
Log entry 1 says what a row that is an event inside a periodic step stands for. -/
inductive Instr
  | nop (h : Hdr)
  | frameError (link : Link) (bytes : List Byte)
  | unknownRequest (h : Hdr) (code : Byte)
  | placeLimit (h : Hdr) (kind scope : Byte) (value : Half) (segment : Byte) (lease : Half)
      (immediate : Byte)
  | amendLimit (h : Hdr) (slot gen : Byte) (value : Half) (action : Byte) (length : Half)
  | renewLimit (h : Hdr) (slot gen : Byte)
  | retireLimit (h : Hdr) (slot gen : Byte)
  | retireOwner (h : Hdr) (owner : Byte)
  | lookupLimit (h : Hdr) (slot gen half : Byte)
  | findLimit (h : Hdr) (owner kind scope segment : Byte)
  | nextLimit (h : Hdr) (slot : Byte)
  | readEnvelope (h : Hdr) (wheel kind : Byte)
  | loadSegment (h : Hdr) (id : Byte) (grade rr : Half) (cls : Byte)
  | amendSegment (h : Hdr) (id : Byte) (grade rr : Half) (cls : Byte)
  | retireSegment (h : Hdr) (id : Byte)
  | enterSegment (h : Hdr) (id heading : Byte)
  | leaveSegment (h : Hdr)
  | readSegment (h : Hdr) (id mode : Byte)
  | speedFix (h : Hdr) (speed quality : Half)
  | selectSpeedSource (h : Hdr) (source : Byte)
  | lockSpeedSource (h : Hdr)
  | clearSourceFail (h : Hdr)
  | setDemand (h : Hdr) (demand steer : Half) (direction : Byte)
  | park (h : Hdr)
  | unpark (h : Hdr)
  | clearHold (h : Hdr)
  | safetyHold (h : Hdr)
  | trip (h : Hdr)
  | resetTrip (h : Hdr)
  | setControlMode (h : Hdr) (mode : Byte)
  | restart (h : Hdr) (kind : Byte)
  | powerUp (straps : Straps) (brakeReleased : Bool)
  | restartInput (level : Bool)
  | clearGridFault (h : Hdr) (grid : Byte)
  | startSweep (h : Hdr) (g0 gstep m0 mstep : Half)
  | readSweep (h : Hdr)
  | setSteerPoint (h : Hdr) (k : Byte) (speed angle : Half)
  | readSteerPoint (h : Hdr) (k : Byte)
  | tare (h : Hdr)
  | readStatus (h : Hdr) (page item : Byte)
  | clearAttention (h : Hdr) (causes : Half)
  | setAttentionMask (h : Hdr) (causes : Half)
  | setParam (h : Hdr) (index : Byte) (value : Half)
  | getParam (h : Hdr) (index : Byte)
  | leaseStep
  | expiry
  | envelopeStep
  | window (i : WindowIn)
  | trackerTracking (source : Source) (i : WindowIn)
  | trackerLost (source : Source) (i : WindowIn)
  | startSelectionTimeout (i : WindowIn)
  | tripApplyCountExpiry (i : WindowIn)
  | reprobeStart (wheel : Wheel) (i : WindowIn)
  | holdDwellEnd (wheel : Wheel)
  | searchDwellEnd (wheel : Wheel)
  | commandStep
  | demandLeaseExpiry
  | inverterMessage (wheel : Wheel) (rpm : Nat) (fault : Bool)
  | inverterSilent (wheel : Wheel)
  | capacityStep (i : CapacityIn)
  | gridFault (grid : GridNo) (i : CapacityIn)
  | linkVoltageClear (i : CapacityIn)
  | sweepEntry
  | sweepReady
  | steerStep (i : SteerIn)
  | steerFault (i : SteerIn)
  | steerFaultClear (i : SteerIn)
  | loadWindow (struts : Four Nat)
  | latchEnd (struts : Four Nat)
  | brakeReleasedInput (released : Bool)
  | releaseTimeout
  deriving DecidableEq, Repr

/-- The value of a wheel. -/
def PerWheel.get {α : Type} (p : PerWheel α) : Wheel → α
  | .left => p.left
  | .right => p.right

/-- Replace the value of a wheel. -/
def PerWheel.set {α : Type} (p : PerWheel α) (w : Wheel) (x : α) : PerWheel α :=
  match w with
  | .left => { p with left := x }
  | .right => { p with right := x }

/-- Apply a function to both wheels' values. -/
def PerWheel.map {α β : Type} (f : α → β) (p : PerWheel α) : PerWheel β :=
  ⟨f p.left, f p.right⟩

/-- The other wheel. -/
def Wheel.other : Wheel → Wheel
  | .left => .right
  | .right => .left

/-- The number of a grid position, 1 to 4 (R111). -/
def GridNo.num : GridNo → Nat
  | .g1 => 1
  | .g2 => 2
  | .g3 => 3
  | .g4 => 4

/-- The value at a grid position. -/
def Four.get {α : Type} (f : Four α) : GridNo → α
  | .g1 => f.a1
  | .g2 => f.a2
  | .g3 => f.a3
  | .g4 => f.a4

/-- Apply a function to all four values. -/
def Four.map {α β : Type} (f : α → β) (x : Four α) : Four β :=
  ⟨f x.a1, f x.a2, f x.a3, f x.a4⟩

/-- Combine two fours position by position. -/
def Four.zip {α β γ : Type} (f : α → β → γ) (x : Four α) (y : Four β) : Four γ :=
  ⟨f x.a1 y.a1, f x.a2 y.a2, f x.a3 y.a3, f x.a4 y.a4⟩

/-- The sum of four numbers. -/
def Four.sum (x : Four Nat) : Nat := x.a1 + x.a2 + x.a3 + x.a4

/-- Whether all four hold. -/
def Four.all (x : Four Bool) : Bool := x.a1 && x.a2 && x.a3 && x.a4

/-- Whether any of the four holds. -/
def Four.any (x : Four Bool) : Bool := x.a1 || x.a2 || x.a3 || x.a4

end Sys2Proof
end

