-- ==== Sys2Proof/Decode.lean ====
section
/-! DEFINITION. From the bytes of an exchange to the command they spell, and back (R183, R185, R186,
R191), and `decodeTableWord`, which the host asks for: spec/opcode_table.json gives no row any bits, so
no word spells a command. -/

namespace Sys2Proof

/-- One shift of the CRC register: polynomial x⁸ + x² + x + 1, no reflection (R183). -/
def crcShift (c : Byte) : Byte :=
  if c.msb then (c <<< 1) ^^^ 0x07#8 else c <<< 1

/-- Feed one byte, most significant bit first (R183). -/
def crcByte (c b : Byte) : Byte :=
  Nat.repeat crcShift 8 (c ^^^ b)

/-- CRC-8 of a list of bytes: the register starts at all ones, no final inversion (R183). -/
def crc8 (bs : List Byte) : Byte := bs.foldl crcByte 0xFF#8

/-- The frame test of R183: exactly 12 bytes, and the CRC of bytes 0 to 10 equals byte 11. -/
def frameOk (bs : List Byte) : Bool :=
  bs.length == 12 && crc8 (bs.take 11) == bs.getD 11 0

/-- A two-byte field, low byte first (R186). -/
def half (lo hi : Byte) : Half := hi ++ lo

/-- The low byte of a field. -/
def loByte (h : Half) : Byte := h.setWidth 8

/-- The high byte of a field. -/
def hiByte (h : Half) : Byte := (h >>> 8).setWidth 8

/-- The eight body bytes of a request frame, bytes 3 to 10 (R191). -/
structure Body where
  b0 : Byte
  b1 : Byte
  b2 : Byte
  b3 : Byte
  b4 : Byte
  b5 : Byte
  b6 : Byte
  b7 : Byte
  deriving DecidableEq, Repr

/-- The request codes of R185's table. -/
def knownCodes : List Byte :=
  [0x00, 0x10, 0x11, 0x12, 0x13, 0x14, 0x15, 0x16, 0x17, 0x18, 0x20, 0x21, 0x22, 0x23, 0x24, 0x25,
   0x30, 0x31, 0x32, 0x33, 0x40, 0x41, 0x42, 0x43, 0x44, 0x45, 0x46, 0x47, 0x48, 0x50, 0x51, 0x52,
   0x58, 0x59, 0x5C, 0x60, 0x61, 0x62, 0x63, 0x64]

/-- The request that a code and a body spell: fields from byte 0 in the order the request's entry names
them, bytes past the last field ignored (R186); an unlisted code is UNKNOWN (R185, check 1). -/
def requestOf (h : Hdr) (code : Byte) (b : Body) : Instr :=
  match code.toNat with
  | 0x00 => .nop h
  | 0x10 => .placeLimit h b.b0 b.b1 (half b.b2 b.b3) b.b4 (half b.b5 b.b6) b.b7
  | 0x11 => .amendLimit h b.b0 b.b1 (half b.b2 b.b3) b.b4 (half b.b5 b.b6)
  | 0x12 => .renewLimit h b.b0 b.b1
  | 0x13 => .retireLimit h b.b0 b.b1
  | 0x14 => .retireOwner h b.b0
  | 0x15 => .lookupLimit h b.b0 b.b1 b.b2
  | 0x16 => .findLimit h b.b0 b.b1 b.b2 b.b3
  | 0x17 => .nextLimit h b.b0
  | 0x18 => .readEnvelope h b.b0 b.b1
  | 0x20 => .loadSegment h b.b0 (half b.b1 b.b2) (half b.b3 b.b4) b.b5
  | 0x21 => .amendSegment h b.b0 (half b.b1 b.b2) (half b.b3 b.b4) b.b5
  | 0x22 => .retireSegment h b.b0
  | 0x23 => .enterSegment h b.b0 b.b1
  | 0x24 => .leaveSegment h
  | 0x25 => .readSegment h b.b0 b.b1
  | 0x30 => .speedFix h (half b.b0 b.b1) (half b.b2 b.b3)
  | 0x31 => .selectSpeedSource h b.b0
  | 0x32 => .lockSpeedSource h
  | 0x33 => .clearSourceFail h
  | 0x40 => .setDemand h (half b.b0 b.b1) (half b.b2 b.b3) b.b4
  | 0x41 => .park h
  | 0x42 => .unpark h
  | 0x43 => .clearHold h
  | 0x44 => .safetyHold h
  | 0x45 => .trip h
  | 0x46 => .resetTrip h
  | 0x47 => .setControlMode h b.b0
  | 0x48 => .restart h b.b0
  | 0x50 => .clearGridFault h b.b0
  | 0x51 => .startSweep h (half b.b0 b.b1) (half b.b2 b.b3) (half b.b4 b.b5) (half b.b6 b.b7)
  | 0x52 => .readSweep h
  | 0x58 => .setSteerPoint h b.b0 (half b.b1 b.b2) (half b.b3 b.b4)
  | 0x59 => .readSteerPoint h b.b0
  | 0x5C => .tare h
  | 0x60 => .readStatus h b.b0 b.b1
  | 0x61 => .clearAttention h (half b.b0 b.b1)
  | 0x62 => .setAttentionMask h (half b.b0 b.b1)
  | 0x63 => .setParam h b.b0 (half b.b1 b.b2)
  | 0x64 => .getParam h b.b0
  | _ => .unknownRequest h code

/-- The command that an exchange on `link` with these bytes clocked in is (R183, R185). -/
def decodeExchange (link : Link) (bytes : List Byte) : Instr :=
  match bytes with
  | [code, tag, claim, b0, b1, b2, b3, b4, b5, b6, b7, _] =>
    if frameOk bytes then requestOf ⟨link, tag, claim⟩ code ⟨b0, b1, b2, b3, b4, b5, b6, b7⟩
    else .frameError link bytes
  | _ => .frameError link bytes

/-- A frame from its bytes 0 to 10: they and their CRC (R183). -/
def sealFrame (bs : List Byte) : List Byte := bs ++ [crc8 bs]

/-- A request frame from its header, code and leading body bytes, the rest of the body zeros. -/
def requestFrame (h : Hdr) (code : Byte) (fields : List Byte) : List Byte :=
  sealFrame (code :: h.tag :: h.claim :: ((fields ++ List.replicate 8 0).take 8))

/-- The link and the bytes of the exchange that gives a command, for the commands that are exchanges
(R185, R186, R191); none for the events of the part and of its inputs. -/
def encodeExchange : Instr → Option (Link × List Byte)
  | .nop h => some (h.link, requestFrame h 0x00 [])
  | .frameError link bytes => some (link, bytes)
  | .unknownRequest h code => some (h.link, requestFrame h code [])
  | .placeLimit h kind scope value segment lease immediate =>
    some (h.link, requestFrame h 0x10 [kind, scope, loByte value, hiByte value, segment, loByte lease,
      hiByte lease, immediate])
  | .amendLimit h slot gen value action length =>
    some (h.link, requestFrame h 0x11 [slot, gen, loByte value, hiByte value, action, loByte length,
      hiByte length])
  | .renewLimit h slot gen => some (h.link, requestFrame h 0x12 [slot, gen])
  | .retireLimit h slot gen => some (h.link, requestFrame h 0x13 [slot, gen])
  | .retireOwner h owner => some (h.link, requestFrame h 0x14 [owner])
  | .lookupLimit h slot gen part => some (h.link, requestFrame h 0x15 [slot, gen, part])
  | .findLimit h owner kind scope segment =>
    some (h.link, requestFrame h 0x16 [owner, kind, scope, segment])
  | .nextLimit h slot => some (h.link, requestFrame h 0x17 [slot])
  | .readEnvelope h wheel kind => some (h.link, requestFrame h 0x18 [wheel, kind])
  | .loadSegment h id grade rr cls =>
    some (h.link, requestFrame h 0x20 [id, loByte grade, hiByte grade, loByte rr, hiByte rr, cls])
  | .amendSegment h id grade rr cls =>
    some (h.link, requestFrame h 0x21 [id, loByte grade, hiByte grade, loByte rr, hiByte rr, cls])
  | .retireSegment h id => some (h.link, requestFrame h 0x22 [id])
  | .enterSegment h id heading => some (h.link, requestFrame h 0x23 [id, heading])
  | .leaveSegment h => some (h.link, requestFrame h 0x24 [])
  | .readSegment h id mode => some (h.link, requestFrame h 0x25 [id, mode])
  | .speedFix h speed quality =>
    some (h.link, requestFrame h 0x30 [loByte speed, hiByte speed, loByte quality, hiByte quality])
  | .selectSpeedSource h source => some (h.link, requestFrame h 0x31 [source])
  | .lockSpeedSource h => some (h.link, requestFrame h 0x32 [])
  | .clearSourceFail h => some (h.link, requestFrame h 0x33 [])
  | .setDemand h demand steer direction =>
    some (h.link, requestFrame h 0x40 [loByte demand, hiByte demand, loByte steer, hiByte steer,
      direction])
  | .park h => some (h.link, requestFrame h 0x41 [])
  | .unpark h => some (h.link, requestFrame h 0x42 [])
  | .clearHold h => some (h.link, requestFrame h 0x43 [])
  | .safetyHold h => some (h.link, requestFrame h 0x44 [])
  | .trip h => some (h.link, requestFrame h 0x45 [])
  | .resetTrip h => some (h.link, requestFrame h 0x46 [])
  | .setControlMode h mode => some (h.link, requestFrame h 0x47 [mode])
  | .restart h kind => some (h.link, requestFrame h 0x48 [kind])
  | .powerUp _ _ => none
  | .restartInput _ => none
  | .clearGridFault h grid => some (h.link, requestFrame h 0x50 [grid])
  | .startSweep h g0 gstep m0 mstep =>
    some (h.link, requestFrame h 0x51 [loByte g0, hiByte g0, loByte gstep, hiByte gstep, loByte m0,
      hiByte m0, loByte mstep, hiByte mstep])
  | .readSweep h => some (h.link, requestFrame h 0x52 [])
  | .setSteerPoint h k speed angle =>
    some (h.link, requestFrame h 0x58 [k, loByte speed, hiByte speed, loByte angle, hiByte angle])
  | .readSteerPoint h k => some (h.link, requestFrame h 0x59 [k])
  | .tare h => some (h.link, requestFrame h 0x5C [])
  | .readStatus h page item => some (h.link, requestFrame h 0x60 [page, item])
  | .clearAttention h causes => some (h.link, requestFrame h 0x61 [loByte causes, hiByte causes])
  | .setAttentionMask h causes => some (h.link, requestFrame h 0x62 [loByte causes, hiByte causes])
  | .setParam h index value =>
    some (h.link, requestFrame h 0x63 [index, loByte value, hiByte value])
  | .getParam h index => some (h.link, requestFrame h 0x64 [index])
  | .leaseStep => none
  | .expiry => none
  | .envelopeStep => none
  | .window _ => none
  | .trackerTracking _ _ => none
  | .trackerLost _ _ => none
  | .startSelectionTimeout _ => none
  | .tripApplyCountExpiry _ => none
  | .reprobeStart _ _ => none
  | .holdDwellEnd _ => none
  | .searchDwellEnd _ => none
  | .commandStep => none
  | .demandLeaseExpiry => none
  | .inverterMessage _ _ _ => none
  | .inverterSilent _ => none
  | .capacityStep _ => none
  | .gridFault _ _ => none
  | .linkVoltageClear _ => none
  | .sweepEntry => none
  | .sweepReady => none
  | .steerStep _ => none
  | .steerFault _ => none
  | .steerFaultClear _ => none
  | .loadWindow _ => none
  | .latchEnd _ => none
  | .brakeReleasedInput _ => none
  | .releaseTimeout => none

/-- The command that a word of `nbits` bits spells by spec/opcode_table.json's bits: the table gives no
row any bits, so there is none. -/
def decodeTableWord (_nbits _w : Nat) : Option Instr := none

end Sys2Proof
end

