-- ==== Sys2Proof/Config.lean ====
section
/-! DEFINITION. What the board fixes (the strap ties of the machine that `State.reset` describes, log
entry 4) and the free values (log entry 14): opaque constants without a body, so that no proof can
rest on what they are. -/

namespace Sys2Proof.Config

/-- The ties of the board of `State.reset`: DESIGN CHOICE, log entry 4 (four grids, FRONT, OPEN). -/
def boardStraps : Straps := ⟨.g4, .front, .opened⟩

/-- The brake-released input at `State.reset`: DESIGN CHOICE, log entry 4 (APPLIED). -/
def boardBrakeReleased : Bool := false

/-- Free: what the measured steer angle holds between the n-th warm restart and the first steer step
after it (R155 names no value; none is OUT_OF_RANGE). Log entry 14. -/
opaque freeMeasured : Nat → Option Int

/-- Free: the accumulator pressure shown in the same interval. Log entry 14. -/
opaque freePressure : Nat → Option Nat

/-- Free: the angle limit Alim shown in the same interval. Log entry 14. -/
opaque freeAlim : Nat → Nat

/-- Free: the rate step shown in the same interval. Log entry 14. -/
opaque freeRateStep : Nat → Nat

/-- Free: the steer target shown in the same interval. Log entry 14. -/
opaque freeTarget : Nat → Option Int

end Sys2Proof.Config
end

