-- ==== Sys2Proof/Machine/State.lean ====
section
/-! DEFINITION. The state of the part as plain data, block by block, and `State.reset`: the part right
after a cold restart (R25, R37, R51, R70, R96, R109, R137, R155, R169, R181, R187). -/

namespace Sys2Proof.Machine

/-- Nothing stops the part: every request has an outcome and every event an effect, so there is no
fault. -/
inductive Fault
  deriving DecidableEq, Repr

/-- Why a command has no meaning. -/
inductive Refusal
  /-- Raised only by an arm of `exec` whose command has no meaning yet (safe: the model stops). There
  is no such arm in this model. -/
  | notModelled (mnemonic : String)
  deriving DecidableEq, Repr

/-! ### Names of the Limit Table (Chapter 1) -/

/-- The owners of records, in R186's order. The authority of a request is one of the first four. -/
inductive Owner | operator | dispatch | autonomy | safety | governor
  deriving DecidableEq, Repr

/-- The seven kinds, in R5's order. -/
inductive Kind
  | speedMax | propelTorque | retardTorque | wheelTorque | propelPower | steerAngle | steerRate
  deriving DecidableEq, Repr

/-- Scope of a record, in R5's order. -/
inductive Scope | both | left | right
  deriving DecidableEq, Repr

/-- The nine governor records, in slot order 39 to 47 (R9). -/
inductive Gov
  | gradeSpeed | sourceSpeed | steerReserve | steerCurve | payloadSpeed | payloadTorque | motorLeft
  | motorRight | linkVoltage
  deriving DecidableEq, Repr

/-- A handle: slot number and generation (R3). -/
structure Handle where
  slot : Nat
  gen : Nat
  deriving DecidableEq, Repr

/-- A lease: length and remaining time, in 0.1 s (R11). -/
structure Lease where
  length : Nat
  remaining : Nat
  deriving DecidableEq, Repr

/-- An external Limit Record (R4). Its handle is its slot's. -/
structure Rec where
  owner : Owner
  kind : Kind
  scope : Scope
  value : Nat
  segment : Option Nat
  lease : Option Lease
  immediate : Bool
  active : Bool
  deriving DecidableEq, Repr

/-- An external slot: its generation and the record in it, if any (R2, R3). -/
structure Slot where
  gen : Nat
  record : Option Rec
  deriving DecidableEq, Repr

/-- A governor record: state and value, and whether it has been ACTIVE since the last restart, without
which its image shows value 0 (R9). -/
structure GovRec where
  active : Bool
  value : Nat
  since : Bool
  deriving DecidableEq, Repr

/-- The nine governor records (R9). -/
structure GovTable where
  gradeSpeed : GovRec
  sourceSpeed : GovRec
  steerReserve : GovRec
  steerCurve : GovRec
  payloadSpeed : GovRec
  payloadTorque : GovRec
  motorLeft : GovRec
  motorRight : GovRec
  linkVoltage : GovRec
  deriving DecidableEq, Repr

/-! ### The envelope (Chapter 2) -/

/-- An effective value and its binding handle; no handle is DEFAULT (R27). -/
structure Bound where
  value : Nat
  handle : Option Handle
  deriving DecidableEq, Repr

/-- E and B of one wheel for the seven kinds (R27). -/
structure KindBounds where
  speedMax : Bound
  propelTorque : Bound
  retardTorque : Bound
  wheelTorque : Bound
  propelPower : Bound
  steerAngle : Bound
  steerRate : Bound
  deriving DecidableEq, Repr

/-- The envelope: E and B per wheel, and the applied speed limit A (R27). -/
structure Envelope where
  left : KindBounds
  right : KindBounds
  applied : Nat
  deriving DecidableEq, Repr

/-! ### Parameters (11.4) -/

/-- The 46 parameters, in the index order of R190. -/
inductive Param
  | speedRated | propelRated | retardRated | wheelRated | powerRated | steerAngleRated
  | steerRateRated | speedSlew | gradeWorst | rrDefault | pulsesPerRev | tyreRadius | gearRatio
  | srcSatSpeed | srcRearSpeed | holdRetard | taperBand | ovsGain | edGain | jerk | reverseSpeed
  | slipPropel | slipRetard | searchStep | lookBeyond | researchTime | altitude | gridRated
  | thetaMax | thetaBand | gridHeat | gridCool | gradeMargin | emptyMass | gvmMax | linkHigh
  | linkTrip | assistGain | steerTrackErr | steerLow | steerCrit | steerReserveSpeed | strutArea
  | ratedPayload | motorCont | motorHeatGain
  deriving DecidableEq, Repr

/-! ### Route segments (Chapter 3) -/

/-- Adhesion classes (R39). -/
inductive AdhesionClass | dry | wet | mud | ice
  deriving DecidableEq, Repr

/-- Heading on the current segment (R40). -/
inductive Heading | along | against
  deriving DecidableEq, Repr

/-- A Route Segment record, less its bound count, which R42 derives from the Limit Table. -/
structure Segment where
  id : Nat
  grade : Int
  rr : Nat
  cls : AdhesionClass
  deriving DecidableEq, Repr

/-- The Segment Table (R39, R40): the records by rising id, the current segment, the heading. -/
structure SegTable where
  records : List Segment
  current : Option Nat
  heading : Heading
  deriving DecidableEq, Repr

/-! ### Ground speed (Chapter 4) -/

/-- Tracker states (R57). -/
inductive TrackState | absent | qualifying | tracking | lost
  deriving DecidableEq, Repr

/-- A source's tracker, with its value and self-check of the last window (R57). -/
structure Tracker where
  state : TrackState
  count : Nat
  misses : Nat
  value : Nat
  passed : Bool
  deriving DecidableEq, Repr

/-- The three trackers. -/
structure Trackers where
  front : Tracker
  sat : Tracker
  rear : Tracker
  deriving DecidableEq, Repr

/-- A satellite fix (R55). -/
structure Fix where
  speed : Nat
  quality : Nat
  deriving DecidableEq, Repr

/-- The reference state (R59). -/
inductive RefState | seeking | valid | lost
  deriving DecidableEq, Repr

/-- The Speed Reference Unit (R52 to R68). `pulses` holds the counts of up to four windows, the newest
first; `sensors` each front sensor's own speed of the last window (R53). -/
structure SpeedUnit where
  trackers : Trackers
  pulses : PerWheel (List Nat)
  sensors : PerWheel Nat
  rpm : PerWheel Nat
  marks : PerWheel Bool
  fix : Option Fix
  fresh : Nat
  windows : Nat
  current : Option Source
  reference : RefState
  v : Nat
  pending : Option Source
  lock : Bool
  sourceFail : Bool
  deriving DecidableEq, Repr

/-! ### Wheel torque (Chapter 5) -/

/-- Travel direction in force (R71). -/
inductive Direction | forward | reverse
  deriving DecidableEq, Repr

/-- Limiting stage of a wheel's last step (R71, R86). -/
inductive Stage | none | speed | envelope | power | rate | final | zero | muted
  deriving DecidableEq, Repr

/-- Inverter link state (R71). -/
inductive LinkState | up | fault | silent
  deriving DecidableEq, Repr

/-- Wheel mode, with the cause kept while MUTED (R91). -/
inductive WheelMode | governed | mutedFault | mutedSilent
  deriving DecidableEq, Repr

/-- The command message last sent to an inverter (R86, R87). -/
structure Command where
  torque : Int
  direction : Direction
  deriving DecidableEq, Repr

/-- What the Torque Governor holds for one wheel (R71). -/
structure WheelState where
  tprev : Int
  history : Vector Int 10
  stage : Stage
  retardBound : Bool
  link : LinkState
  silence : Nat
  mode : WheelMode
  sent : Command
  deriving DecidableEq, Repr

/-- The Torque Governor (R71, R76). -/
structure TorqueGov where
  demand : Option Int
  steerDemand : Option Int
  lease : Option Nat
  direction : Direction
  vmax : Nat
  wheels : PerWheel WheelState
  deriving DecidableEq, Repr

/-! ### Adhesion (Chapter 6) -/

/-- Adhesion states (R97). -/
inductive GripState | free | hold | search | settled
  deriving DecidableEq, Repr

/-- The Adhesion Controller's record of one wheel (R97). -/
structure Grip where
  state : GripState
  ceiling : Nat
  dwell : Nat
  sum : Nat
  best : Nat
  fbest : Nat
  misses : Nat
  reprobe : Nat
  lastSpeed : Option Nat
  lastSlip : Int
  slips : Nat
  deriving DecidableEq, Repr

/-! ### Retarding (Chapter 7) -/

/-- Grid states (R111). -/
inductive GridState | off | ready | fault
  deriving DecidableEq, Repr

/-- A grid record (R111), with the figures of the step that made a fault, which status shows while the
grid is FAULT (R121; log entry 20). -/
structure Grid where
  state : GridState
  theta : Nat
  running : Bool
  cap : Nat
  alloc : Nat
  duty : Nat
  power : Nat
  faults : Nat
  faultAlloc : Nat
  faultPower : Nat
  deriving DecidableEq, Repr

/-- The set of brake assist causes that hold (R129). -/
structure AssistCauses where
  trip : Bool
  standstill : Bool
  retardShort : Bool
  gradeShort : Bool
  linkHigh : Bool
  deriving DecidableEq, Repr

/-- Sweep markers, in R186's order. -/
inductive Marker | none | short | noSlope
  deriving DecidableEq, Repr

/-- A sweep table entry (R131). Its index is its place in the table. -/
structure SweepEntry where
  grade : Int
  mass : Int
  vraw : Nat
  value : Nat
  marker : Marker
  deriving DecidableEq, Repr

/-- What START_SWEEP keeps: the snapshot, the grid of the sweep and the requesting link (R131). -/
structure SweepJob where
  pcap : Nat
  rr : Nat
  margin : Nat
  speedRated : Nat
  g0 : Int
  gstep : Int
  m0 : Int
  mstep : Int
  link : Link
  deriving DecidableEq, Repr

/-- The sweep (R131): while RUNNING the table filled so far, whose length is the next index; when READY
the table and the cursor. -/
inductive Sweep
  | idle
  | running (job : SweepJob) (table : List SweepEntry)
  | ready (job : SweepJob) (table : List SweepEntry) (cursor : Nat)
  deriving DecidableEq, Repr

/-- The Retard Unit (R111, R112, R131). `grade` is the grade speed result: a value when ACTIVE, none
for NO_SLOPE. -/
structure RetardUnit where
  grids : Four Grid
  pcap : Nat
  preq : Nat
  mass : Nat
  slope : Int
  vraw : Nat
  vm : Nat
  grade : Option Nat
  gradeShort : Bool
  volts : Nat
  lowCount : Nat
  overvolt : Bool
  assist : Nat
  causes : AssistCauses
  sweep : Sweep
  deriving DecidableEq, Repr

/-! ### Steering (Chapter 8) -/

/-- A point of the steer curve (R141). -/
structure CurvePoint where
  speed : Nat
  angle : Nat
  deriving DecidableEq, Repr

/-- The Steering Governor (R138). `command` none drives the hold indication; `measured` and `pressure`
none are OUT_OF_RANGE. -/
structure SteerGov where
  command : Option Int
  measured : Option Int
  alim : Nat
  rateStep : Nat
  target : Option Int
  curve : Vector CurvePoint 8
  fault : Bool
  errors : Nat
  recovery : Nat
  freeze : Option Int
  pressure : Option Nat
  low : Bool
  crit : Bool
  deriving DecidableEq, Repr

/-! ### Load and heat (Chapter 9) -/

/-- Payload states (R156). -/
inductive PayloadState | measuring | latched | invalid
  deriving DecidableEq, Repr

/-- Payload classes (R156). -/
inductive PayloadClass | none | normal | over1 | over2 | over3
  deriving DecidableEq, Repr

/-- The Load and Heat Monitor (R156). `samples` is oldest first. -/
structure LoadMon where
  state : PayloadState
  samples : List Nat
  value : Nat
  cls : PayloadClass
  tare : Nat
  lowSpeed : Nat
  strutFault : Bool
  heat : PerWheel Nat
  struts : Four Nat
  deriving DecidableEq, Repr

/-! ### Drive states (Chapter 10) -/

/-- Drive states (R170). -/
inductive Drive | starting | parked | releasing | ready | hold | tripped
  deriving DecidableEq, Repr

/-- The hold set (R170). -/
structure HoldSet where
  demandLost : Bool
  steerFault : Bool
  steerCrit : Bool
  wheelLost : Bool
  safetyHold : Bool
  startMoving : Bool
  deriving DecidableEq, Repr

/-- The condition causes that are stored (R170). -/
structure Conditions where
  steerFault : Bool
  steerCrit : Bool
  deriving DecidableEq, Repr

/-- Trip causes (R173). -/
inductive TripCause | trip | linkOvervolt | referenceLost | bothWheelsLost
  deriving DecidableEq, Repr

/-- The later trip causes (R170). -/
structure TripSet where
  trip : Bool
  linkOvervolt : Bool
  referenceLost : Bool
  bothWheelsLost : Bool
  deriving DecidableEq, Repr

/-- Control modes (R170). -/
inductive ControlMode | manned | autonomous
  deriving DecidableEq, Repr

/-- How the last RELEASING ended (R170). -/
inductive ReleaseOutcome | none | released | releaseTimeout | aborted
  deriving DecidableEq, Repr

/-- The Drive State Controller (R170). `timer` is the time left in ms, none when idle; `brakeApply` is
the park brake output; `brakeReleased` the brake-released input as last read. -/
structure DriveCtl where
  state : Drive
  hold : HoldSet
  conditions : Conditions
  trip : Option TripCause
  later : TripSet
  mode : ControlMode
  timer : Option Nat
  outcome : ReleaseOutcome
  brakeApply : Bool
  brakeReleased : Bool
  applyCount : Nat
  tripMark : Bool
  deriving DecidableEq, Repr

/-! ### Links (Chapter 11) -/

/-- Outcomes, in the order of R191's values 0 to 21; `guarded` is PROTECTED (a Lean keyword). -/
inductive ReplyCode
  | none | done | frameError | unknown | authority | state | busy | moving | badValue | badScope
  | noSegment | exists | full | stale | notOwner | guarded | noLease | notFound | inUse | bound
  | locked | notReady
  deriving DecidableEq, Repr

/-- An answer less its CRC: `Answer.frame` lays the 12 bytes out and works the CRC out (R184, R191).
`body` holds eight bytes. -/
structure Answer where
  code : Byte
  tag : Byte
  outcome : ReplyCode
  body : List Byte
  deriving DecidableEq, Repr

/-- The last expiry of a link's report (R12). -/
structure Expiry where
  handle : Handle
  owner : Owner
  kind : Kind
  deriving DecidableEq, Repr

/-- What one link holds: the answer that its next exchange gives out, the answer its last exchange gave
out (`Port.bytesReady` and `Port.bytesGiven` are their 12 bytes), the attention pending set and mask (bit
n for cause n, R187), and its expiry report (R12). -/
structure Port where
  answer : Answer
  given : Answer
  pending : BitVec 9
  mask : BitVec 9
  expiryCount : Nat
  lastExpiry : Option Expiry
  deriving DecidableEq, Repr

/-- The two links. -/
structure Ports where
  operations : Port
  safety : Port
  deriving DecidableEq, Repr

/-- The ties the next cold restart samples, and the restart input's level (11.6, R181). -/
structure Pins where
  straps : Straps
  restart : Bool
  deriving DecidableEq, Repr

/-! ### The whole part -/

/-- The state of the part. `free` and `pending` are the model's own: the index of the next free values
(log entry 14) and the commands that wait, the front first. -/
structure State where
  ports : Ports
  table : Vector Slot 39
  gov : GovTable
  env : Envelope
  params : Vector Nat 46
  segs : SegTable
  speed : SpeedUnit
  torque : TorqueGov
  grip : PerWheel Grip
  retard : RetardUnit
  steer : SteerGov
  load : LoadMon
  drive : DriveCtl
  straps : Straps
  pins : Pins
  free : Nat
  pending : List Instr
  deriving DecidableEq, Repr

/-! ### Values after a cold restart -/

/-- The first answer on each link after a restart (R184). -/
def Answer.empty : Answer := ⟨0, 0, .none, List.replicate 8 0⟩

/-- A link after a cold restart: RESTARTED pending, all nine causes enabled (R187); expiry report at 0
and empty (R25). `given` is log entry 26. -/
def Port.reset : Port := ⟨.empty, .empty, 1#9, 0x1FF#9, 0, none⟩

/-- A governor record after a cold restart: DORMANT, value 0 (R25). -/
def GovRec.reset : GovRec := ⟨false, 0, false⟩

/-- The defaults of the 46 parameters, by index (R190). -/
def paramDefaults : Vector Nat 46 :=
  #v[640, 700, 750, 750, 1700, 380, 150, 5, 150, 20, 600, 1950, 31500, 400, 250, 400, 20, 40, 8, 15,
     100, 80, 80, 50, 2, 100, 4000, 1400, 7000, 1000, 9, 20, 100, 2400, 6400, 2150, 2350, 20, 30,
     1300, 900, 150, 1800, 3300, 450, 2]

/-- E and B of a wheel after a cold restart (R37). -/
def KindBounds.reset : KindBounds :=
  ⟨⟨640, none⟩, ⟨700, none⟩, ⟨750, none⟩, ⟨750, none⟩, ⟨1700, none⟩, ⟨380, none⟩, ⟨150, none⟩⟩

/-- A tracker after a cold restart (R70); value and self-check are log entry 18. -/
def Tracker.reset : Tracker := ⟨.absent, 0, 0, 0, false⟩

/-- The Speed Reference Unit after a cold restart (R70); the front sensors' speeds are log entry 43. -/
def SpeedUnit.reset : SpeedUnit :=
  ⟨⟨.reset, .reset, .reset⟩, ⟨[], []⟩, ⟨0, 0⟩, ⟨0, 0⟩, ⟨false, false⟩, none, 0, 0, none, .seeking, 0,
   none, false, false⟩

/-- A wheel of the Torque Governor after a cold restart (R96). -/
def WheelState.reset : WheelState :=
  ⟨0, #v[0, 0, 0, 0, 0, 0, 0, 0, 0, 0], .zero, false, .silent, 5, .mutedSilent, ⟨0, .forward⟩⟩

/-- The Torque Governor after a cold restart (R96). -/
def TorqueGov.reset : TorqueGov :=
  ⟨none, none, none, .forward, 640, ⟨.reset, .reset⟩⟩

/-- A wheel's adhesion record after a cold restart (R109). -/
def Grip.reset : Grip := ⟨.free, 750, 0, 0, 750, 0, 0, 0, none, 0, 0⟩

/-- A grid after a cold restart, fitted or not (R111, R137). -/
def Grid.reset (fitted : Bool) : Grid :=
  if fitted then ⟨.ready, 4000, true, 0, 0, 0, 0, 0, 0, 0⟩ else ⟨.off, 0, true, 0, 0, 0, 0, 0, 0, 0⟩

/-- The four grids after a cold restart, from GRID_FIT (R111). -/
def gridsReset (fit : GridNo) : Four Grid :=
  ⟨.reset true, .reset (decide (2 ≤ fit.num)), .reset (decide (3 ≤ fit.num)),
   .reset (decide (4 ≤ fit.num))⟩

/-- The Retard Unit after a cold restart (R137): the brake assist level 1000 under STANDSTILL, set at
the entry to STARTING with v at 0. -/
def RetardUnit.reset (fit : GridNo) : RetardUnit :=
  ⟨gridsReset fit, 0, 0, 6400, 0, 0, 0, none, false, 0, 0, false, 1000,
   ⟨false, true, false, false, false⟩, .idle⟩

/-- The default steer curve (R141). -/
def curveDefault : Vector CurvePoint 8 :=
  #v[⟨0, 380⟩, ⟨50, 380⟩, ⟨100, 300⟩, ⟨150, 220⟩, ⟨200, 160⟩, ⟨300, 100⟩, ⟨400, 70⟩, ⟨640, 40⟩]

/-- The Steering Governor after a cold restart (R155); measured angle, pressure, Alim, rate step and
target are log entry 13. -/
def SteerGov.reset : SteerGov :=
  ⟨none, some 0, 0, 1, none, curveDefault, false, 0, 0, none, some 0, false, false⟩

/-- The Load and Heat Monitor after a cold restart (R169). -/
def LoadMon.reset : LoadMon :=
  ⟨.invalid, [], 0, .none, 1900, 0, false, ⟨6000, 6000⟩, ⟨0, 0, 0, 0⟩⟩

/-- The empty hold set. -/
def HoldSet.empty : HoldSet := ⟨false, false, false, false, false, false⟩

/-- The empty set of later trip causes. -/
def TripSet.empty : TripSet := ⟨false, false, false, false⟩

/-- The Drive State Controller after a cold restart (R181), the brake-released input read as given. -/
def DriveCtl.reset (brakeReleased : Bool) : DriveCtl :=
  ⟨.starting, .empty, ⟨false, false⟩, none, .empty, .manned, none, .none, false, brakeReleased, 0,
   false⟩

/-- The part right after a cold restart of a board with these ties and this brake-released level. -/
def State.cold (straps : Straps) (brakeReleased : Bool) : State where
  ports := ⟨.reset, .reset⟩
  table := Vector.replicate 39 ⟨1, none⟩
  gov := ⟨.reset, .reset, .reset, .reset, .reset, .reset, .reset, .reset, .reset⟩
  env := ⟨.reset, .reset, 640⟩
  params := paramDefaults
  segs := ⟨[], none, .along⟩
  speed := .reset
  torque := .reset
  grip := ⟨.reset, .reset⟩
  retard := .reset straps.gridFit
  steer := .reset
  load := .reset
  drive := .reset brakeReleased
  straps := straps
  pins := ⟨straps, false⟩
  free := 0
  pending := []

/-- The part right after reset: a cold restart of the board of log entry 4. -/
def State.reset : State := State.cold Config.boardStraps Config.boardBrakeReleased

end Sys2Proof.Machine
end

