-- ==== Sys2Proof/Machine/Operands.lean ====
section
/-! DEFINITION. Operand forms: the codes of enumerated values, the fields of answer bodies, the answer
frame, and the parameters' indexes and ranges (R184, R186, R190, R191). -/

namespace Sys2Proof.Machine

/-! ### Codes read from requests: a value's position in its list, from 0 (R186) -/

/-- Owner codes (R186). -/
def ownerOfCode (b : Byte) : Option Owner :=
  match b.toNat with
  | 0 => some .operator
  | 1 => some .dispatch
  | 2 => some .autonomy
  | 3 => some .safety
  | 4 => some .governor
  | _ => none

/-- Kind codes (R186, R5). -/
def kindOfCode (b : Byte) : Option Kind :=
  match b.toNat with
  | 0 => some .speedMax
  | 1 => some .propelTorque
  | 2 => some .retardTorque
  | 3 => some .wheelTorque
  | 4 => some .propelPower
  | 5 => some .steerAngle
  | 6 => some .steerRate
  | _ => none

/-- Scope codes (R186, R5). -/
def scopeOfCode (b : Byte) : Option Scope :=
  match b.toNat with
  | 0 => some .both
  | 1 => some .left
  | 2 => some .right
  | _ => none

/-- The wheel code of READ_ENVELOPE: 1 LEFT, 2 RIGHT (R186). -/
def wheelOfCode (b : Byte) : Option Wheel :=
  match b.toNat with
  | 1 => some .left
  | 2 => some .right
  | _ => none

/-- A lease action of AMEND_LIMIT (R15). -/
inductive LeaseAction | keep | clear | new
  deriving DecidableEq, Repr

/-- Lease action codes: KEEP, CLEAR, NEW (R15). -/
def leaseActionOfCode (b : Byte) : Option LeaseAction :=
  match b.toNat with
  | 0 => some .keep
  | 1 => some .clear
  | 2 => some .new
  | _ => none

/-- Adhesion class codes: DRY, WET, MUD, ICE (R39). -/
def classOfCode (b : Byte) : Option AdhesionClass :=
  match b.toNat with
  | 0 => some .dry
  | 1 => some .wet
  | 2 => some .mud
  | 3 => some .ice
  | _ => none

/-- Heading codes: WITH, AGAINST (R40). -/
def headingOfCode (b : Byte) : Option Heading :=
  match b.toNat with
  | 0 => some .along
  | 1 => some .against
  | _ => none

/-- The READ_SEGMENT mode: EXACT 0 (true), NEXT 1 (false) (R48). -/
def exactOfCode (b : Byte) : Option Bool :=
  match b.toNat with
  | 0 => some true
  | 1 => some false
  | _ => none

/-- Source codes: FRONT, SAT, REAR (R59, R61; log entry 7). -/
def sourceOfCode (b : Byte) : Option Source :=
  match b.toNat with
  | 0 => some .front
  | 1 => some .sat
  | 2 => some .rear
  | _ => none

/-- Direction codes: FORWARD, REVERSE (R71). -/
def directionOfCode (b : Byte) : Option Direction :=
  match b.toNat with
  | 0 => some .forward
  | 1 => some .reverse
  | _ => none

/-- Control mode codes: MANNED, AUTONOMOUS (R170). -/
def modeOfCode (b : Byte) : Option ControlMode :=
  match b.toNat with
  | 0 => some .manned
  | 1 => some .autonomous
  | _ => none

/-- The RESTART kind: COLD 0 (true), WARM 1 (false) (R181). -/
def coldOfCode (b : Byte) : Option Bool :=
  match b.toNat with
  | 0 => some true
  | 1 => some false
  | _ => none

/-! ### Codes written into answers -/

/-- The code of an owner (R186). -/
def Owner.code : Owner → Nat
  | .operator => 0
  | .dispatch => 1
  | .autonomy => 2
  | .safety => 3
  | .governor => 4

/-- The code of a kind (R186). -/
def Kind.code : Kind → Nat
  | .speedMax => 0
  | .propelTorque => 1
  | .retardTorque => 2
  | .wheelTorque => 3
  | .propelPower => 4
  | .steerAngle => 5
  | .steerRate => 6

/-- The code of a scope (R186). -/
def Scope.code : Scope → Nat
  | .both => 0
  | .left => 1
  | .right => 2

/-- The code of an adhesion class (R39). -/
def AdhesionClass.code : AdhesionClass → Nat
  | .dry => 0
  | .wet => 1
  | .mud => 2
  | .ice => 3

/-- The code of a heading (R40). -/
def Heading.code : Heading → Nat
  | .along => 0
  | .against => 1

/-- The code of a source (log entry 7). -/
def sourceCode : Source → Nat
  | .front => 0
  | .sat => 1
  | .rear => 2

/-- The code of a tracker state (R57). -/
def TrackState.code : TrackState → Nat
  | .absent => 0
  | .qualifying => 1
  | .tracking => 2
  | .lost => 3

/-- The code of a reference state (R59). -/
def RefState.code : RefState → Nat
  | .seeking => 0
  | .valid => 1
  | .lost => 2

/-- The code of the SRC_PREF strap (11.6). -/
def srcPrefCode : SrcPref → Nat
  | .front => 0
  | .sat => 1

/-- The code of the PARAM_GUARD strap (R190). -/
def paramGuardCode : ParamGuard → Nat
  | .opened => 0
  | .tied => 1

/-- The code of a link: operations, safety (R131; log entry 7). -/
def linkCode : Link → Nat
  | .operations => 0
  | .safety => 1

/-- The code of a direction (R71). -/
def Direction.code : Direction → Nat
  | .forward => 0
  | .reverse => 1

/-- The code of a limiting stage (R71). -/
def Stage.code : Stage → Nat
  | .none => 0
  | .speed => 1
  | .envelope => 2
  | .power => 3
  | .rate => 4
  | .final => 5
  | .zero => 6
  | .muted => 7

/-- The code of an inverter link state (R71). -/
def LinkState.code : LinkState → Nat
  | .up => 0
  | .fault => 1
  | .silent => 2

/-- The mode code of status page 3 items 0 and 1 (R191). -/
def WheelMode.code : WheelMode → Nat
  | .governed => 0
  | .mutedFault => 1
  | .mutedSilent => 2

/-- The code of an adhesion state (R97). -/
def GripState.code : GripState → Nat
  | .free => 0
  | .hold => 1
  | .search => 2
  | .settled => 3

/-- The code of a grid state (R111). -/
def GridState.code : GridState → Nat
  | .off => 0
  | .ready => 1
  | .fault => 2

/-- The code of a sweep marker (R186). -/
def Marker.code : Marker → Nat
  | .none => 0
  | .short => 1
  | .noSlope => 2

/-- The code of a payload state (R156). -/
def PayloadState.code : PayloadState → Nat
  | .measuring => 0
  | .latched => 1
  | .invalid => 2

/-- The code of a payload class (R156). -/
def PayloadClass.code : PayloadClass → Nat
  | .none => 0
  | .normal => 1
  | .over1 => 2
  | .over2 => 3
  | .over3 => 4

/-- The code of a drive state (R170). -/
def Drive.code : Drive → Nat
  | .starting => 0
  | .parked => 1
  | .releasing => 2
  | .ready => 3
  | .hold => 4
  | .tripped => 5

/-- The code of a trip cause: its place among the four; none is the absent value (log entry 8). -/
def TripCause.code : TripCause → Nat
  | .trip => 0
  | .linkOvervolt => 1
  | .referenceLost => 2
  | .bothWheelsLost => 3

/-- The code of a control mode (R170). -/
def ControlMode.code : ControlMode → Nat
  | .manned => 0
  | .autonomous => 1

/-- The code of a release outcome (R170; log entry 8). -/
def ReleaseOutcome.code : ReleaseOutcome → Nat
  | .none => 0
  | .released => 1
  | .releaseTimeout => 2
  | .aborted => 3

/-- The value of an outcome (R191). -/
def ReplyCode.value : ReplyCode → Nat
  | .none => 0
  | .done => 1
  | .frameError => 2
  | .unknown => 3
  | .authority => 4
  | .state => 5
  | .busy => 6
  | .moving => 7
  | .badValue => 8
  | .badScope => 9
  | .noSegment => 10
  | .exists => 11
  | .full => 12
  | .stale => 13
  | .notOwner => 14
  | .guarded => 15
  | .noLease => 16
  | .notFound => 17
  | .inUse => 18
  | .bound => 19
  | .locked => 20
  | .notReady => 21

/-! ### Fields of bodies (R186) -/

/-- A 1-byte field. -/
def u8 (n : Nat) : List Byte := [BitVec.ofNat 8 n]

/-- A 2-byte unsigned field, low byte first. -/
def u16 (n : Nat) : List Byte := [BitVec.ofNat 8 n, BitVec.ofNat 8 (n / 256)]

/-- A 3-byte unsigned field, low byte first (R191). -/
def u24 (n : Nat) : List Byte :=
  [BitVec.ofNat 8 n, BitVec.ofNat 8 (n / 256), BitVec.ofNat 8 (n / 65536)]

/-- A 2-byte two's-complement field, low byte first. -/
def s16 (i : Int) : List Byte := u16 (BitVec.ofInt 16 i).toNat

/-- A 1-byte field that may be absent: 0xFF. -/
def optU8 : Option Nat → List Byte
  | some n => u8 n
  | none => [0xFF#8]

/-- A 2-byte unsigned field that may be absent: 0xFFFF. -/
def optU16 : Option Nat → List Byte
  | some n => u16 n
  | none => [0xFF#8, 0xFF#8]

/-- A 2-byte signed field that may be absent: 0x8000. -/
def optS16 : Option Int → List Byte
  | some i => s16 i
  | none => [0x00#8, 0x80#8]

/-- A handle: slot then generation (R186). -/
def handleField (h : Handle) : List Byte := u8 h.slot ++ u8 h.gen

/-- A binding handle: DEFAULT is 0xFF, 0xFF (R186). -/
def bindingField : Option Handle → List Byte
  | some h => handleField h
  | none => [0xFF#8, 0xFF#8]

/-- A set or a byte of flags: bit n for the n-th member (R186). -/
def bits (bs : List Bool) : List Byte :=
  u8 (bs.foldr (fun b n => 2 * n + b.toNat) 0)

/-- A body is eight bytes, those past the last field 0 (R186). -/
def padBody (fields : List Byte) : List Byte := (fields ++ List.replicate 8 0#8).take 8

/-! ### The answer frame (R184, R191) -/

/-- The 12 bytes of an answer: code echo, tag echo, outcome, the eight body bytes and their CRC (R184,
R191). -/
def Answer.frame (a : Answer) : List Byte :=
  sealFrame (a.code :: a.tag :: (u8 a.outcome.value ++ a.body))

/-- The 12 bytes that a link gave out during its last exchange (R184). -/
def Port.bytesGiven (p : Port) : List Byte := p.given.frame

/-- The 12 bytes that a link gives out during its next exchange (R184). -/
def Port.bytesReady (p : Port) : List Byte := p.answer.frame

/-! ### Numbers -/

/-- x limited to the range a to b (R1). -/
def clampInt (x a b : Int) : Int := max a (min x b)

/-- x limited to the range a to b (R1), for non-negative numbers. -/
def clampNat (x a b : Nat) : Nat := max a (min x b)

/-! ### Parameters (R190) -/

/-- The index of a parameter. -/
def Param.index : Param → Fin 46
  | .speedRated => 0 | .propelRated => 1 | .retardRated => 2 | .wheelRated => 3
  | .powerRated => 4 | .steerAngleRated => 5 | .steerRateRated => 6 | .speedSlew => 7
  | .gradeWorst => 8 | .rrDefault => 9 | .pulsesPerRev => 10 | .tyreRadius => 11
  | .gearRatio => 12 | .srcSatSpeed => 13 | .srcRearSpeed => 14 | .holdRetard => 15
  | .taperBand => 16 | .ovsGain => 17 | .edGain => 18 | .jerk => 19
  | .reverseSpeed => 20 | .slipPropel => 21 | .slipRetard => 22 | .searchStep => 23
  | .lookBeyond => 24 | .researchTime => 25 | .altitude => 26 | .gridRated => 27
  | .thetaMax => 28 | .thetaBand => 29 | .gridHeat => 30 | .gridCool => 31
  | .gradeMargin => 32 | .emptyMass => 33 | .gvmMax => 34 | .linkHigh => 35
  | .linkTrip => 36 | .assistGain => 37 | .steerTrackErr => 38 | .steerLow => 39
  | .steerCrit => 40 | .steerReserveSpeed => 41 | .strutArea => 42 | .ratedPayload => 43
  | .motorCont => 44 | .motorHeatGain => 45

/-- The parameters in index order. -/
def allParams : List Param :=
  [.speedRated, .propelRated, .retardRated, .wheelRated, .powerRated, .steerAngleRated,
   .steerRateRated, .speedSlew, .gradeWorst, .rrDefault, .pulsesPerRev, .tyreRadius, .gearRatio,
   .srcSatSpeed, .srcRearSpeed, .holdRetard, .taperBand, .ovsGain, .edGain, .jerk, .reverseSpeed,
   .slipPropel, .slipRetard, .searchStep, .lookBeyond, .researchTime, .altitude, .gridRated,
   .thetaMax, .thetaBand, .gridHeat, .gridCool, .gradeMargin, .emptyMass, .gvmMax, .linkHigh,
   .linkTrip, .assistGain, .steerTrackErr, .steerLow, .steerCrit, .steerReserveSpeed, .strutArea,
   .ratedPayload, .motorCont, .motorHeatGain]

/-- The parameter with an index, if the table has one. -/
def paramOfIndex (b : Byte) : Option Param := allParams[b.toNat]?

/-- The low and high end of a parameter's range. -/
def Param.range : Param → Nat × Nat
  | .speedRated => (30, 640)
  | .propelRated => (0, 900)
  | .retardRated => (0, 900)
  | .wheelRated => (0, 900)
  | .powerRated => (0, 2000)
  | .steerAngleRated => (0, 450)
  | .steerRateRated => (20, 300)
  | .speedSlew => (1, 50)
  | .gradeWorst => (1, 200)
  | .rrDefault => (0, 100)
  | .pulsesPerRev => (60, 2000)
  | .tyreRadius => (1000, 2500)
  | .gearRatio => (10000, 60000)
  | .srcSatSpeed => (30, 640)
  | .srcRearSpeed => (30, 640)
  | .holdRetard => (0, 1000)
  | .taperBand => (1, 100)
  | .ovsGain => (1, 200)
  | .edGain => (0, 20)
  | .jerk => (1, 100)
  | .reverseSpeed => (10, 300)
  | .slipPropel => (20, 500)
  | .slipRetard => (20, 500)
  | .searchStep => (10, 200)
  | .lookBeyond => (0, 10)
  | .researchTime => (10, 6000)
  | .altitude => (0, 6000)
  | .gridRated => (100, 3000)
  | .thetaMax => (1000, 8000)
  | .thetaBand => (100, 4000)
  | .gridHeat => (1, 50)
  | .gridCool => (1, 100)
  | .gradeMargin => (0, 500)
  | .emptyMass => (1000, 4000)
  | .gvmMax => (2000, 8000)
  | .linkHigh => (1500, 2500)
  | .linkTrip => (1600, 2800)
  | .assistGain => (1, 200)
  | .steerTrackErr => (10, 200)
  | .steerLow => (500, 2500)
  | .steerCrit => (300, 2000)
  | .steerReserveSpeed => (30, 640)
  | .strutArea => (500, 4000)
  | .ratedPayload => (1000, 4000)
  | .motorCont => (100, 900)
  | .motorHeatGain => (1, 20)

/-- The value of a parameter. -/
def State.param (s : State) (p : Param) : Nat := s.params[p.index.val]

/-- Write a parameter. -/
def State.setParamValue (s : State) (p : Param) (v : Nat) : State :=
  { s with params := s.params.set p.index.val v }

/-! ### Kinds, scopes, governor records -/

/-- The legal range of a kind's value (R5). -/
def Kind.range : Kind → Nat × Nat
  | .speedMax => (0, 640)
  | .propelTorque => (0, 900)
  | .retardTorque => (0, 900)
  | .wheelTorque => (0, 900)
  | .propelPower => (0, 2000)
  | .steerAngle => (0, 450)
  | .steerRate => (20, 300)

/-- Whether a value lies in a kind's range (R5). -/
def Kind.inRange (k : Kind) (v : Nat) : Bool :=
  decide (k.range.1 ≤ v) && decide (v ≤ k.range.2)

/-- Whether a kind may take scope LEFT or RIGHT (R5). -/
def Kind.perWheel : Kind → Bool
  | .propelTorque => true
  | .retardTorque => true
  | .wheelTorque => true
  | .propelPower => true
  | .speedMax => false
  | .steerAngle => false
  | .steerRate => false

/-- The parameter that is a kind's default (R28). -/
def Kind.default : Kind → Param
  | .speedMax => .speedRated
  | .propelTorque => .propelRated
  | .retardTorque => .retardRated
  | .wheelTorque => .wheelRated
  | .propelPower => .powerRated
  | .steerAngle => .steerAngleRated
  | .steerRate => .steerRateRated

/-- Whether a scope covers a wheel (R5). -/
def Scope.covers : Scope → Wheel → Bool
  | .both, _ => true
  | .left, .left => true
  | .left, .right => false
  | .right, .left => false
  | .right, .right => true

/-- The slot of a governor record (R9). -/
def Gov.slot : Gov → Nat
  | .gradeSpeed => 39
  | .sourceSpeed => 40
  | .steerReserve => 41
  | .steerCurve => 42
  | .payloadSpeed => 43
  | .payloadTorque => 44
  | .motorLeft => 45
  | .motorRight => 46
  | .linkVoltage => 47

/-- The kind of a governor record (R9). -/
def Gov.kind : Gov → Kind
  | .gradeSpeed => .speedMax
  | .sourceSpeed => .speedMax
  | .steerReserve => .speedMax
  | .steerCurve => .speedMax
  | .payloadSpeed => .speedMax
  | .payloadTorque => .propelTorque
  | .motorLeft => .wheelTorque
  | .motorRight => .wheelTorque
  | .linkVoltage => .retardTorque

/-- The scope of a governor record (R9). -/
def Gov.scope : Gov → Scope
  | .motorLeft => .left
  | .motorRight => .right
  | .gradeSpeed => .both
  | .sourceSpeed => .both
  | .steerReserve => .both
  | .steerCurve => .both
  | .payloadSpeed => .both
  | .payloadTorque => .both
  | .linkVoltage => .both

/-- The governor records in slot order (R9). -/
def allGov : List Gov :=
  [.gradeSpeed, .sourceSpeed, .steerReserve, .steerCurve, .payloadSpeed, .payloadTorque, .motorLeft,
   .motorRight, .linkVoltage]

/-- The governor record of a slot number (R9). -/
def govOfSlot (n : Nat) : Option Gov := allGov.find? (fun g => g.slot == n)

/-- A governor record as the table holds it. -/
def GovTable.get (t : GovTable) : Gov → GovRec
  | .gradeSpeed => t.gradeSpeed
  | .sourceSpeed => t.sourceSpeed
  | .steerReserve => t.steerReserve
  | .steerCurve => t.steerCurve
  | .payloadSpeed => t.payloadSpeed
  | .payloadTorque => t.payloadTorque
  | .motorLeft => t.motorLeft
  | .motorRight => t.motorRight
  | .linkVoltage => t.linkVoltage

/-- The value a governor record's image shows: its last ACTIVE spell's, or 0 when it has not been ACTIVE
since the last restart (R9). -/
def GovRec.shown (r : GovRec) : Nat := if r.active || r.since then r.value else 0

/-- Replace a governor record. -/
def GovTable.set (t : GovTable) (g : Gov) (r : GovRec) : GovTable :=
  match g with
  | .gradeSpeed => { t with gradeSpeed := r }
  | .sourceSpeed => { t with sourceSpeed := r }
  | .steerReserve => { t with steerReserve := r }
  | .steerCurve => { t with steerCurve := r }
  | .payloadSpeed => { t with payloadSpeed := r }
  | .payloadTorque => { t with payloadTorque := r }
  | .motorLeft => { t with motorLeft := r }
  | .motorRight => { t with motorRight := r }
  | .linkVoltage => { t with linkVoltage := r }

/-- E and B of one kind. -/
def KindBounds.get (b : KindBounds) : Kind → Bound
  | .speedMax => b.speedMax
  | .propelTorque => b.propelTorque
  | .retardTorque => b.retardTorque
  | .wheelTorque => b.wheelTorque
  | .propelPower => b.propelPower
  | .steerAngle => b.steerAngle
  | .steerRate => b.steerRate

/-- E and B of one wheel. -/
def Envelope.wheel (e : Envelope) : Wheel → KindBounds
  | .left => e.left
  | .right => e.right

/-- E(w,k), R27. -/
def State.eff (s : State) (w : Wheel) (k : Kind) : Nat := ((s.env.wheel w).get k).value

/-- The tracker of a source (R57). -/
def Trackers.get (t : Trackers) : Source → Tracker
  | .front => t.front
  | .sat => t.sat
  | .rear => t.rear

/-- What the Torque Governor holds for a wheel (R71). -/
def State.wheel (s : State) (w : Wheel) : WheelState := s.torque.wheels.get w

/-- Replace what the Torque Governor holds for a wheel. -/
def State.setWheel (s : State) (w : Wheel) (x : WheelState) : State :=
  { s with torque := { s.torque with wheels := s.torque.wheels.set w x } }

/-- A link's port. -/
def Ports.get (p : Ports) : Link → Port
  | .operations => p.operations
  | .safety => p.safety

/-- Replace a link's port. -/
def Ports.set (p : Ports) (l : Link) (x : Port) : Ports :=
  match l with
  | .operations => { p with operations := x }
  | .safety => { p with safety := x }

/-- A link's port. -/
def State.port (s : State) (l : Link) : Port := s.ports.get l

/-- Replace a link's port. -/
def State.setPort (s : State) (l : Link) (x : Port) : State := { s with ports := s.ports.set l x }

/-- The link of an owner's records: the safety link for SAFETY, the operations link for the other
three (R6). -/
def ownerLink : Owner → Link
  | .safety => .safety
  | .operator => .operations
  | .dispatch => .operations
  | .autonomy => .operations
  | .governor => .operations

end Sys2Proof.Machine
end

