-- ==== Sys2Proof/Machine/Flags.lean ====
section
/-! DEFINITION. The sets and flags of the part: attention causes and the attention line (R187), hold
causes and conditions (R170, R172), trip causes (R173), and the flag bytes shown in status. -/

namespace Sys2Proof.Machine

/-! ### Attention (R187) -/

/-- The nine attention causes (R187). -/
inductive Attention
  | restarted | holdEntered | tripped | sourceFail | recordExpired | payloadClass | gridFault
  | sweepReady | brakeAssistOn
  deriving DecidableEq, Repr

/-- The bit of an attention cause (R187). -/
def Attention.bit : Attention → BitVec 9
  | .restarted => 0x001#9
  | .holdEntered => 0x002#9
  | .tripped => 0x004#9
  | .sourceFail => 0x008#9
  | .recordExpired => 0x010#9
  | .payloadClass => 0x020#9
  | .gridFault => 0x040#9
  | .sweepReady => 0x080#9
  | .brakeAssistOn => 0x100#9

/-- The attention line: raised while a pending cause is also in the mask (R187). -/
def Port.line (p : Port) : Bool := p.pending &&& p.mask != 0

/-- A port with a cause made pending, whatever the mask says (R187). -/
def Port.raised (p : Port) (c : Attention) : Port := { p with pending := p.pending ||| c.bit }

/-- Make a cause pending on one link (R187). -/
def raiseOn (l : Link) (c : Attention) (s : State) : State := s.setPort l ((s.port l).raised c)

/-- Make a cause pending on both links (R187). -/
def raise (c : Attention) (s : State) : State :=
  { s with ports := ⟨s.ports.operations.raised c, s.ports.safety.raised c⟩ }

/-- Make a cause pending on both links when a condition holds. -/
def raiseIf (b : Bool) (c : Attention) (s : State) : State := if b then raise c s else s

/-- An attention set from a request: bits 9 to 15 must be 0 (R188). The field's first byte is the low one
(DESIGN CHOICE, log entry 46). -/
def attentionSet (h : Half) : Option (BitVec 9) :=
  if h.toNat < 512 then some (h.setWidth 9) else none

/-! ### Hold causes and conditions (R170, R172) -/

/-- The hold causes (R170). -/
inductive HoldCause | demandLost | steerFault | steerCrit | wheelLost | safetyHold | startMoving
  deriving DecidableEq, Repr

/-- The hold set with a cause added (R170: each at most once). -/
def HoldSet.add (h : HoldSet) : HoldCause → HoldSet
  | .demandLost => { h with demandLost := true }
  | .steerFault => { h with steerFault := true }
  | .steerCrit => { h with steerCrit := true }
  | .wheelLost => { h with wheelLost := true }
  | .safetyHold => { h with safetyHold := true }
  | .startMoving => { h with startMoving := true }

/-- Whether a cause is in the hold set. -/
def HoldSet.has (h : HoldSet) : HoldCause → Bool
  | .demandLost => h.demandLost
  | .steerFault => h.steerFault
  | .steerCrit => h.steerCrit
  | .wheelLost => h.wheelLost
  | .safetyHold => h.safetyHold
  | .startMoving => h.startMoving

/-- The conditions present with a cause added; only STEER_FAULT and STEER_CRIT are stored (R170). -/
def Conditions.add (c : Conditions) : HoldCause → Conditions
  | .steerFault => { c with steerFault := true }
  | .steerCrit => { c with steerCrit := true }
  | .demandLost => c
  | .wheelLost => c
  | .safetyHold => c
  | .startMoving => c

/-- The conditions present with a cause taken away (R172). -/
def Conditions.remove (c : Conditions) : HoldCause → Conditions
  | .steerFault => { c with steerFault := false }
  | .steerCrit => { c with steerCrit := false }
  | .demandLost => c
  | .wheelLost => c
  | .safetyHold => c
  | .startMoving => c

/-- Whether STEER_FAULT or STEER_CRIT is among the conditions present. -/
def Conditions.any (c : Conditions) : Bool := c.steerFault || c.steerCrit

/-- The hold set as a byte, in R170's order (R186). -/
def HoldSet.field (h : HoldSet) : List Byte :=
  bits [h.demandLost, h.steerFault, h.steerCrit, h.wheelLost, h.safetyHold, h.startMoving]

/-- The conditions present as a byte (R186). -/
def Conditions.field (c : Conditions) : List Byte := bits [c.steerFault, c.steerCrit]

/-! ### Trip causes (R173) -/

/-- The later trip causes with a cause added (R173). -/
def TripSet.add (t : TripSet) : TripCause → TripSet
  | .trip => { t with trip := true }
  | .linkOvervolt => { t with linkOvervolt := true }
  | .referenceLost => { t with referenceLost := true }
  | .bothWheelsLost => { t with bothWheelsLost := true }

/-- The later trip causes as a byte (R186). -/
def TripSet.field (t : TripSet) : List Byte :=
  bits [t.trip, t.linkOvervolt, t.referenceLost, t.bothWheelsLost]

/-- The brake assist causes as a byte, in R112's order (R186). -/
def AssistCauses.field (c : AssistCauses) : List Byte :=
  bits [c.trip, c.standstill, c.retardShort, c.gradeShort, c.linkHigh]

end Sys2Proof.Machine
end

