-- ==== Sys2Proof/Machine/Ops.lean ====
section
/-! DEFINITION. The shared operations: taking a request and forming its answer (R184, R185), the Limit
Table's views and the resolution of the envelope (R3, R8, R29 to R32), governor record updates (R9),
the brake assist evaluation (R129, R130), and the changes of drive state that every cause goes through
(R77, R87, R92, R93, R170 to R173). -/

namespace Sys2Proof.Machine

/-! ### Taking a request (R183 to R186) -/

/-- The outcome of a request and the fields of its answer's body. -/
structure Reply where
  outcome : ReplyCode
  body : List Byte
  deriving DecidableEq, Repr

/-- DONE with these fields. -/
def Reply.ok (fields : List Byte) : Reply := ⟨.done, fields⟩

/-- A refusal with a body of zeros (R185). -/
def Reply.refuse (c : ReplyCode) : Reply := ⟨c, []⟩

/-- The authority a request speaks for: SAFETY on the safety link whatever it claims; on the operations
link a claim of OPERATOR, DISPATCH or AUTONOMY and nothing else (R185, check 2). -/
def authorityOf (h : Hdr) : Option Owner :=
  match h.link with
  | .safety => some .safety
  | .operations =>
    match h.claim.toNat with
    | 0 => some .operator
    | 1 => some .dispatch
    | 2 => some .autonomy
    | _ => none

/-- An answer with this outcome and these fields (R184, R186). -/
def answerOf (h : Hdr) (code : Byte) (r : Reply) : Answer := ⟨code, h.tag, r.outcome, padBody r.body⟩

/-- At the end of an exchange the port has given out the answer formed before, and holds the new one
for the next exchange (R184). -/
def Port.answered (p : Port) (a : Answer) : Port := { p with given := p.answer, answer := a }

/-- Form an answer on a link. -/
def formAnswer (l : Link) (a : Answer) (s : State) : State := s.setPort l ((s.port l).answered a)

/-- The authorities of R185's table. -/
def anyAuthority (_ : Owner) : Bool := true

/-- DISPATCH and SAFETY. -/
def dispatchOrSafety (a : Owner) : Bool := a == .dispatch || a == .safety

/-- DISPATCH and AUTONOMY. -/
def dispatchOrAutonomy (a : Owner) : Bool := a == .dispatch || a == .autonomy

/-- DISPATCH, AUTONOMY and SAFETY. -/
def notOperator (a : Owner) : Bool := a == .dispatch || a == .autonomy || a == .safety

/-- OPERATOR and SAFETY. -/
def operatorOrSafety (a : Owner) : Bool := a == .operator || a == .safety

/-- SAFETY alone. -/
def safetyOnly (a : Owner) : Bool := a == .safety

/-- What a request does before its answer is formed: the authority checks of R185, then the request's
own work, which gives the state after it and its reply. -/
def requestEffect (h : Hdr) (allowed : Owner → Bool) (work : Owner → State → State × Reply)
    (s : State) : State × Reply :=
  match authorityOf h with
  | none => (s, .refuse .authority)
  | some a => if allowed a then work a s else (s, .refuse .authority)

/-- Take a request: its effect, and its answer formed at the same event from the state after it
(R183). -/
def takeRequest (h : Hdr) (code : Byte) (allowed : Owner → Bool)
    (work : Owner → State → State × Reply) (s : State) : State :=
  let r := requestEffect h allowed work s
  formAnswer h.link (answerOf h code r.2) r.1

/-- A request that reads and changes nothing. -/
def reading (f : State → Reply) (_ : Owner) (s : State) : State × Reply := (s, f s)

/-! ### Events inside a periodic step (log entry 1) -/

/-- A command that names an event of a periodic step: the step, when the event comes about in it;
otherwise the event is not due and nothing happens. -/
def whenItComesAbout (event : State → State → Bool) (step : State → State) (s : State) : State :=
  if event s (step s) then step s else s

/-! ### The Limit Table (Chapter 1) -/

/-- Apply a function to every external slot. -/
def mapSlots (f : Slot → Slot) (t : Vector Slot 39) : Vector Slot 39 :=
  ⟨⟨t.toList.map f⟩, by simp⟩

/-- The step of a generation: one up, and 1 after 255 (R3). -/
def nextGen (g : Nat) : Nat := if g ≥ 255 then 1 else g + 1

/-- How many external slots a test picks. -/
def countSlots (pick : Slot → Bool) (s : State) : Nat := (s.table.toList.filter pick).length

/-- A slot after the record in it is retired: FREE, generation advanced (R3, R12, R17). -/
def Slot.retired (x : Slot) : Slot := ⟨nextGen x.gen, none⟩

/-- The record of a slot number, if it is external and occupied. -/
def State.extRecord (s : State) (n : Nat) : Option Rec :=
  if h : n < 39 then s.table[n].record else none

/-- A record that a handle matches (R3). -/
inductive Found
  | ext (slot : Fin 39) (r : Rec)
  | gov (g : Gov)
  deriving DecidableEq, Repr

/-- The match of a handle: R3's table. None is STALE. -/
def matchHandle (s : State) (slot gen : Nat) : Option Found :=
  if h : slot < 39 then
    match s.table[slot].record with
    | some r => if s.table[slot].gen = gen then some (.ext ⟨slot, h⟩ r) else none
    | none => none
  else
    match govOfSlot slot with
    | some g => if gen = 0 then some (.gov g) else none
    | none => none

/-- Put a record into a slot, its generation unchanged. -/
def setRecord (i : Fin 39) (r : Rec) (s : State) : State :=
  { s with table := s.table.set i.val ⟨s.table[i.val].gen, some r⟩ }

/-- Whether an external record is ACTIVE while `current` is the current segment (R8). -/
def activeIn (current : Option Nat) (binding : Option Nat) : Bool :=
  match binding with
  | none => true
  | some _ => binding == current

/-- The key of an external record: owner, kind, scope, binding (R7). -/
def Rec.hasKey (r : Rec) (o : Owner) (k : Kind) (sc : Scope) (seg : Option Nat) : Bool :=
  r.owner == o && r.kind == k && r.scope == sc && r.segment == seg

/-- The bound count of a segment (R42). -/
def boundCount (s : State) (id : Nat) : Nat :=
  countSlots (fun x => x.record.any (fun r => r.segment == some id)) s

/-! ### Resolution (Chapter 2) -/

/-- What the resolver reads of an ACTIVE record (R29). -/
structure ActiveRec where
  handle : Handle
  kind : Kind
  scope : Scope
  value : Nat
  deriving DecidableEq, Repr

/-- What the resolver reads of an external slot. -/
def activeOfSlot (x : Slot × Nat) : Option ActiveRec :=
  match x.1.record with
  | some r => if r.active then some ⟨⟨x.2, x.1.gen⟩, r.kind, r.scope, r.value⟩ else none
  | none => none

/-- What the resolver reads of a governor slot. -/
def activeOfGov (t : GovTable) (g : Gov) : Option ActiveRec :=
  if (t.get g).active then some ⟨⟨g.slot, 0⟩, g.kind, g.scope, (t.get g).value⟩ else none

/-- The ACTIVE records in slot order (R29, R30). -/
def activeRecs (s : State) : List ActiveRec :=
  s.table.toList.zipIdx.filterMap activeOfSlot ++ allGov.filterMap (activeOfGov s.gov)

/-- The ACTIVE records of a kind that cover a wheel (R29). -/
def covering (rs : List ActiveRec) (w : Wheel) (k : Kind) : List ActiveRec :=
  rs.filter (fun r => r.kind == k && r.scope.covers w)

/-- The least of a default and the records' values (R29). -/
def leastValue (dflt : Nat) (rs : List ActiveRec) : Nat :=
  rs.foldl (fun m r => min m r.value) dflt

/-- E and B from a default and the covering records: B is the lowest-numbered record whose value is E,
or DEFAULT (R30). -/
def resolveBound (dflt : Nat) (rs : List ActiveRec) : Bound :=
  ⟨leastValue dflt rs, (rs.find? (fun r => r.value == leastValue dflt rs)).map (·.handle)⟩

/-- E and B of one wheel and kind, from the table as it stands (R29, R30). -/
def resolveKind (s : State) (w : Wheel) (k : Kind) : Bound :=
  resolveBound (s.param k.default) (covering (activeRecs s) w k)

/-- E and B of one wheel. -/
def resolveWheel (s : State) (w : Wheel) : KindBounds :=
  ⟨resolveKind s w .speedMax, resolveKind s w .propelTorque, resolveKind s w .retardTorque,
   resolveKind s w .wheelTorque, resolveKind s w .propelPower, resolveKind s w .steerAngle,
   resolveKind s w .steerRate⟩

/-- Whether a binding handle names a record with immediate set (R32). Governor records carry it
clear (R9). -/
def immediateBinding (s : State) (b : Option Handle) : Bool :=
  match b with
  | none => false
  | some h => (s.extRecord h.slot).any (·.immediate)

/-- A after a resolution: E where E is at or above it or the binding record is immediate, else
unchanged (R32). -/
def keepApplied (e : Nat) (immediate : Bool) (a : Nat) : Nat :=
  if a ≤ e then e else if immediate then e else a

/-- A resolution: all effective values and binding handles, then A (R31, R32). -/
def resolve (s : State) : State :=
  let l := resolveWheel s .left
  { s with
    env := ⟨l, resolveWheel s .right,
      keepApplied l.speedMax.value (immediateBinding s l.speedMax.handle) s.env.applied⟩ }

/-! ### Governor record updates (R9) -/

/-- One update: ACTIVE with a value, or DORMANT, which leaves the value field as it was. -/
def applyGov (t : GovTable) (u : Gov × Option Nat) : GovTable :=
  match u.2 with
  | some v => t.set u.1 ⟨true, v, true⟩
  | none => t.set u.1 { t.get u.1 with active := false }

/-- The updates a block hands over together are one change of the table, and none at all when state
and value stand as they were (R9, R10). -/
def updateGov (us : List (Gov × Option Nat)) (s : State) : State :=
  let t := us.foldl applyGov s.gov
  if t = s.gov then s else resolve { s with gov := t }

/-! ### Segments (Chapter 3) -/

/-- The record of a segment id. -/
def findSegment (s : State) (id : Nat) : Option Segment :=
  s.segs.records.find? (fun g => g.id == id)

/-- The record of the current segment, if one is current (R40). -/
def currentSegment (s : State) : Option Segment := s.segs.current.bind (findSegment s)

/-- The effective grade from grade, heading and direction in force (R41). -/
def effectiveGrade (grade : Int) (h : Heading) (d : Direction) : Int :=
  match h, d with
  | .along, .forward => grade
  | .against, .forward => -grade
  | .along, .reverse => -grade
  | .against, .reverse => grade

/-! ### Brake assist (R129, R130) -/

/-- The brake assist causes that hold (R129). -/
def assistCauses (s : State) : AssistCauses where
  trip := s.drive.state == .tripped
  standstill := (s.drive.state == .hold || s.drive.state == .starting) && decide (s.speed.v < 5)
  retardShort := decide (s.torque.vmax < s.speed.v) &&
    (s.torque.wheels.left.retardBound || s.torque.wheels.right.retardBound)
  gradeShort := s.retard.gradeShort
  linkHigh := s.gov.linkVoltage.active

/-- The level of the RETARD_SHORT cause (R129). -/
def retardShortLevel (v vmax gain : Nat) : Nat := min 1000 ((v - vmax) * gain)

/-- The greatest level of the causes that hold, 0 when none does (R129). -/
def assistLevel (c : AssistCauses) (retardShort : Nat) : Nat :=
  max (if c.trip then 1000 else 0) (max (if c.standstill then 1000 else 0)
    (max (if c.retardShort then retardShort else 0)
      (max (if c.gradeShort then 500 else 0) (if c.linkHigh then 500 else 0))))

/-- Set the level and the causes that hold, as they stand. -/
def setAssist (s : State) : State :=
  let c := assistCauses s
  { s with
    retard := { s.retard with
      causes := c
      assist := assistLevel c
        (retardShortLevel s.speed.v s.torque.vmax (s.param .assistGain)) } }

/-- A brake assist evaluation; a level that rises from 0 makes BRAKE_ASSIST_ON pending (R130). -/
def evaluateAssist (s : State) : State :=
  let t := setAssist s
  raiseIf (s.retard.assist == 0 && t.retard.assist != 0) .brakeAssistOn t

/-! ### Changes of drive state (R77, R87, R92, R93, R170 to R173) -/

/-- The drive states in which torque is zero (R87). -/
def Drive.zeroTorque : Drive → Bool
  | .starting => true
  | .parked => true
  | .releasing => true
  | .tripped => true
  | .ready => false
  | .hold => false

/-- A wheel is MUTED. -/
def WheelState.isMuted (x : WheelState) : Bool := x.mode != .governed

/-- A 0 command message at once, and Tprev 0; history, stage and flag stand (R87). -/
def WheelState.zeroed (d : Direction) (x : WheelState) : WheelState :=
  { x with tprev := 0, sent := ⟨0, d⟩ }

/-- A MUTED wheel whose link is UP returns to GOVERNED, its Tprev 0 (R92). -/
def WheelState.returned (x : WheelState) : WheelState :=
  if x.isMuted && x.link == .up then { x with mode := .governed, tprev := 0 } else x

/-- A wheel at the entry to a drive state: zeroed in a zero-torque state, and at HOLD when its last
command is positive (R87); returned to GOVERNED at PARKED (R92). -/
def wheelOnEntry (d : Drive) (dir : Direction) (x : WheelState) : WheelState :=
  match d with
  | .starting => x.zeroed dir
  | .releasing => x.zeroed dir
  | .tripped => x.zeroed dir
  | .parked => (x.zeroed dir).returned
  | .hold => if 0 < x.tprev then x.zeroed dir else x
  | .ready => x

/-- The demand record and the wheels at the entry to a drive state (R77, R87, R92). -/
def torqueOnEntry (d : Drive) (t : TorqueGov) : TorqueGov :=
  let dir := if d == .starting then .forward else t.direction
  { t with
    demand := none
    lease := if d == .ready then some 25 else none
    steerDemand := if d == .starting then none else t.steerDemand
    direction := dir
    wheels := t.wheels.map (wheelOnEntry d dir) }

/-- The park brake output at the entry to a drive state: true is APPLY (R171). -/
def brakeOnEntry (d : Drive) (v : Nat) : Bool :=
  match d with
  | .parked => true
  | .tripped => decide (v < 5)
  | .starting => false
  | .releasing => false
  | .ready => false
  | .hold => false

/-- Enter a drive state: the neighbours act at the same event, HOLD_ENTERED and TRIPPED are raised, and
the brake assist level is evaluated (R130, R170, R171). Every entry made from STARTING counts as the end
of STARTING and clears the restart trip mark, an entry by a trip cause (R173) too, of which R170 does not
speak (DESIGN CHOICE, log entry 39). -/
def enter (d : Drive) (s : State) : State :=
  let s1 : State :=
    { s with
      drive := { s.drive with
        state := d
        brakeApply := brakeOnEntry d s.speed.v
        tripMark := s.drive.tripMark && s.drive.state != .starting }
      torque := torqueOnEntry d s.torque }
  evaluateAssist (raiseIf (d == .tripped) .tripped (raiseIf (d == .hold) .holdEntered s1))

/-- Enter HOLD with a hold set. -/
def enterHold (h : HoldSet) (s : State) : State :=
  enter .hold { s with drive := { s.drive with hold := h } }

/-- Enter PARKED with the hold set emptied. -/
def enterParked (s : State) : State :=
  enter .parked { s with drive := { s.drive with hold := .empty } }

/-- Hand a hold cause to the controller (R172). WHEEL_LOST and DEMAND_LOST are not handed outside READY
and HOLD; the causes that are not conditions do nothing there. -/
def handHold (c : HoldCause) (s : State) : State :=
  let s1 : State := { s with drive := { s.drive with conditions := s.drive.conditions.add c } }
  match s.drive.state with
  | .ready => enterHold (HoldSet.empty.add c) s1
  | .hold => { s1 with drive := { s1.drive with hold := s1.drive.hold.add c } }
  | .starting => s1
  | .parked => s1
  | .releasing => s1
  | .tripped => s1

/-- Hand a trip cause to the controller (R173). -/
def handTrip (c : TripCause) (s : State) : State :=
  if s.drive.state = .tripped then
    if s.drive.trip = some c then s
    else { s with drive := { s.drive with later := s.drive.later.add c } }
  else
    enter .tripped
      { s with
        drive := { s.drive with
          trip := some c
          later := .empty
          hold := .empty
          timer := none
          outcome := if s.drive.state = .releasing then .aborted else s.drive.outcome
          applyCount := 0 } }

/-- The wheel-loss cause of an event that leaves these wheels MUTED, in READY or HOLD (R93): none MUTED
hands nothing, one WHEEL_LOST, both BOTH_WHEELS_LOST. -/
def handWheelLoss (s : State) : State :=
  if s.drive.state = .ready ∨ s.drive.state = .hold then
    if s.torque.wheels.left.isMuted && s.torque.wheels.right.isMuted then
      handTrip .bothWheelsLost s
    else if s.torque.wheels.left.isMuted || s.torque.wheels.right.isMuted then
      handHold .wheelLost s
    else s
  else s

/-- A GOVERNED wheel becomes MUTED: its cause is kept and a 0 command goes at once (R87, R91). A MUTED
wheel stays as it is. -/
def WheelState.muted (m : WheelMode) (d : Direction) (x : WheelState) : WheelState :=
  if x.isMuted then x else { x.zeroed d with mode := m }

/-- Leave RELEASING with an outcome: the release timer goes idle (R174, R176). -/
def endRelease (o : ReleaseOutcome) (s : State) : State :=
  { s with drive := { s.drive with timer := none, outcome := o } }

end Sys2Proof.Machine
end

