-- ==== Sys2Proof/Machine/Adhesion.lean ====
section
/-! DEFINITION. The Adhesion Controller (Chapter 6): the cut, the search, the re-probe, the class
presets and the reclamp, each on one wheel's record. -/

namespace Sys2Proof.Machine

/-- 100 ‰ of P_WHEEL_RATED: the floor bound (R98). -/
def floorBound (rated : Nat) : Nat := rated * 100 / 1000

/-- The search step (R104). -/
def searchStepOf (rated step : Nat) : Nat := rated * step / 1000

/-- The mean magnitude of the last ten issued commands (R102, R165). -/
def meanMagnitude (h : Vector Int 10) : Nat := (h.toList.map Int.natAbs).sum / 10

/-- The controller's freeze: no FRONT or SAT source is current (R101). -/
def frozen (current : Option Source) : Bool :=
  match current with
  | some .front => false
  | some .sat => false
  | some .rear => true
  | none => true

/-- The measured slip of a wheel, ‰ (R100). -/
def measuredSlip (w v : Nat) : Int := Int.tdiv (((w : Int) - v) * 1000) (max v 30 : Nat)

/-- A slip event by measured slip (R100). -/
def slipMeasured (last slip : Int) (propel retard : Nat) : Bool :=
  if 0 < last then decide ((propel : Int) < slip)
  else if last < 0 then decide (slip < -(retard : Int))
  else false

/-- A slip event by the change of the wheel's own speed (R101). -/
def slipBySpeed (last : Int) (before : Option Nat) (w : Nat) : Bool :=
  match before with
  | none => false
  | some b =>
    if 0 < last then decide (b + 20 < w)
    else if last < 0 then decide (w + 20 < b)
    else false

/-- The cut of a wheel in FREE, HOLD or SETTLED (R102), and the end of the search of a wheel in SEARCH
(R105). -/
def Grip.slipped (rated : Nat) (history : Vector Int 10) (g : Grip) : Grip :=
  if g.state = .search then
    { g with ceiling := g.best, state := .settled, reprobe := 0, slips := (g.slips + 1) % 256 }
  else
    { g with
      ceiling := min g.ceiling (max (floorBound rated) (meanMagnitude history * 700 / 1000))
      state := .hold
      dwell := 0
      sum := 0
      slips := (g.slips + 1) % 256 }

/-- One step up: FREE at P_WHEEL_RATED, or SEARCH with a fresh dwell (R104, R106). -/
def Grip.climb (rated step : Nat) (g : Grip) : Grip :=
  if rated ≤ g.ceiling + step then { g with ceiling := rated, state := .free }
  else { g with ceiling := g.ceiling + step, state := .search, dwell := 0, sum := 0 }

/-- The re-probe count of a SETTLED wheel, and the new search it starts (R106). -/
def Grip.counted (rated step research : Nat) (isFrozen : Bool) (g : Grip) : Grip :=
  if g.state = .settled ∧ isFrozen = false then
    if research ≤ g.reprobe + 1 then
      Grip.climb rated step
        { g with reprobe := g.reprobe + 1, best := g.ceiling, fbest := 0, misses := 0 }
    else { g with reprobe := g.reprobe + 1 }
  else g

/-- What a slip window finds for one wheel: its slip figure and whether a slip event has occurred (R99
to R101). The polarity is the sign of the last command handed at a command hand-over, which is the
newest entry of the history. -/
def slipFigures (s : State) (w : Wheel) (surface : Nat) : Int × Bool :=
  let last := (s.wheel w).history.toList.getLastD 0
  if frozen s.speed.current then (0, slipBySpeed last (s.grip.get w).lastSpeed surface)
  else
    let slip := measuredSlip surface s.speed.v
    (slip, slipMeasured last slip (s.param .slipPropel) (s.param .slipRetard))

/-- One wheel's record after a slip window: slip test, slip event, re-probe count, last wheel speed, in
that order (R99). -/
def gripAtWindow (s : State) (w : Wheel) (surface : Nat) : Grip :=
  let rated := s.param .wheelRated
  let f := slipFigures s w surface
  let g1 : Grip := { s.grip.get w with lastSlip := f.1 }
  let g2 := if f.2 then g1.slipped rated (s.wheel w).history else g1
  let g3 := g2.counted rated (searchStepOf rated (s.param .searchStep)) (s.param .researchTime)
    (frozen s.speed.current)
  { g3 with lastSpeed := some surface }

/-- The slip window: both wheels, from the window's wheel surface speeds (R99). -/
def slipWindow (surface : PerWheel Nat) (s : State) : State :=
  { s with grip := ⟨gripAtWindow s .left surface.left, gripAtWindow s .right surface.right⟩ }

/-- The end of a HOLD dwell (R104). -/
def Grip.holdEnds (rated step : Nat) (g : Grip) : Grip :=
  Grip.climb rated step { g with best := g.ceiling, fbest := g.sum / 100, misses := 0 }

/-- The figure of merit taken into the search's record: steps 1 and 2 of R104. -/
def Grip.judged (g : Grip) : Grip :=
  if g.fbest + 5 < g.sum / 50 then { g with best := g.ceiling, fbest := g.sum / 50, misses := 0 }
  else { g with misses := g.misses + 1 }

/-- The end of a SEARCH dwell (R104). -/
def Grip.searchEnds (rated step look : Nat) (g : Grip) : Grip :=
  let j := g.judged
  if look < j.misses then { j with ceiling := j.best, state := .settled, reprobe := 0 }
  else j.climb rated step

/-- One wheel's record after a command hand-over: the command issued and, where the chain ran, |T2|
(R103). -/
def Grip.handedOver (rated step look : Nat) (isFrozen : Bool) (issued : Int) (asked : Option Nat)
    (g : Grip) : Grip :=
  if isFrozen then g
  else
    let c : Grip := { g with dwell := g.dwell + 1, sum := g.sum + issued.natAbs }
    match g.state with
    | .free => g
    | .settled => g
    | .hold => if 100 ≤ c.dwell then c.holdEnds rated step else c
    | .search =>
      if asked.any (fun t => decide (g.ceiling ≤ t)) then
        if 50 ≤ c.dwell then c.searchEnds rated step look else c
      else g

/-- The class figure of a preset, ‰ of P_WHEEL_RATED; DRY has none (R107). -/
def AdhesionClass.figure : AdhesionClass → Option Nat
  | .dry => none
  | .wet => some 600
  | .mud => some 450
  | .ice => some 300

/-- One wheel's record after a class preset (R107). -/
def Grip.preset (rated : Nat) (c : AdhesionClass) (g : Grip) : Grip :=
  match c.figure with
  | none => g
  | some f => { g with ceiling := min g.ceiling (rated * f / 1000), state := .settled, reprobe := 0 }

/-- A class preset on both wheels at one event (R107). -/
def applyPreset (c : AdhesionClass) (s : State) : State :=
  { s with grip := s.grip.map (Grip.preset (s.param .wheelRated) c) }

/-- One wheel's record after a change of P_WHEEL_RATED (R98). -/
def Grip.reclamped (rated : Nat) (g : Grip) : Grip :=
  if g.state = .free then { g with ceiling := rated }
  else
    { g with
      ceiling := clampNat g.ceiling (floorBound rated) rated
      best := clampNat g.best (floorBound rated) rated }

/-- The reclamp of both wheels at a change of P_WHEEL_RATED (R98). -/
def reclamp (s : State) : State :=
  { s with grip := s.grip.map (Grip.reclamped (s.param .wheelRated)) }

/-- A wheel's record after a restart (R109). -/
def Grip.restarted (rated : Nat) : Grip := ⟨.free, rated, 0, 0, rated, 0, 0, 0, none, 0, 0⟩

end Sys2Proof.Machine
end

