-- ==== Sys2Proof/Machine/Torque.lean ====
section
/-! DEFINITION. The Torque Governor (Chapter 5): SET_DEMAND, the command step with its chain S1 to S7,
and the inverter links. -/

namespace Sys2Proof.Machine

/-! ### SET_DEMAND (R72 to R74) -/

/-- The control mode names this authority (5.2). -/
def modeAuthority (m : ControlMode) (a : Owner) : Bool :=
  match m with
  | .manned => a == .operator
  | .autonomous => a == .autonomy

/-- Torque Governor replaced. -/
def withTorque (t : TorqueGov) (s : State) : State := { s with torque := t }

/-- A change of the direction in force is made below 0.5 km/h and zeroes both Tprev (R74). -/
def TorqueGov.turned (d : Direction) (v : Nat) (t : TorqueGov) : TorqueGov :=
  if t.direction ≠ d ∧ v < 5 then
    { t with direction := d, wheels := t.wheels.map (fun x => { x with tprev := 0 }) }
  else t

/-- A SET_DEMAND taken in READY (R73, R74). -/
def demandInReady (demand steer : Int) (d : Direction) (s : State) : State :=
  withTorque
    { s.torque.turned d s.speed.v with
      demand := some demand, steerDemand := some steer, lease := some 25 } s

/-- A SET_DEMAND taken in HOLD: the steer demand alone (R73). -/
def demandInHold (steer : Int) (s : State) : State :=
  withTorque { s.torque with steerDemand := some steer } s

/-- The answer of a SET_DEMAND that passes, from the state after it (R72). An idle lease is shown as an
absent value (DESIGN CHOICE, log entry 40). -/
def demandFields (steer : Int) (t : State) : List Byte :=
  u8 t.drive.state.code ++ optS16 t.torque.demand ++ s16 steer ++ u8 t.torque.direction.code ++
    optU16 t.torque.lease

/-- D as taken (R72). -/
def demandOf (h : Half) : Int := clampInt h.toInt (-1000) 1000

/-- The steer demand as taken (R72). -/
def steerOf (h : Half) : Int := clampInt h.toInt (-450) 450

/-- A SET_DEMAND past its checks. -/
def demandTaken (demand steer : Half) (d : Direction) (s : State) : State :=
  if s.drive.state = .ready then demandInReady (demandOf demand) (steerOf steer) d s
  else demandInHold (steerOf steer) s

/-- SET_DEMAND's checks in R72's order, and its effect. -/
def setDemandWork (demand steer : Half) (direction : Byte) (a : Owner) (s : State) :
    State × Reply :=
  if modeAuthority s.drive.mode a = false then (s, .refuse .notOwner)
  else
    match directionOfCode direction with
    | none => (s, .refuse .badValue)
    | some d =>
      if s.drive.state = .ready ∨ s.drive.state = .hold then
        let t := demandTaken demand steer d s
        (t, .ok (demandFields (steerOf steer) t))
      else (s, .refuse .state)

/-- SET_DEMAND (code 40). -/
def execSetDemand (h : Hdr) (demand steer : Half) (direction : Byte) (s : State) :
    Host.Outcome State Fault Refusal :=
  .next (takeRequest h 0x40 anyAuthority (setDemandWork demand steer direction) s)

/-! ### The lease and silence counts (R75, R90) -/

/-- The lease is about to expire (R75). -/
def leaseExpires (s : State) : Bool :=
  s.drive.state == .ready && s.torque.lease.any (fun r => decide (r ≤ 1))

/-- The lease count of a command step (R75). -/
def leaseCounted (s : State) : State :=
  if leaseExpires s then
    handHold .demandLost (withTorque { s.torque with demand := none, lease := none } s)
  else if s.drive.state = .ready then
    withTorque { s.torque with lease := s.torque.lease.map (fun r => r - 1) } s
  else s

/-- The silence count of a wheel: at the step that brings it to 5 the link is SILENT and a GOVERNED
wheel becomes MUTED (R90, R91). -/
def WheelState.silenced (d : Direction) (x : WheelState) : WheelState :=
  if 5 ≤ x.silence then x
  else if x.silence = 4 then ({ x with silence := 5, link := .silent }).muted .mutedSilent d
  else { x with silence := x.silence + 1 }

/-- A wheel was GOVERNED and is MUTED. -/
def newlyMuted (s t : State) : Bool :=
  (!s.torque.wheels.left.isMuted && t.torque.wheels.left.isMuted) ||
    (!s.torque.wheels.right.isMuted && t.torque.wheels.right.isMuted)

/-- The silence count of both wheels, and the wheel-loss cause when a wheel becomes MUTED (R90, R93). -/
def silenceCounted (s : State) : State :=
  let t := withTorque
    { s.torque with wheels := s.torque.wheels.map (WheelState.silenced s.torque.direction) } s
  if newlyMuted s t then handWheelLoss t else t

/-! ### The chain (R76, R78 to R85) -/

/-- The speed limit in use (R76). -/
def vmaxOf (s : State) : Nat :=
  match s.torque.direction with
  | .forward => s.env.applied
  | .reverse => min s.env.applied (s.param .reverseSpeed)

/-- The number of GOVERNED wheels (R78). -/
def governedCount (t : TorqueGov) : Nat :=
  (!t.wheels.left.isMuted).toNat + (!t.wheels.right.isMuted).toNat

/-- S1 (R79): D, or 0 when none, in READY; the hold retard in HOLD. -/
def baseTorque (d : Drive) (demand : Int) (tp tr holdRetard v : Nat) : Int :=
  if d = .hold then
    if 5 ≤ v then -((holdRetard * tr / 1000 : Nat) : Int) else 0
  else if 0 ≤ demand then ((demand.natAbs * tp / 1000 : Nat) : Int)
  else -((demand.natAbs * tr / 1000 : Nat) : Int)

/-- S2 (R80). -/
def speedGoverned (t0 : Int) (v vmax band gain tr : Nat) : Int :=
  if vmax ≤ v then min (min t0 0) (-((min tr ((v - vmax) * gain) : Nat) : Int))
  else if 0 < t0 ∧ vmax ≤ v + band then t0 * ((vmax - v : Nat) : Int) / (band : Int)
  else t0

/-- A power bound in kN·m at the wheel's surface speed (R82). -/
def powerBound (p radius v : Nat) : Nat := p * 36 * radius / (max v 30 * 1000)

/-- S4 (R82). -/
def powerClamped (t2 : Int) (propel retard : Nat) : Int :=
  if 0 ≤ t2 then min t2 propel else max t2 (-(retard : Int))

/-- The steering offset of S5 (R83). -/
def steerOffset (t3 steer : Int) (gain : Nat) : Int := Int.tdiv (t3 * steer * gain) 10000

/-- S5 (R83): less for LEFT, more for RIGHT. -/
def steerShared (w : Wheel) (t3 offset : Int) : Int :=
  match w with
  | .left => t3 - offset
  | .right => t3 + offset

/-- S6 (R84). -/
def rateLimited (tprev t4 : Int) (jerk : Nat) : Int :=
  tprev + clampInt (t4 - tprev) (-(jerk : Int)) jerk

/-- The values of a chain's run. -/
structure Chain where
  t0 : Int
  t1 : Int
  t2 : Int
  t3 : Int
  t4 : Int
  t5 : Int
  t6 : Int
  lr : Nat
  lp : Nat
  deriving DecidableEq, Repr

/-- The bounds of S7 and S3 of one wheel (R78, R81, R85). -/
structure WheelBounds where
  tp : Nat
  tr : Nat
  tw : Nat
  grip : Nat
  propel : Nat
  retard : Nat
  deriving DecidableEq, Repr

/-- The figures of a wheel at a command step: E of its kinds, its ceiling, and its power bounds with the
retard share of n GOVERNED wheels (R78, R82). -/
def wheelBounds (s : State) (w : Wheel) (n : Nat) : WheelBounds where
  tp := s.eff w .propelTorque
  tr := s.eff w .retardTorque
  tw := s.eff w .wheelTorque
  grip := (s.grip.get w).ceiling
  propel := powerBound (s.eff w .propelPower) (s.param .tyreRadius) s.speed.v
  retard := powerBound (s.retard.pcap / n) (s.param .tyreRadius) s.speed.v

/-- Lr of S7 (R85). -/
def WheelBounds.lr (b : WheelBounds) : Nat := min (min b.tr b.tw) (min b.grip b.retard)

/-- Lp of S7: 0 in HOLD (R85). -/
def WheelBounds.lp (b : WheelBounds) (d : Drive) : Nat :=
  if d = .hold then 0 else min (min b.tp b.tw) (min b.grip b.propel)

/-- The chain S1 to S7 of one wheel (R79 to R85). -/
def runChain (s : State) (w : Wheel) (n : Nat) : Chain :=
  let b := wheelBounds s w n
  let t0 := baseTorque s.drive.state (s.torque.demand.getD 0) b.tp b.tr (s.param .holdRetard)
    s.speed.v
  let t1 := speedGoverned t0 s.speed.v (vmaxOf s) (s.param .taperBand) (s.param .ovsGain) b.tr
  let t2 := clampInt t1 (-((min b.tr b.tw : Nat) : Int)) (min b.tp b.tw : Nat)
  let t3 := powerClamped t2 b.propel b.retard
  let t4 := steerShared w t3 (steerOffset t3 (s.steer.command.getD 0) (s.param .edGain))
  let t5 := rateLimited (s.wheel w).tprev t4 (s.param .jerk)
  ⟨t0, t1, t2, t3, t4, t5, clampInt t5 (-(b.lr : Int)) (b.lp s.drive.state : Nat), b.lr,
    b.lp s.drive.state⟩

/-- The limiting stage of a run: the last stage whose clamp changed the value (R86). -/
def Chain.stage (c : Chain) : Stage :=
  if c.t6 ≠ c.t5 then .final
  else if c.t5 ≠ c.t4 then .rate
  else if c.t3 ≠ c.t2 then .power
  else if c.t2 ≠ c.t1 then .envelope
  else if c.t1 ≠ c.t0 then .speed
  else .none

/-- The retard-bound flag of a run (R86). -/
def Chain.retardBound (c : Chain) : Bool :=
  decide (c.t4 ≤ -(c.lr : Int)) && decide (c.t6 = -(c.lr : Int))

/-! ### Issue and hand-over (R86, R87, R103) -/

/-- Append a command to a history and drop the oldest entry (R71). -/
def pushHistory (h : Vector Int 10) (t : Int) : Vector Int 10 :=
  ⟨⟨h.toList.drop 1 ++ [t]⟩, by simp⟩

/-- What a command step issues for a wheel: the command, the limiting stage, the flag, and |T2| where
the chain ran. -/
structure Issue where
  torque : Int
  stage : Stage
  retardBound : Bool
  asked : Option Nat
  deriving DecidableEq, Repr

/-- The zero command of R87; ZERO in a zero-torque drive state, MUTED otherwise (R86; log entry 15). -/
def Issue.zero (d : Drive) : Issue := ⟨0, if d.zeroTorque then .zero else .muted, false, none⟩

/-- What a command step issues for a wheel, after the counts (R78, R87). -/
def issueOf (s : State) (w : Wheel) : Issue :=
  if s.drive.state.zeroTorque || (s.wheel w).isMuted then .zero s.drive.state
  else
    let c := runChain s w (governedCount s.torque)
    ⟨c.t6, c.stage, c.retardBound, some c.t2.natAbs⟩

/-- A wheel after its command is issued (R86). -/
def WheelState.issued (d : Direction) (i : Issue) (x : WheelState) : WheelState :=
  { x with
    tprev := i.torque
    history := pushHistory x.history i.torque
    stage := i.stage
    retardBound := i.retardBound
    sent := ⟨i.torque, d⟩ }

/-- One wheel's adhesion record after the command hand-over (R103). -/
def gripHanded (s : State) (w : Wheel) (i : Issue) : Grip :=
  let rated := s.param .wheelRated
  (s.grip.get w).handedOver rated (searchStepOf rated (s.param .searchStep)) (s.param .lookBeyond)
    (frozen s.speed.current) i.torque i.asked

/-- The issue of both commands and the hand-over (R86). -/
def handOver (s : State) : State :=
  let il := issueOf s .left
  let ir := issueOf s .right
  { s with
    torque := { s.torque with
      vmax := vmaxOf s
      wheels := ⟨s.torque.wheels.left.issued s.torque.direction il,
        s.torque.wheels.right.issued s.torque.direction ir⟩ }
    grip := ⟨gripHanded s .left il, gripHanded s .right ir⟩ }

/-- The command step (R78), and the brake assist evaluation at its end (R130). -/
def commandStepState (s : State) : State :=
  evaluateAssist (handOver (silenceCounted (leaseCounted s)))

/-- COMMAND_STEP. -/
def execCommandStep (s : State) : Host.Outcome State Fault Refusal := .next (commandStepState s)

/-! ### Events inside a command step (log entry 1) -/

/-- DEMAND_LEASE_EXPIRY: the command step at which the demand lease expires (R75). -/
def execDemandLeaseExpiry (s : State) : Host.Outcome State Fault Refusal :=
  .next (whenItComesAbout (fun x _ => leaseExpires x) commandStepState s)

/-- A wheel's silence count reaches 5 (R90). -/
def fallsSilent (w : Wheel) (s t : State) : Bool :=
  decide ((s.wheel w).silence < 5) && decide ((t.wheel w).silence = 5)

/-- INVERTER_SILENT: the command step at which a link falls SILENT (R90, R91). -/
def execInverterSilent (w : Wheel) (s : State) : Host.Outcome State Fault Refusal :=
  .next (whenItComesAbout (fallsSilent w) commandStepState s)

/-- A wheel's HOLD dwell ends (R104). -/
def holdDwellEnds (w : Wheel) (s t : State) : Bool :=
  (s.grip.get w).state == .hold && (t.grip.get w).state != .hold

/-- HOLD_DWELL_END: the command step at which a wheel's HOLD dwell ends (R104). -/
def execHoldDwellEnd (w : Wheel) (s : State) : Host.Outcome State Fault Refusal :=
  .next (whenItComesAbout (holdDwellEnds w) commandStepState s)

/-- A wheel's SEARCH dwell ends: it leaves SEARCH or its dwell count starts again (R104). -/
def searchDwellEnds (w : Wheel) (s t : State) : Bool :=
  (s.grip.get w).state == .search &&
    ((t.grip.get w).state != .search || decide ((t.grip.get w).dwell < (s.grip.get w).dwell))

/-- SEARCH_DWELL_END: the command step at which a wheel's SEARCH dwell ends (R104). -/
def execSearchDwellEnd (w : Wheel) (s : State) : Host.Outcome State Fault Refusal :=
  .next (whenItComesAbout (searchDwellEnds w) commandStepState s)

/-! ### Inverter messages (R89, R91, R92) -/

/-- A wheel after a status message (R89, R91, R92). -/
def WheelState.reported (fault : Bool) (dir : Direction) (d : Drive) (x : WheelState) :
    WheelState :=
  if fault then ({ x with silence := 0, link := .fault }).muted .mutedFault dir
  else
    let y : WheelState := { x with silence := 0, link := .up }
    if d = .starting ∨ d = .parked then y.returned else y

/-- The motor speed handed to the Speed Reference Unit (R54, R89). -/
def SpeedUnit.told (w : Wheel) (rpm : Nat) (u : SpeedUnit) : SpeedUnit :=
  { u with rpm := u.rpm.set w rpm, marks := u.marks.set w true }

/-- The state after an inverter message: the speed, the wheel, and the wheel-loss cause when the wheel
becomes MUTED (R89, R93). -/
def inverterMessageState (w : Wheel) (rpm : Nat) (fault : Bool) (s : State) : State :=
  let t : State :=
    { s with speed := s.speed.told w rpm }.setWheel w
      ((s.wheel w).reported fault s.torque.direction s.drive.state)
  if newlyMuted s t then handWheelLoss t else t

/-- INVERTER_MESSAGE. -/
def execInverterMessage (w : Wheel) (rpm : Nat) (fault : Bool) (s : State) :
    Host.Outcome State Fault Refusal :=
  .next (inverterMessageState w rpm fault s)

end Sys2Proof.Machine
end

