-- ==== Sys2Proof/Machine/Drive.lean ====
section
/-! DEFINITION. The Drive State Controller's requests and the end of RELEASING (Chapter 10). Entering a
state, and the causes that other blocks hand, are in Ops; its part of a window is in Speed. -/

namespace Sys2Proof.Machine

/-- The first check of PARK, UNPARK and CLEAR_HOLD: the control-mode authority or SAFETY (10.3). -/
def drives (a : Owner) (s : State) : Bool := a == .safety || modeAuthority s.drive.mode a

/-- The body of a DONE answer of this chapter: the drive state after the request (10.3). -/
def driveReply (t : State) : Reply := .ok (u8 t.drive.state.code)

/-- A request of this chapter that passes: the state after it, and its answer. -/
def driveDone (t : State) : State × Reply := (t, driveReply t)

/-! ### PARK (R174) -/

/-- A PARK past its checks: PARKED stays as it is; a RELEASING ends ABORTED. -/
def parkState (s : State) : State :=
  match s.drive.state with
  | .parked => s
  | .releasing => enterParked (endRelease .aborted s)
  | .ready => enterParked s
  | .hold => enterParked s
  | .starting => s
  | .tripped => s

/-- PARK's checks in R174's order, and its effect. -/
def parkWork (a : Owner) (s : State) : State × Reply :=
  if drives a s = false then (s, .refuse .notOwner)
  else if s.drive.state = .tripped ∨ s.drive.state = .starting then (s, .refuse .state)
  else if 5 ≤ s.speed.v then (s, .refuse .moving)
  else driveDone (parkState s)

/-- PARK (code 41). -/
def execPark (h : Hdr) (s : State) : Host.Outcome State Fault Refusal :=
  .next (takeRequest h 0x41 anyAuthority parkWork s)

/-! ### UNPARK (R175) -/

/-- An UNPARK past its checks: RELEASING, the timer at 2000 ms, the outcome NONE. -/
def unparkState (s : State) : State :=
  enter .releasing { s with drive := { s.drive with timer := some 2000, outcome := .none } }

/-- UNPARK's checks in R175's order, and its effect. -/
def unparkWork (a : Owner) (s : State) : State × Reply :=
  if drives a s = false then (s, .refuse .notOwner)
  else if s.drive.state = .releasing then (s, .refuse .busy)
  else if s.drive.state ≠ .parked then (s, .refuse .state)
  else if s.speed.current = none ∨ s.drive.conditions.steerCrit = true then (s, .refuse .notReady)
  else driveDone (unparkState s)

/-- UNPARK (code 42). -/
def execUnpark (h : Hdr) (s : State) : Host.Outcome State Fault Refusal :=
  .next (takeRequest h 0x42 anyAuthority unparkWork s)

/-! ### The end of RELEASING (R176) -/

/-- The brake-released input has changed to RELEASED in RELEASING: READY, or HOLD under the conditions
present, and the wheel-loss cause of the entry (R93, R176). -/
def releasedState (s : State) : State :=
  let t := endRelease .released s
  handWheelLoss
    (if s.drive.conditions.any then
       enterHold
         { HoldSet.empty with
           steerFault := s.drive.conditions.steerFault
           steerCrit := s.drive.conditions.steerCrit } t
     else enter .ready t)

/-- A reading of the brake-released input: no change is no event; a change is recorded, and in RELEASING
a change to RELEASED ends the release (R171, R176). -/
def brakeInputState (released : Bool) (s : State) : State :=
  if s.drive.brakeReleased = released then s
  else
    let t : State := { s with drive := { s.drive with brakeReleased := released } }
    if released = true ∧ s.drive.state = .releasing then releasedState t else t

/-- BRAKE_RELEASED_INPUT. -/
def execBrakeReleasedInput (released : Bool) (s : State) : Host.Outcome State Fault Refusal :=
  .next (brakeInputState released s)

/-- The release timer runs out (R176); it runs in RELEASING alone. -/
def releaseTimeoutState (s : State) : State :=
  if s.drive.state = .releasing then enterParked (endRelease .releaseTimeout s) else s

/-- RELEASE_TIMEOUT. -/
def execReleaseTimeout (s : State) : Host.Outcome State Fault Refusal :=
  .next (releaseTimeoutState s)

/-- One millisecond of the release timer, which the block takes when no command waits (log entry 2). -/
def releaseTick (s : State) : State :=
  match s.drive.timer with
  | none => s
  | some n =>
    if n ≤ 1 then releaseTimeoutState s
    else { s with drive := { s.drive with timer := some (n - 1) } }

/-! ### CLEAR_HOLD (R177) -/

/-- A MUTED wheel's link is not UP: the WHEEL_LOST condition (R92, R170). -/
def WheelState.lost (x : WheelState) : Bool := x.isMuted && x.link != .up

/-- Check 4 of CLEAR_HOLD (R177). -/
def holdStands (a : Owner) (s : State) : Bool :=
  s.drive.conditions.any || s.torque.wheels.left.lost || s.torque.wheels.right.lost ||
    (s.drive.hold.safetyHold && a != .safety)

/-- A CLEAR_HOLD past its checks: MUTED wheels with links UP return to GOVERNED, the hold set empties and
READY is entered (R92, R177). -/
def clearHoldState (s : State) : State :=
  enter .ready
    { s with
      drive := { s.drive with hold := .empty }
      torque := { s.torque with wheels := s.torque.wheels.map WheelState.returned } }

/-- CLEAR_HOLD's checks in R177's order, and its effect. -/
def clearHoldWork (a : Owner) (s : State) : State × Reply :=
  if drives a s = false then (s, .refuse .notOwner)
  else if s.drive.state ≠ .hold then (s, .refuse .state)
  else if 5 ≤ s.speed.v then (s, .refuse .moving)
  else if holdStands a s then (s, .refuse .state)
  else driveDone (clearHoldState s)

/-- CLEAR_HOLD (code 43). -/
def execClearHold (h : Hdr) (s : State) : Host.Outcome State Fault Refusal :=
  .next (takeRequest h 0x43 anyAuthority clearHoldWork s)

/-! ### SAFETY_HOLD, TRIP, RESET_TRIP (R178, R179) -/

/-- SAFETY_HOLD's check, and its effect (R178). -/
def safetyHoldWork (_ : Owner) (s : State) : State × Reply :=
  if s.drive.state = .ready ∨ s.drive.state = .hold then driveDone (handHold .safetyHold s)
  else (s, .refuse .state)

/-- SAFETY_HOLD (code 44). -/
def execSafetyHold (h : Hdr) (s : State) : Host.Outcome State Fault Refusal :=
  .next (takeRequest h 0x44 safetyOnly safetyHoldWork s)

/-- TRIP (R178). -/
def tripWork (_ : Owner) (s : State) : State × Reply := driveDone (handTrip .trip s)

/-- TRIP (code 45). -/
def execTrip (h : Hdr) (s : State) : Host.Outcome State Fault Refusal :=
  .next (takeRequest h 0x45 safetyOnly tripWork s)

/-- RESET_TRIP's checks in R179's order, and its effect. -/
def resetTripWork (_ : Owner) (s : State) : State × Reply :=
  if s.drive.state ≠ .tripped then (s, .refuse .state)
  else if 5 ≤ s.speed.v then (s, .refuse .moving)
  else if s.retard.overvolt then (s, .refuse .notReady)
  else driveDone (enterParked s)

/-- RESET_TRIP (code 46). -/
def execResetTrip (h : Hdr) (s : State) : Host.Outcome State Fault Refusal :=
  .next (takeRequest h 0x46 safetyOnly resetTripWork s)

/-! ### SET_CONTROL_MODE (R180) -/

/-- SET_CONTROL_MODE's checks in R180's order, and its effect; the answer holds the drive state and the
mode (log entry 9). -/
def setModeWork (mode : Byte) (_ : Owner) (s : State) : State × Reply :=
  match modeOfCode mode with
  | none => (s, .refuse .badValue)
  | some m =>
    if s.drive.state ≠ .parked then (s, .refuse .state)
    else
      ({ s with drive := { s.drive with mode := m } },
        .ok (u8 s.drive.state.code ++ u8 m.code))

/-- SET_CONTROL_MODE (code 47). -/
def execSetControlMode (h : Hdr) (mode : Byte) (s : State) : Host.Outcome State Fault Refusal :=
  .next (takeRequest h 0x47 operatorOrSafety (setModeWork mode) s)

end Sys2Proof.Machine
end

