-- ==== Sys2Proof/Machine/Envelope.lean ====
section
/-! DEFINITION. The Envelope Resolver's step and request (Chapter 2). Resolution itself is in Ops. -/

namespace Sys2Proof.Machine

/-- A after an envelope step: E where it is at or above A or the binding record is immediate, else
slewed down from the lesser of A and the truck's speed, never below E (R33). -/
def slewApplied (e : Nat) (immediate : Bool) (a base slew : Nat) : Nat :=
  if a ≤ e then e else if immediate then e else max e (base - slew)

/-- What the slew starts from: min(A, v), or A in the interval after a restart before a current speed
source exists (R33). -/
def slewBase (s : State) : Nat :=
  if s.speed.reference = .seeking then s.env.applied else min s.env.applied s.speed.v

/-- The envelope step (R33). E and B do not move (R31). -/
def envelopeStepState (s : State) : State :=
  let b := s.env.left.speedMax
  { s with
    env := { s.env with
      applied := slewApplied b.value (immediateBinding s b.handle) s.env.applied (slewBase s)
        (s.param .speedSlew) } }

/-- ENVELOPE_STEP. -/
def execEnvelopeStep (s : State) : Host.Outcome State Fault Refusal := .next (envelopeStepState s)

/-- The four figures of READ_ENVELOPE (R36). -/
def envelopeFigures (s : State) (w : Wheel) (k : Kind) : List Byte :=
  let b := (s.env.wheel w).get k
  u16 b.value ++ u16 (if k = .speedMax then s.env.applied else b.value) ++ bindingField b.handle ++
    u16 (s.param k.default)

/-- READ_ENVELOPE's checks in R36's order, and its reply. -/
def envelopeReply (wheel kind : Byte) (s : State) : Reply :=
  match kindOfCode kind with
  | none => .refuse .badValue
  | some k =>
    match wheelOfCode wheel with
    | none => .refuse .badScope
    | some w => .ok (envelopeFigures s w k)

/-- READ_ENVELOPE (code 18). -/
def execReadEnvelope (h : Hdr) (wheel kind : Byte) (s : State) : Host.Outcome State Fault Refusal :=
  .next (takeRequest h 0x18 anyAuthority (reading (envelopeReply wheel kind)) s)

end Sys2Proof.Machine
end

