-- ==== Sys2Proof/Machine/Load.lean ====
section
/-! DEFINITION. The Load and Heat Monitor (Chapter 9): the load window and TARE. -/

namespace Sys2Proof.Machine

/-! ### Stage 1 (R158) -/

/-- A strut reading is in range (R158). -/
def strutInRange (p : Nat) : Bool := decide (1 ≤ p) && decide (p ≤ 3999)

/-- All four readings are in range (R158). -/
def strutsGood (p : Four Nat) : Bool := (p.map strutInRange).all

/-- The figure of R158 for four readings in range. -/
def sprungFigure (p : Four Nat) (area : Nat) : Nat := p.sum * area / 981

/-- The sprung sample: R158's figure, held at the 30 000 that R156 gives a sample as its highest value.
Strong struts on a large area pass it, and R158 states no clamp (DESIGN CHOICE, log entry 21). -/
def sprungOf (p : Four Nat) (area : Nat) : Nat := min 30000 (sprungFigure p area)

/-! ### Samples (R156, R159) -/

/-- A sample joins the list; when a seventeenth would join, the oldest leaves first (R156). -/
def joined (l : List Nat) (x : Nat) : List Nat := (if 16 ≤ l.length then l.drop 1 else l) ++ [x]

/-- The mean of a sample list (R159). -/
def meanOf (l : List Nat) : Nat := l.sum / l.length

/-- The payload class of a ratio (R159). -/
def classOfRatio (r : Nat) : PayloadClass :=
  if r ≤ 1000 then .normal else if r ≤ 1100 then .over1 else if r ≤ 1200 then .over2 else .over3

/-- The class limits something. -/
def PayloadClass.over : PayloadClass → Bool
  | .over1 => true
  | .over2 => true
  | .over3 => true
  | .normal => false
  | .none => false

/-- The monitor with a sample taken against a list (R159). -/
def LoadMon.taking (l : List Nat) (x rated : Nat) (m : LoadMon) : LoadMon :=
  let value := min 4000 (meanOf (joined l x) - m.tare)
  { m with samples := joined l x, value := value, cls := classOfRatio (value * 1000 / rated) }

/-! ### Stage 2 (R157, R160 to R162) -/

/-- The window is standing (R157). -/
def standing (s : State) : Bool := s.speed.current.isSome && decide (s.speed.v < 50)

/-- A window in MEASURING (R160). -/
def LoadMon.measuring (stand good : Bool) (x rated : Nat) (m : LoadMon) : LoadMon :=
  if stand = false then { m with state := .latched, lowSpeed := 0 }
  else if good then m.taking m.samples x rated
  else { m with state := .invalid, samples := [] }

/-- A window in LATCHED (R161). When the latch ends with STRUT_FAULT clear, this window's readings are in
range. -/
def LoadMon.latched (stand : Bool) (x rated : Nat) (m : LoadMon) : LoadMon :=
  if stand = false then { m with lowSpeed := 0 }
  else if 30 ≤ m.lowSpeed + 1 then
    if m.strutFault then { m with lowSpeed := 30, state := .invalid, samples := [] }
    else ({ m with lowSpeed := 30, state := .measuring }).taking [] x rated
  else { m with lowSpeed := m.lowSpeed + 1 }

/-- A window in INVALID (R162). -/
def LoadMon.invalid (stand good : Bool) (x rated : Nat) (m : LoadMon) : LoadMon :=
  if stand = true ∧ good = true then
    ({ m with state := .measuring, strutFault := false }).taking m.samples x rated
  else m

/-- Stages 1 and 2 (R158, R160 to R162). -/
def payloadStage (p : Four Nat) (s : State) : LoadMon :=
  let good := strutsGood p
  let x := sprungOf p (s.param .strutArea)
  let rated := s.param .ratedPayload
  let m : LoadMon := { s.load with struts := p, strutFault := s.load.strutFault || !good }
  match s.load.state with
  | .measuring => m.measuring (standing s) good x rated
  | .latched => m.latched (standing s) x rated
  | .invalid => m.invalid (standing s) good x rated

/-! ### Stages 3 and 4 (R163, R165, R166) -/

/-- The PAYLOAD_SPEED update (R163). -/
def payloadSpeedUpdate (m : LoadMon) : Option Nat :=
  if m.state = .invalid then some 300
  else
    match m.cls with
    | .over2 => some 160
    | .over3 => some 50
    | .over1 => none
    | .normal => none
    | .none => none

/-- The PAYLOAD_TORQUE update (R163). -/
def payloadTorqueUpdate (m : LoadMon) (propelRated : Nat) : Option Nat :=
  if m.state ≠ .invalid ∧ m.cls = .over3 then some (propelRated * 300 / 1000) else none

/-- A wheel's heat index after a window (R165). -/
def heatAfter (h : Nat) (history : Vector Int 10) (cont gain : Nat) : Nat :=
  let tm := meanMagnitude history
  let x := tm * tm * 1000 / (cont * cont)
  (clampInt ((h : Int) + Int.tdiv (((x : Int) - 1000) * gain) 1000) 0 12000).toNat

/-- A MOTOR record's update (R166). -/
def motorUpdate (active : Bool) (h rated cont : Nat) : Option Nat :=
  if 10000 ≤ h then some (cont * 9 / 10)
  else if 8000 ≤ h then
    some (clampInt
      ((rated : Int) - Int.tdiv (((rated : Int) - cont) * ((h - 8000 : Nat) : Int)) 2000) 0 900).toNat
  else if active = true ∧ 7500 ≤ h then some rated
  else none

/-- The monitor after stages 1 to 4 (R157). -/
def loadUnit (p : Four Nat) (s : State) : LoadMon :=
  { payloadStage p s with
    heat :=
      ⟨heatAfter s.load.heat.left s.torque.wheels.left.history (s.param .motorCont)
         (s.param .motorHeatGain),
       heatAfter s.load.heat.right s.torque.wheels.right.history (s.param .motorCont)
         (s.param .motorHeatGain)⟩ }

/-- The four governor record updates of a load window, handed together (R157). -/
def loadUpdates (p : Four Nat) (s : State) : List (Gov × Option Nat) :=
  let m := loadUnit p s
  [(.payloadSpeed, payloadSpeedUpdate m),
   (.payloadTorque, payloadTorqueUpdate m (s.param .propelRated)),
   (.motorLeft,
    motorUpdate s.gov.motorLeft.active m.heat.left (s.param .wheelRated) (s.param .motorCont)),
   (.motorRight,
    motorUpdate s.gov.motorRight.active m.heat.right (s.param .wheelRated) (s.param .motorCont))]

/-- The load window (R157). -/
def loadWindowState (p : Four Nat) (s : State) : State :=
  let m := loadUnit p s
  raiseIf (m.cls.over && m.cls != s.load.cls) .payloadClass
    (updateGov (loadUpdates p s) { s with load := m })

/-- LOAD_WINDOW. -/
def execLoadWindow (p : Four Nat) (s : State) : Host.Outcome State Fault Refusal :=
  .next (loadWindowState p s)

/-- A latch ends (R161). -/
def latchEnds (s t : State) : Bool := s.load.state == .latched && t.load.state != .latched

/-- LATCH_END: the load window at which a latch ends (R161; log entry 1). -/
def execLatchEnd (p : Four Nat) (s : State) : Host.Outcome State Fault Refusal :=
  .next (whenItComesAbout latchEnds (loadWindowState p) s)

/-! ### TARE (R164) -/

/-- TARE's checks in R164's order, and its effect. -/
def tareWork (_ : Owner) (s : State) : State × Reply :=
  if s.drive.state ≠ .parked then (s, .refuse .state)
  else if s.load.state ≠ .measuring ∨ s.load.samples = [] then (s, .refuse .notReady)
  else
    ({ s with load := { s.load with tare := meanOf s.load.samples } },
      .ok (u16 (meanOf s.load.samples) ++ u8 s.load.samples.length))

/-- TARE (code 5C). -/
def execTare (h : Hdr) (s : State) : Host.Outcome State Fault Refusal :=
  .next (takeRequest h 0x5C dispatchOrSafety tareWork s)

end Sys2Proof.Machine
end

