-- ==== Sys2Proof/Machine/Table.lean ====
section
/-! DEFINITION. The Limit Table's requests and its lease step (Chapter 1). -/

namespace Sys2Proof.Machine

/-- The handle of the record in an external slot (R3). -/
def handleOf (s : State) (i : Fin 39) : Handle := ⟨i.val, s.table[i.val].gen⟩

/-- The external slots in order. -/
def extSlots : List (Fin 39) := List.finRange 39

/-- The lowest-numbered FREE external slot (R14). -/
def freeSlot (s : State) : Option (Fin 39) :=
  extSlots.find? (fun i => s.table[i.val].record.isNone)

/-- The external slot whose record has a key; by R7 there is at most one. -/
def findKey (s : State) (o : Owner) (k : Kind) (sc : Scope) (seg : Option Nat) : Option (Fin 39) :=
  extSlots.find? (fun i => s.table[i.val].record.any (fun r => r.hasKey o k sc seg))

/-- A segment id of a request, 0 meaning unbound (R13). -/
def bindingOf (id : Byte) : Option Nat := if id.toNat = 0 then none else some id.toNat

/-- A lease length of a request, 0 meaning unleased; the remaining time starts at it (R11, R13). -/
def leaseOf (n : Nat) : Option Lease := if n = 0 then none else some ⟨n, n⟩

/-- A legal scope for a kind: R13's check 2. An unknown kind passes with BOTH alone. -/
def scopeAllowed (k : Option Kind) (sc : Scope) : Bool :=
  sc == .both || k.any (·.perWheel)

/-! ### PLACE_LIMIT (R13, R14) -/

/-- The record PLACE_LIMIT makes (R14). -/
def newRecord (s : State) (a : Owner) (k : Kind) (sc : Scope) (value : Nat) (seg : Option Nat)
    (lease : Option Lease) (immediate : Bool) : Rec :=
  ⟨a, k, sc, value, seg, lease, immediate, activeIn s.segs.current seg⟩

/-- PLACE_LIMIT past its checks 1 to 4: EXISTS, FULL, or the record in the lowest FREE slot and the
change handed on (R13, R14). -/
def placeRecord (s : State) (r : Rec) : State × Reply :=
  match findKey s r.owner r.kind r.scope r.segment with
  | some i => (s, ⟨.exists, handleField (handleOf s i)⟩)
  | none =>
    match freeSlot s with
    | none => (s, .refuse .full)
    | some i => (resolve (setRecord i r s), .ok (handleField (handleOf s i)))

/-- PLACE_LIMIT's checks in R13's order, and its effect. -/
def placeWork (kind scope : Byte) (value : Half) (segment : Byte) (lease : Half) (immediate : Byte)
    (a : Owner) (s : State) : State × Reply :=
  if immediate.toNat ≠ 0 ∧ a ≠ .safety then (s, .refuse .authority)
  else
    match scopeOfCode scope with
    | none => (s, .refuse .badScope)
    | some sc =>
      if scopeAllowed (kindOfCode kind) sc = false then (s, .refuse .badScope)
      else
        match kindOfCode kind with
        | none => (s, .refuse .badValue)
        | some k =>
          if k.inRange value.toNat = false ∨ 6000 < lease.toNat then (s, .refuse .badValue)
          else if segment.toNat ≠ 0 ∧ findSegment s segment.toNat = none then (s, .refuse .noSegment)
          else
            placeRecord s
              (newRecord s a k sc value.toNat (bindingOf segment) (leaseOf lease.toNat)
                (decide (immediate.toNat ≠ 0)))

/-- PLACE_LIMIT (code 10). -/
def execPlaceLimit (h : Hdr) (kind scope : Byte) (value : Half) (segment : Byte) (lease : Half)
    (immediate : Byte) (s : State) : Host.Outcome State Fault Refusal :=
  .next (takeRequest h 0x10 anyAuthority (placeWork kind scope value segment lease immediate) s)

/-! ### AMEND_LIMIT (R15) -/

/-- The lease after AMEND_LIMIT's action (R15's table). -/
def amendedLease (act : LeaseAction) (length : Nat) (old : Option Lease) : Option Lease :=
  match act with
  | .keep => old.map (fun l => ⟨l.length, l.length⟩)
  | .clear => none
  | .new => some ⟨length, length⟩

/-- A change of one record is handed on when its value differs (R10, R15). -/
def amendRecord (s : State) (i : Fin 39) (r : Rec) (value : Nat) (lease : Option Lease) : State :=
  let t := setRecord i { r with value := value, lease := lease } s
  if value = r.value then t else resolve t

/-- AMEND_LIMIT's checks in R15's order, and its effect. -/
def amendWork (slot gen : Byte) (value : Half) (action : Byte) (length : Half) (a : Owner)
    (s : State) : State × Reply :=
  match matchHandle s slot.toNat gen.toNat with
  | none => (s, .refuse .stale)
  | some (.gov _) => (s, .refuse .guarded)
  | some (.ext i r) =>
    if a ≠ r.owner then (s, .refuse .notOwner)
    else if r.kind.inRange value.toNat = false then (s, .refuse .badValue)
    else
      match leaseActionOfCode action with
      | none => (s, .refuse .badValue)
      | some act =>
        if act = .new ∧ (length.toNat = 0 ∨ 6000 < length.toNat) then (s, .refuse .badValue)
        else
          (amendRecord s i r value.toNat (amendedLease act length.toNat r.lease),
            .ok (handleField (handleOf s i)))

/-- AMEND_LIMIT (code 11). -/
def execAmendLimit (h : Hdr) (slot gen : Byte) (value : Half) (action : Byte) (length : Half)
    (s : State) : Host.Outcome State Fault Refusal :=
  .next (takeRequest h 0x11 anyAuthority (amendWork slot gen value action length) s)

/-! ### RENEW_LIMIT (R16) -/

/-- RENEW_LIMIT's checks in R16's order, and its effect; a renewal is not handed on. -/
def renewWork (slot gen : Byte) (a : Owner) (s : State) : State × Reply :=
  match matchHandle s slot.toNat gen.toNat with
  | none => (s, .refuse .stale)
  | some (.gov _) => (s, .refuse .guarded)
  | some (.ext i r) =>
    if a ≠ r.owner then (s, .refuse .notOwner)
    else
      match r.lease with
      | none => (s, .refuse .noLease)
      | some l =>
        (setRecord i { r with lease := some ⟨l.length, l.length⟩ } s,
          .ok (handleField (handleOf s i) ++ u16 l.length))

/-- RENEW_LIMIT (code 12). -/
def execRenewLimit (h : Hdr) (slot gen : Byte) (s : State) : Host.Outcome State Fault Refusal :=
  .next (takeRequest h 0x12 anyAuthority (renewWork slot gen) s)

/-! ### RETIRE_LIMIT and RETIRE_OWNER (R17, R18) -/

/-- Retire the record in a slot (R17). -/
def retireSlot (i : Fin 39) (s : State) : State :=
  { s with table := s.table.set i.val s.table[i.val].retired }

/-- RETIRE_LIMIT's checks in R17's order, and its effect. -/
def retireWork (slot gen : Byte) (a : Owner) (s : State) : State × Reply :=
  match matchHandle s slot.toNat gen.toNat with
  | none => (s, .refuse .stale)
  | some (.gov _) => (s, .refuse .guarded)
  | some (.ext i r) =>
    if a ≠ r.owner ∧ a ≠ .safety then (s, .refuse .notOwner)
    else (resolve (retireSlot i s), .ok (handleField (handleOf s i)))

/-- RETIRE_LIMIT (code 13). -/
def execRetireLimit (h : Hdr) (slot gen : Byte) (s : State) : Host.Outcome State Fault Refusal :=
  .next (takeRequest h 0x13 anyAuthority (retireWork slot gen) s)

/-- A slot holds a record of an owner. -/
def Slot.ownedBy (o : Owner) (x : Slot) : Bool := x.record.any (fun r => r.owner == o)

/-- Retire every external record that a test picks, all at one event (R12, R18, R26). -/
def retireWhere (pick : Slot → Bool) (s : State) : State :=
  { s with table := mapSlots (fun x => if pick x then x.retired else x) s.table }

/-- RETIRE_OWNER's checks in R18's order, and its effect: a count of 0 changes nothing, a count above 0
is handed on once. -/
def retireOwnerWork (owner : Byte) (a : Owner) (s : State) : State × Reply :=
  match ownerOfCode owner with
  | none => (s, .refuse .badValue)
  | some o =>
    if o = .governor then (s, .refuse .guarded)
    else if a ≠ o ∧ a ≠ .safety then (s, .refuse .notOwner)
    else
      let n := countSlots (Slot.ownedBy o) s
      (if n = 0 then s else resolve (retireWhere (Slot.ownedBy o) s), .ok (u8 n))

/-- RETIRE_OWNER (code 14). -/
def execRetireOwner (h : Hdr) (owner : Byte) (s : State) : Host.Outcome State Fault Refusal :=
  .next (takeRequest h 0x14 anyAuthority (retireOwnerWork owner) s)

/-! ### LOOKUP_LIMIT, FIND_LIMIT, NEXT_LIMIT (R19 to R21) -/

/-- Remaining time and lease length, 0 when unleased (R191). -/
def leaseFigures : Option Lease → Nat × Nat
  | some l => (l.length, l.remaining)
  | none => (0, 0)

/-- A half of a record image (R191). -/
def imageHalf (first : Bool) (h : Handle) (o : Owner) (k : Kind) (sc : Scope) (value : Nat)
    (seg : Option Nat) (lease : Option Lease) (immediate active : Bool) : List Byte :=
  let f := leaseFigures lease
  if first then
    handleField h ++ u8 (o.code * 32 + k.code * 4 + sc.code) ++ u16 value ++ u8 (seg.getD 0) ++
      u8 f.2 ++
      u8 (f.2 / 256 % 32 + 32 * lease.isSome.toNat + 64 * immediate.toNat + 128 * active.toNat)
  else handleField h ++ u16 f.1 ++ u16 f.2

/-- A half of the image of the record a handle matched (R4, R9, R191). -/
def imageOf (s : State) (first : Bool) : Found → List Byte
  | .ext i r =>
    imageHalf first (handleOf s i) r.owner r.kind r.scope r.value r.segment r.lease r.immediate
      r.active
  | .gov g =>
    imageHalf first ⟨g.slot, 0⟩ .governor g.kind g.scope (s.gov.get g).shown none none false
      (s.gov.get g).active

/-- LOOKUP_LIMIT's reply: STALE, then BAD_VALUE for a half other than 0 or 1, then the image (R19). -/
def lookupReply (slot gen part : Byte) (s : State) : Reply :=
  match matchHandle s slot.toNat gen.toNat with
  | none => .refuse .stale
  | some f =>
    if 1 < part.toNat then .refuse .badValue else .ok (imageOf s (decide (part.toNat = 0)) f)

/-- LOOKUP_LIMIT (code 15). -/
def execLookupLimit (h : Hdr) (slot gen half : Byte) (s : State) :
    Host.Outcome State Fault Refusal :=
  .next (takeRequest h 0x15 anyAuthority (reading (lookupReply slot gen half)) s)

/-- The lowest-numbered governor record with a kind and scope (R20). -/
def findGov (k : Kind) (sc : Scope) : Option Gov :=
  allGov.find? (fun g => g.kind == k && g.scope == sc)

/-- The handle FIND_LIMIT answers, if a record has the key (R20). Governor records are unbound; that a search
of them with the id of a present segment finds none is the model's reading, for R20 speaks of their binding
and not of the id carried (DESIGN CHOICE, log entry 47). -/
def findHandle (s : State) (o : Owner) (k : Kind) (sc : Scope) (seg : Option Nat) : Option Handle :=
  if o = .governor then
    if seg = none then (findGov k sc).map (fun g => ⟨g.slot, 0⟩) else none
  else (findKey s o k sc seg).map (handleOf s)

/-- FIND_LIMIT's checks and search (R20). -/
def findReply (owner kind scope segment : Byte) (s : State) : Reply :=
  match ownerOfCode owner, kindOfCode kind with
  | some o, some k =>
    match scopeOfCode scope with
    | none => .refuse .badScope
    | some sc =>
      match findHandle s o k sc (bindingOf segment) with
      | some x => .ok (handleField x)
      | none => .refuse .notFound
  | none, none => .refuse .badValue
  | none, some _ => .refuse .badValue
  | some _, none => .refuse .badValue

/-- FIND_LIMIT (code 16). -/
def execFindLimit (h : Hdr) (owner kind scope segment : Byte) (s : State) :
    Host.Outcome State Fault Refusal :=
  .next (takeRequest h 0x16 anyAuthority (reading (findReply owner kind scope segment)) s)

/-- The handle of the lowest-numbered occupied slot at or after a number; governor slots are always
occupied (R21). -/
def nextOccupied (s : State) (n : Nat) : Option Handle :=
  match extSlots.find? (fun i => decide (n ≤ i.val) && s.table[i.val].record.isSome) with
  | some i => some (handleOf s i)
  | none => (allGov.find? (fun g => decide (n ≤ g.slot))).map (fun g => ⟨g.slot, 0⟩)

/-- NEXT_LIMIT's reply (R21). -/
def nextReply (slot : Byte) (s : State) : Reply :=
  match nextOccupied s slot.toNat with
  | some x => .ok (handleField x)
  | none => .refuse .notFound

/-- NEXT_LIMIT (code 17). -/
def execNextLimit (h : Hdr) (slot : Byte) (s : State) : Host.Outcome State Fault Refusal :=
  .next (takeRequest h 0x17 anyAuthority (reading (nextReply slot)) s)

/-! ### The lease step and expiry (R11, R12) -/

/-- A slot whose leased record reaches 0 at the next lease step (R11). -/
def Slot.expiring (x : Slot) : Bool :=
  x.record.any (fun r => r.lease.any (fun l => decide (l.remaining ≤ 1)))

/-- A slot after a lease step: its leased record loses 1, and at 0 it is retired (R11, R12). -/
def Slot.leaseStepped (x : Slot) : Slot :=
  if x.expiring then x.retired
  else
    ⟨x.gen, x.record.map (fun r =>
      { r with lease := r.lease.map (fun l => ⟨l.length, l.remaining - 1⟩) })⟩

/-- The expiries of a lease step on one link, in slot order (R12). -/
def expiriesOn (l : Link) (s : State) : List Expiry :=
  s.table.toList.zipIdx.filterMap (fun x =>
    if x.1.expiring then
      match x.1.record with
      | some r => if ownerLink r.owner = l then some ⟨⟨x.2, x.1.gen⟩, r.owner, r.kind⟩ else none
      | none => none
    else none)

/-- A link's expiry report and RECORD_EXPIRED after these expiries: the count modulo 256, the last
expiry the highest-numbered slot's (R12). -/
def Port.expired (p : Port) (es : List Expiry) : Port :=
  match es.getLast? with
  | none => p
  | some e =>
    { p.raised .recordExpired with
      expiryCount := (p.expiryCount + es.length) % 256
      lastExpiry := some e }

/-- The lease step (R11, R12): every leased record loses 1; those that reach 0 are retired and
reported, and are handed on once. -/
def leaseStepState (s : State) : State :=
  let s1 : State :=
    { s with
      table := mapSlots Slot.leaseStepped s.table
      ports := ⟨s.ports.operations.expired (expiriesOn .operations s),
        s.ports.safety.expired (expiriesOn .safety s)⟩ }
  if s.table.toList.any Slot.expiring then resolve s1 else s1

/-- LEASE_STEP. -/
def execLeaseStep (s : State) : Host.Outcome State Fault Refusal := .next (leaseStepState s)

/-- EXPIRY comes about in a lease step at which a record's remaining time reaches 0 (R12). -/
def expiryDue (s _ : State) : Bool := s.table.toList.any Slot.expiring

/-- EXPIRY: the lease step at which a record expires (R12; log entry 1). -/
def execExpiry (s : State) : Host.Outcome State Fault Refusal :=
  .next (whenItComesAbout expiryDue leaseStepState s)

end Sys2Proof.Machine
end

