-- ==== Sys2Proof/Machine/Links.lean ====
section
/-! DEFINITION. The link's own requests (Chapter 11): NOP, exchanges that carry no request, attention,
status and parameters. -/

namespace Sys2Proof.Machine

/-! ### NOP, FRAME_ERROR, UNKNOWN (R183 to R185) -/

/-- NOP (code 00): DONE with a body of zeros (R184). -/
def execNop (h : Hdr) (s : State) : Host.Outcome State Fault Refusal :=
  .next (takeRequest h 0x00 anyAuthority (reading (fun _ => .ok [])) s)

/-- The answer of an exchange that failed the frame test: bytes 0 and 1 as clocked in, 0 for a byte that
never arrived (R183). -/
def frameErrorAnswer (bytes : List Byte) : Answer :=
  ⟨bytes.getD 0 0, bytes.getD 1 0, .frameError, padBody []⟩

/-- FRAME_ERROR: an exchange of bytes that fails the frame test (R183). Bytes that pass it are no frame
error, and nothing happens (log entry 1). -/
def execFrameError (l : Link) (bytes : List Byte) (s : State) : Host.Outcome State Fault Refusal :=
  .next (if frameOk bytes then s else formAnswer l (frameErrorAnswer bytes) s)

/-- UNKNOWN_REQUEST: a frame whose code is in no row of the table (R185, check 1). A known code is not
unknown, and nothing happens (log entry 1). -/
def execUnknownRequest (h : Hdr) (code : Byte) (s : State) : Host.Outcome State Fault Refusal :=
  .next (if knownCodes.contains code then s
    else formAnswer h.link (answerOf h code (.refuse .unknown)) s)

/-! ### Attention (R188) -/

/-- An attention set as a field of two bytes (R186), the low byte, members 0 to 7, first: R186 says low
byte first of every other number only (DESIGN CHOICE, log entry 46). -/
def attentionField (x : BitVec 9) : List Byte := u16 x.toNat

/-- CLEAR_ATTENTION's check, and its effect on its own link (R188). -/
def clearAttentionWork (l : Link) (causes : Half) (_ : Owner) (s : State) : State × Reply :=
  match attentionSet causes with
  | none => (s, .refuse .badValue)
  | some c =>
    let p : Port := { s.port l with pending := (s.port l).pending &&& ~~~c }
    (s.setPort l p, .ok (attentionField p.pending ++ attentionField p.mask))

/-- CLEAR_ATTENTION (code 61). -/
def execClearAttention (h : Hdr) (causes : Half) (s : State) : Host.Outcome State Fault Refusal :=
  .next (takeRequest h 0x61 anyAuthority (clearAttentionWork h.link causes) s)

/-- SET_ATTENTION_MASK's check, and its effect on its own link (R188). -/
def setMaskWork (l : Link) (causes : Half) (_ : Owner) (s : State) : State × Reply :=
  match attentionSet causes with
  | none => (s, .refuse .badValue)
  | some c =>
    let p : Port := { s.port l with mask := c }
    (s.setPort l p, .ok (attentionField p.mask ++ attentionField p.pending))

/-- SET_ATTENTION_MASK (code 62). -/
def execSetAttentionMask (h : Hdr) (causes : Half) (s : State) :
    Host.Outcome State Fault Refusal :=
  .next (takeRequest h 0x62 anyAuthority (setMaskWork h.link causes) s)

/-! ### Parameters (R190) -/

/-- Who may send SET_PARAM (R190). -/
def paramAuthority (g : ParamGuard) (a : Owner) : Bool :=
  match g with
  | .opened => true
  | .tied => a == .safety

/-- The effects a change of a parameter brings at its event: the resolution of R28, the reclamp of R98,
the emptied sample list of R167. -/
def paramEffect (p : Param) (s : State) : State :=
  match p with
  | .speedRated => resolve s
  | .propelRated => resolve s
  | .retardRated => resolve s
  | .wheelRated => reclamp (resolve s)
  | .powerRated => resolve s
  | .steerAngleRated => resolve s
  | .steerRateRated => resolve s
  | .strutArea => { s with load := { s.load with samples := [] } }
  | .speedSlew => s | .gradeWorst => s | .rrDefault => s | .pulsesPerRev => s | .tyreRadius => s
  | .gearRatio => s | .srcSatSpeed => s | .srcRearSpeed => s | .holdRetard => s | .taperBand => s
  | .ovsGain => s | .edGain => s | .jerk => s | .reverseSpeed => s | .slipPropel => s
  | .slipRetard => s | .searchStep => s | .lookBeyond => s | .researchTime => s | .altitude => s
  | .gridRated => s | .thetaMax => s | .thetaBand => s | .gridHeat => s | .gridCool => s
  | .gradeMargin => s | .emptyMass => s | .gvmMax => s | .linkHigh => s | .linkTrip => s
  | .assistGain => s | .steerTrackErr => s | .steerLow => s | .steerCrit => s
  | .steerReserveSpeed => s | .ratedPayload => s | .motorCont => s | .motorHeatGain => s

/-- A SET_PARAM past its checks: a write of the present value changes nothing else (R190). -/
def setParamState (p : Param) (v : Nat) (s : State) : State :=
  if s.param p = v then s else paramEffect p (s.setParamValue p v)

/-- SET_PARAM's checks in R190's order, and its effect. -/
def setParamWork (index : Byte) (value : Half) (_ : Owner) (s : State) : State × Reply :=
  match paramOfIndex index with
  | none => (s, .refuse .badValue)
  | some p =>
    if s.drive.state ≠ .parked then (s, .refuse .state)
    else if value.toNat < p.range.1 ∨ p.range.2 < value.toNat then (s, .refuse .badValue)
    else
      (setParamState p value.toNat s,
        .ok (u8 index.toNat ++ u16 (s.param p) ++ u16 value.toNat))

/-- SET_PARAM (code 63). -/
def execSetParam (h : Hdr) (index : Byte) (value : Half) (s : State) :
    Host.Outcome State Fault Refusal :=
  .next (takeRequest h 0x63 (paramAuthority s.straps.paramGuard) (setParamWork index value) s)

/-- GET_PARAM's reply (R190). -/
def getParamReply (index : Byte) (s : State) : Reply :=
  match paramOfIndex index with
  | none => .refuse .badValue
  | some p => .ok (u8 index.toNat ++ u16 (s.param p) ++ u16 p.range.1 ++ u16 p.range.2)

/-- GET_PARAM (code 64). -/
def execGetParam (h : Hdr) (index : Byte) (s : State) : Host.Outcome State Fault Refusal :=
  .next (takeRequest h 0x64 anyAuthority (reading (getParamReply index)) s)

/-! ### Status (R189, R191) -/

/-- A source's tracker item (R191); SAT shows the fix's quality and fresh count too. The self-check is a
byte of 1 for passed and 0 for failed (DESIGN CHOICE, log entry 41). FRONT shows its value and no sensor's own
speed, for which R191's item has no field (DESIGN CHOICE, log entry 43). -/
def trackerItem (t : Tracker) : List Byte :=
  u8 t.state.code ++ u8 t.count ++ u8 t.misses ++ bits [t.passed] ++ u16 t.value

/-- Page 0: drive state and demand. The restart trip mark, which R170 says is shown and R191's layout does
not name, is shown in bit 3 of item 0's flags, next to the three bits it names (DESIGN CHOICE, log entry 38).
An idle release timer and an idle demand lease are shown as absent values (DESIGN CHOICE, log entry 40). -/
def statusDrive (s : State) (item : Nat) : Option (List Byte) :=
  match item with
  | 0 =>
    some (u8 s.drive.state.code ++ s.drive.hold.field ++ s.drive.conditions.field ++
      optU8 (s.drive.trip.map TripCause.code) ++ s.drive.later.field ++ u8 s.drive.mode.code ++
      u8 s.drive.outcome.code ++
      bits [s.drive.brakeApply, s.drive.brakeReleased, s.torque.direction == .reverse,
        s.drive.tripMark])
  | 1 =>
    some (optU16 s.drive.timer ++ u8 s.drive.applyCount ++ optS16 s.torque.demand ++
      optS16 s.torque.steerDemand ++ optU8 s.torque.lease)
  | _ => none

/-- Page 1: speed reference. A front sensor's own speed, which R53 says is shown as computed and
`SpeedUnit.sensors` holds, has no field in R191's layout: FRONT's value alone is shown here (DESIGN CHOICE,
log entry 43). -/
def statusSpeed (s : State) (item : Nat) : Option (List Byte) :=
  match item with
  | 0 =>
    some (optU8 (s.speed.current.map sourceCode) ++ optU8 (s.speed.pending.map sourceCode) ++
      u8 s.speed.reference.code ++ bits [s.speed.lock, s.speed.sourceFail] ++ u16 s.speed.v ++
      u8 s.speed.windows ++ u8 (srcPrefCode s.straps.srcPref))
  | 1 => some (trackerItem s.speed.trackers.front)
  | 2 =>
    some (trackerItem s.speed.trackers.sat ++ optU8 (s.speed.fix.map Fix.quality) ++
      u8 s.speed.fresh)
  | 3 => some (trackerItem s.speed.trackers.rear)
  | _ => none

/-- The effective grade; with the current segment NONE there is none (R41). -/
def gradeNow (s : State) : Option Int :=
  (currentSegment s).map (fun g => effectiveGrade g.grade s.segs.heading s.torque.direction)

/-- Page 2: envelope, steering and segment. -/
def statusEnvelope (s : State) (item : Nat) : Option (List Byte) :=
  match item with
  | 0 =>
    some (u16 s.env.applied ++ u16 s.env.left.speedMax.value ++
      bindingField s.env.left.speedMax.handle ++ u16 s.torque.vmax)
  | 1 =>
    some (optS16 s.steer.command ++ optS16 s.steer.measured ++ u16 s.steer.alim ++
      u8 s.steer.rateStep ++ bits [s.steer.fault, s.steer.low, s.steer.crit])
  | 2 =>
    some (optS16 s.steer.target ++ optU16 s.steer.pressure ++ u8 s.steer.errors ++
      u8 s.steer.recovery ++ optS16 s.steer.freeze)
  | 3 =>
    some (u8 (s.segs.current.getD 0) ++ u8 s.segs.heading.code ++ optS16 (gradeNow s) ++
      u8 s.segs.records.length)
  | _ => none

/-- A wheel's item; the retard-bound flag is a byte of 1 when set and 0 when clear (DESIGN CHOICE, log
entry 41). -/
def wheelItem (x : WheelState) : List Byte :=
  s16 x.tprev ++ u8 x.mode.code ++ u8 x.link.code ++ u8 x.silence ++ u8 x.stage.code ++
    bits [x.retardBound]

/-- A wheel's adhesion item. -/
def gripItem (g : Grip) : List Byte :=
  u8 (g.state.code * 16 + g.misses) ++ u16 g.ceiling ++ u16 g.best ++ s16 g.lastSlip ++ u8 g.slips

/-- Page 3: wheels. -/
def statusWheels (s : State) (item : Nat) : Option (List Byte) :=
  match item with
  | 0 => some (wheelItem s.torque.wheels.left)
  | 1 => some (wheelItem s.torque.wheels.right)
  | 2 => some (gripItem s.grip.left)
  | 3 => some (gripItem s.grip.right)
  | _ => none

/-- A grid's first item; RUNNING is code 0 and STOPPED 1 (R111, R186). A FAULT grid shows the
allocation in force of the step that made the fault (R121; log entry 20). -/
def gridItem (g : Grid) : List Byte :=
  u8 g.state.code ++ u8 (!g.running).toNat ++ u16 g.theta ++ u16 g.cap ++
    u16 (if g.state = .fault then g.faultAlloc else g.alloc)

/-- A grid's second item, with the measured power of the step that made a fault (R121). -/
def gridDutyItem (g : Grid) : List Byte :=
  u16 g.duty ++ u16 (if g.state = .fault then g.faultPower else g.power) ++ u8 g.faults

/-- The sweep's state, next index or cursor, and requesting link; the last two absent while IDLE (R131;
log entry 11). -/
def sweepItem : Sweep → List Byte
  | .idle => u8 0 ++ optU8 none ++ optU8 none
  | .running j t => u8 1 ++ u8 t.length ++ u8 (linkCode j.link)
  | .ready j _ c => u8 2 ++ u8 c ++ u8 (linkCode j.link)

/-- The sweep's snapshot, absent while IDLE (log entry 11). -/
def snapshotItem : Sweep → List Byte
  | .idle => optU16 none ++ optU8 none ++ optU16 none ++ optU16 none
  | .running j _ => u16 j.pcap ++ u8 j.rr ++ u16 j.margin ++ u16 j.speedRated
  | .ready j _ _ => u16 j.pcap ++ u8 j.rr ++ u16 j.margin ++ u16 j.speedRated

/-- Page 4: retarding, grids and sweep. The value of the grade speed result, which R112 says is shown, has
no field in R191's layout: the NO_SLOPE flag is shown and the value is not (DESIGN CHOICE, log entry
42). -/
def statusRetard (s : State) (item : Nat) : Option (List Byte) :=
  match item with
  | 0 =>
    some (u16 s.retard.pcap ++ u16 s.retard.preq ++ u16 s.retard.assist ++ s.retard.causes.field ++
      bits [s.retard.gradeShort, s.retard.overvolt, s.retard.grade.isNone])
  | 1 =>
    some (u16 s.retard.mass ++ s16 s.retard.slope ++ u24 s.retard.vraw ++ u8 s.retard.lowCount)
  | 2 => some (u24 s.retard.vm ++ u16 s.retard.volts ++ sweepItem s.retard.sweep)
  | 3 => some (snapshotItem s.retard.sweep)
  | 4 => some (gridItem s.retard.grids.a1)
  | 5 => some (gridItem s.retard.grids.a2)
  | 6 => some (gridItem s.retard.grids.a3)
  | 7 => some (gridItem s.retard.grids.a4)
  | 8 => some (gridDutyItem s.retard.grids.a1)
  | 9 => some (gridDutyItem s.retard.grids.a2)
  | 10 => some (gridDutyItem s.retard.grids.a3)
  | 11 => some (gridDutyItem s.retard.grids.a4)
  | _ => none

/-- The strut flags: STRUT_FAULT, then the in-range marks (R158, R191). -/
def strutFlags (m : LoadMon) : List Byte :=
  bits [m.strutFault, strutInRange m.struts.a1, strutInRange m.struts.a2, strutInRange m.struts.a3,
    strutInRange m.struts.a4]

/-- The mean of the samples as a field, absent when there is none (log entry 11). -/
def meanField (l : List Nat) : List Byte := optU16 (if l = [] then none else some (meanOf l))

/-- A link's expiry report; an empty last expiry is absent (R12, R186). -/
def expiryItem (p : Port) : List Byte :=
  u8 p.expiryCount ++ bindingField (p.lastExpiry.map Expiry.handle) ++
    optU8 (p.lastExpiry.map (fun e => e.owner.code)) ++
    optU8 (p.lastExpiry.map (fun e => e.kind.code))

/-- Page 5: load, heat, attention, straps and expiry. The attention item is the asking link's; items 4
and 5 name their link (log entry 12). The line is a byte of 1 when raised and 0 when lowered (DESIGN
CHOICE, log entry 41). -/
def statusLoad (s : State) (l : Link) (item : Nat) : Option (List Byte) :=
  match item with
  | 0 =>
    some (u8 s.load.state.code ++ u8 s.load.cls.code ++ u16 s.load.value ++ u16 s.load.tare ++
      u8 s.load.samples.length ++ u8 s.load.lowSpeed)
  | 1 =>
    some (meanField s.load.samples ++ strutFlags s.load ++ u16 s.load.heat.left ++
      u16 s.load.heat.right)
  | 2 =>
    some (u16 s.load.struts.a1 ++ u16 s.load.struts.a2 ++ u16 s.load.struts.a3 ++
      u16 s.load.struts.a4)
  | 3 =>
    some (attentionField (s.port l).pending ++ attentionField (s.port l).mask ++
      bits [(s.port l).line] ++ u8 s.straps.gridFit.num ++ u8 (srcPrefCode s.straps.srcPref) ++
      u8 (paramGuardCode s.straps.paramGuard))
  | 4 => some (expiryItem s.ports.operations)
  | 5 => some (expiryItem s.ports.safety)
  | _ => none

/-- A status item of the table of 11.5 (R191). -/
def statusItem (s : State) (l : Link) (page item : Nat) : Option (List Byte) :=
  match page with
  | 0 => statusDrive s item
  | 1 => statusSpeed s item
  | 2 => statusEnvelope s item
  | 3 => statusWheels s item
  | 4 => statusRetard s item
  | 5 => statusLoad s l item
  | _ => none

/-- READ_STATUS's reply (R189). -/
def readStatusReply (l : Link) (page item : Byte) (s : State) : Reply :=
  match statusItem s l page.toNat item.toNat with
  | none => .refuse .badValue
  | some b => .ok b

/-- READ_STATUS (code 60). -/
def execReadStatus (h : Hdr) (page item : Byte) (s : State) : Host.Outcome State Fault Refusal :=
  .next (takeRequest h 0x60 anyAuthority (reading (readStatusReply h.link page item)) s)

end Sys2Proof.Machine
end

