-- ==== Sys2Proof/Machine/Restart.lean ====
section
/-! DEFINITION. Restarts (R181): every block takes the values of its restart table at one event. A cold
restart is `State.cold`; the values after a warm one are here, block by block. -/

namespace Sys2Proof.Machine

/-! ### The warm restart, block by block -/

/-- A link after a restart: NONE to be given out, RESTARTED alone pending, an empty expiry report; the
mask kept (R26, R184, R187). -/
def Port.warm (p : Port) : Port :=
  { p with
    answer := .empty, pending := Attention.restarted.bit, expiryCount := 0, lastExpiry := none }

/-- A slot after a warm restart: a leased record is retired, an unleased one kept with its state set
again (R8, R26). -/
def Slot.warm (current : Option Nat) (x : Slot) : Slot :=
  if x.record.any (fun r => r.lease.isSome) then x.retired
  else ⟨x.gen, x.record.map (fun r => { r with active := activeIn current r.segment })⟩

/-- A governor record after a warm restart: DORMANT, its value kept, not yet ACTIVE since (R9, R26). -/
def GovRec.dormant (r : GovRec) : GovRec := ⟨false, r.value, false⟩

/-- The governor records after a warm restart (R26). -/
def GovTable.dormant (t : GovTable) : GovTable :=
  ⟨t.gradeSpeed.dormant, t.sourceSpeed.dormant, t.steerReserve.dormant, t.steerCurve.dormant,
   t.payloadSpeed.dormant, t.payloadTorque.dormant, t.motorLeft.dormant, t.motorRight.dormant,
   t.linkVoltage.dormant⟩

/-- The Speed Reference Unit after a warm restart (R70); what stays of the last window's values is log
entries 18 and 43. -/
def SpeedUnit.warm (u : SpeedUnit) : SpeedUnit :=
  { u with
    trackers :=
      ⟨{ u.trackers.front with state := .absent, count := 0, misses := 0 },
       { u.trackers.sat with state := .absent, count := 0, misses := 0 },
       { u.trackers.rear with state := .absent, count := 0, misses := 0 }⟩
    pulses := ⟨[], []⟩
    marks := ⟨false, false⟩
    fix := none
    fresh := 0
    windows := 0
    current := none
    reference := .seeking
    pending := none }

/-- A wheel of the Torque Governor after a warm restart (R92, R96). -/
def WheelState.warm (x : WheelState) : WheelState :=
  { x with
    tprev := 0
    history := Vector.replicate 10 0
    stage := .zero
    retardBound := false
    mode := if x.link = .up then .governed else x.mode
    sent := ⟨0, .forward⟩ }

/-- The Torque Governor after a warm restart, with A as the restart leaves it (R96). -/
def TorqueGov.warm (applied : Nat) (t : TorqueGov) : TorqueGov :=
  { t with
    demand := none
    steerDemand := none
    lease := none
    direction := .forward
    vmax := applied
    wheels := t.wheels.map WheelState.warm }

/-- A grid after a warm restart (R137). Its capacity, which R137 does not name, is kept with P_cap until the
first capacity step (DESIGN CHOICE, log entry 45). -/
def Grid.warm (g : Grid) : Grid :=
  { g with
    alloc := 0, duty := 0, power := 0, faultAlloc := 0, faultPower := 0
    faults := if g.state = .fault then 5 else 0 }

/-- The Retard Unit after a warm restart; the brake assist level follows (R137). -/
def RetardUnit.warm (u : RetardUnit) : RetardUnit :=
  { u with
    grids := u.grids.map Grid.warm
    gradeShort := false, overvolt := false, lowCount := 0, sweep := .idle }

/-- The Steering Governor after a warm restart: five figures are free until the first steer step, each
within its range (R138, R155; log entry 14). -/
def SteerGov.warm (n : Nat) (u : SteerGov) : SteerGov :=
  { u with
    command := none
    measured := (Config.freeMeasured n).map (fun x => clampInt x (-500) 500)
    pressure := (Config.freePressure n).map (fun x => min x 3500)
    alim := min (Config.freeAlim n) 450
    rateStep := 1 + Config.freeRateStep n % 15
    target := (Config.freeTarget n).map (fun x => clampInt x (-450) 450)
    fault := false
    errors := 0
    recovery := 0
    freeze := none
    low := false
    crit := false }

/-- The Load and Heat Monitor after a warm restart (R169). -/
def LoadMon.warm (m : LoadMon) : LoadMon := { m with samples := [], lowSpeed := 0 }

/-- The Drive State Controller after a warm restart (R181). -/
def DriveCtl.warm (d : DriveCtl) : DriveCtl :=
  { d with
    state := .starting
    hold := { HoldSet.empty with safetyHold := d.hold.safetyHold }
    conditions := ⟨false, false⟩
    timer := none
    outcome := .none
    brakeApply := false
    applyCount := 0
    tripMark := d.state == .tripped || (d.state == .starting && d.tripMark) }

/-- The Limit Table after a warm restart, resolved, with A at E(SPEED_MAX) (R26, R38). -/
def warmTable (s : State) : State :=
  let t := resolve
    { s with table := mapSlots (Slot.warm s.segs.current) s.table, gov := s.gov.dormant }
  { t with env := { t.env with applied := t.env.left.speedMax.value } }

/-- Every other block but the Adhesion Controller. -/
def warmBlocks (s : State) : State :=
  { s with
    ports := ⟨s.ports.operations.warm, s.ports.safety.warm⟩
    speed := s.speed.warm
    torque := s.torque.warm s.env.applied
    retard := s.retard.warm
    steer := s.steer.warm s.free
    load := s.load.warm
    drive := s.drive.warm
    free := s.free + 1 }

/-- The Adhesion Controller after a warm restart: FREE at P_WHEEL_RATED, then the preset of the kept
current segment (R109, R51). -/
def warmGrip (s : State) : State :=
  let r := Grip.restarted (s.param .wheelRated)
  let t : State := { s with grip := ⟨r, r⟩ }
  match currentSegment t with
  | some g => applyPreset g.cls t
  | none => t

/-- A warm restart (R181). The brake assist level is set at the entry to STARTING and raises no cause
(R137, R187). -/
def warmRestart (s : State) : State := setAssist (warmGrip (warmBlocks (warmTable s)))

/-- A cold restart (R181): the straps are sampled from their ties, the brake-released input is read (log
entry 30); the queue, the pins and what the last exchange gave out are not the part's to reset. -/
def coldRestart (s : State) : State :=
  let t := State.cold s.pins.straps s.drive.brakeReleased
  { t with
    ports :=
      ⟨{ t.ports.operations with given := s.ports.operations.given },
       { t.ports.safety with given := s.ports.safety.given }⟩
    pins := s.pins
    free := s.free
    pending := s.pending }

/-! ### The commands (R181) -/

/-- The exchange that carried a RESTART has given out the answer formed before it (R184). -/
def exchangeEnded (l : Link) (s : State) : State :=
  s.setPort l { s.port l with given := (s.port l).answer }

/-- RESTART's checks: BAD_VALUE, then AUTHORITY for a COLD that does not come from SAFETY (R181). -/
def restartCheck (kind : Byte) (a : Owner) : Except ReplyCode Bool :=
  match coldOfCode kind with
  | none => .error .badValue
  | some true => if a = .safety then .ok true else .error .authority
  | some false => .ok false

/-- The state after a RESTART: a restart with no answer, or the answer of the refusal (R181, R184). -/
def restartState (h : Hdr) (kind : Byte) (s : State) : State :=
  match authorityOf h with
  | none => formAnswer h.link (answerOf h 0x48 (.refuse .authority)) s
  | some a =>
    match restartCheck kind a with
    | .error c => formAnswer h.link (answerOf h 0x48 (.refuse c)) s
    | .ok cold =>
      let t := exchangeEnded h.link s
      if cold then coldRestart t else warmRestart t

/-- RESTART (code 48). -/
def execRestart (h : Hdr) (kind : Byte) (s : State) : Host.Outcome State Fault Refusal :=
  .next (restartState h kind s)

/-- A power-up: a cold restart with the ties and the brake-released level found (R181). The restart
input's recorded level stands: an input held active through a power-up gives no second restart (DESIGN
CHOICE, log entry 29). -/
def powerUpState (straps : Straps) (brakeReleased : Bool) (s : State) : State :=
  { State.cold straps brakeReleased with
    pins := ⟨straps, s.pins.restart⟩, free := s.free, pending := s.pending }

/-- POWER_UP. -/
def execPowerUp (straps : Straps) (brakeReleased : Bool) (s : State) :
    Host.Outcome State Fault Refusal :=
  .next (powerUpState straps brakeReleased s)

/-- A reading of the restart input: a change to its active level is a warm restart; an input held
active gives one restart (R181). -/
def restartInputState (level : Bool) (s : State) : State :=
  let t : State := { s with pins := { s.pins with restart := level } }
  if level = true ∧ s.pins.restart = false then warmRestart t else t

/-- RESTART_INPUT. -/
def execRestartInput (level : Bool) (s : State) : Host.Outcome State Fault Refusal :=
  .next (restartInputState level s)

end Sys2Proof.Machine
end

