-- ==== Sys2Proof/Machine/Retard.lean ====
section
/-! DEFINITION. The Retard Unit (Chapter 7): the capacity step, CLEAR_GRID_FAULT, and the capacity
sweep. The brake assist evaluation is in Ops. -/

namespace Sys2Proof.Machine

/-! ### Stages 1 to 5 on one grid (R114 to R118) -/

/-- The measured power is within band of the allocation in force (R114). -/
def powerInBand (pf pm : Nat) : Bool :=
  decide (pf * 500 / 1000 ≤ pm) && decide (pm ≤ pf * 1500 / 1000)

/-- The fault check of a READY grid (R114, R121); the two figures of a fault are kept for status. -/
def Grid.faultTested (g : Grid) : Grid :=
  if 100 ≤ g.alloc ∧ powerInBand g.alloc g.power = false then
    if 5 ≤ g.faults + 1 then
      { g with state := .fault, faults := 5, faultAlloc := g.alloc, faultPower := g.power }
    else { g with faults := g.faults + 1 }
  else { g with faults := 0 }

/-- A fitted grid's readings (R111): the blower, and the measured power, which saturates at 4000 (log
entry 22). -/
def Grid.read (i : GridIn) (g : Grid) : Grid := { g with running := i.running, power := min 4000 i.power }

/-- Readings and stage 1; an OFF grid's inputs are not read (R111, R114). -/
def Grid.checked (i : GridIn) (g : Grid) : Grid :=
  match g.state with
  | .off => g
  | .ready => (g.read i).faultTested
  | .fault => g.read i

/-- The altitude factor (R115). -/
def altitudeFactor (altitude : Nat) : Nat := max 500 (1000 - altitude / 10)

/-- The headroom (R115). -/
def headroom (thetaMax band theta : Nat) : Nat := min 1000 ((thetaMax - theta) * 1000 / band)

/-- A grid's capacity (R115). -/
def gridCapacity (s : State) (g : Grid) : Nat :=
  let full := s.param .gridRated * altitudeFactor (s.param .altitude) / 1000 *
    headroom (s.param .thetaMax) (s.param .thetaBand) g.theta / 1000
  match g.state with
  | .ready => if g.running then full else full * 250 / 1000
  | .fault => 0
  | .off => 0

/-- Stage 2 on a grid (R115). -/
def Grid.sized (s : State) (g : Grid) : Grid := { g with cap := gridCapacity s g }

/-- Stage 4 on a grid: its share of the demand and its duty (R117). -/
def Grid.shared (rated pcap preq : Nat) (g : Grid) : Grid :=
  let pg := if pcap = 0 then 0 else min g.cap (preq * g.cap / pcap)
  { g with alloc := pg, duty := min 1000 (pg * 1000 / rated) }

/-- The cooling factor (R118). -/
def coolingFactor (altitude : Nat) (running : Bool) : Nat :=
  if running then altitudeFactor altitude else altitudeFactor altitude / 4

/-- Stage 5 on a grid (R118). -/
def Grid.warmed (s : State) (g : Grid) : Grid :=
  if g.state = .off then g
  else
    { g with
      theta := min 8000 (g.theta + g.alloc * s.param .gridHeat / 1000 -
        g.theta * s.param .gridCool * coolingFactor (s.param .altitude) g.running / 10000000) }

/-- The retard power one wheel has been making (R116). -/
def wheelRetardPower (h : Vector Int 10) (v radius : Nat) : Nat :=
  (h.toList.map (fun t => if t < 0 then t.natAbs else 0)).sum / 10 * max v 30 * 1000 / (36 * radius)

/-- P_req (R116). -/
def retardDemand (s : State) : Nat :=
  wheelRetardPower s.torque.wheels.left.history s.speed.v (s.param .tyreRadius) +
    wheelRetardPower s.torque.wheels.right.history s.speed.v (s.param .tyreRadius)

/-- The Retard Unit after stages 1 to 5 (R113). -/
def gridStages (i : CapacityIn) (s : State) : RetardUnit :=
  let sized := (Four.zip Grid.checked i.grids s.retard.grids).map (Grid.sized s)
  let pcap := (sized.map Grid.cap).sum
  let preq := retardDemand s
  { s.retard with
    grids := sized.map (fun g => (g.shared (s.param .gridRated) pcap preq).warmed s)
    pcap := pcap
    preq := preq }

/-! ### Stage 6: grade speed (R123 to R125) -/

/-- The mass used for grade speed (R123). -/
def massOf (s : State) : Nat :=
  if s.load.state = .invalid then s.param .gvmMax else s.param .emptyMass + s.load.value

/-- The retarding slope (R124). -/
def slopeOf (s : State) : Int :=
  match currentSegment s with
  | some g => -(effectiveGrade g.grade s.segs.heading s.torque.direction) - g.rr
  | none => (s.param .gradeWorst : Int) - s.param .rrDefault

/-- Grade speed figures. -/
structure GradeFigures where
  vraw : Nat
  vm : Nat
  result : Option Nat
  short : Bool
  deriving DecidableEq, Repr

/-- Grade speed from capacity, mass and slope (R124, R125, R133). -/
def gradeFigures (pcap mass : Nat) (slope : Int) (margin rated : Nat) : GradeFigures :=
  if slope ≤ 0 then ⟨0, 0, none, false⟩
  else
    let vraw := pcap * 36000000 / (mass * 981 * slope.toNat)
    let vm := vraw * (1000 - margin) / 1000
    ⟨vraw, vm, some (clampNat vm 30 rated), decide (vraw < 30)⟩

/-- Stage 6 (R123 to R125). -/
def gradeStage (s : State) (u : RetardUnit) : RetardUnit :=
  let f := gradeFigures u.pcap (massOf s) (slopeOf s) (s.param .gradeMargin) (s.param .speedRated)
  { u with
    mass := massOf s
    slope := slopeOf s
    vraw := f.vraw
    vm := f.vm
    grade := f.result
    gradeShort := f.short }

/-! ### Stage 7: the link (R127, R128) -/

/-- LINK_VOLTAGE after the voltage is sampled: ACTIVE or not, and the low count (R127). -/
def linkAfter (active : Bool) (lowCount volts high : Nat) : Bool × Nat :=
  if active then
    if volts + 50 < high then if 10 ≤ lowCount + 1 then (false, 0) else (true, lowCount + 1)
    else (true, 0)
  else if high < volts then (true, 0)
  else (false, lowCount)

/-- The voltage sampled; it saturates at 4000 (R112; log entry 22). -/
def sampledVolts (i : CapacityIn) : Nat := min 4000 i.volts

/-- LINK_VOLTAGE and its low count at a capacity step (R127). -/
def linkOf (i : CapacityIn) (s : State) : Bool × Nat :=
  linkAfter s.gov.linkVoltage.active s.retard.lowCount (sampledVolts i) (s.param .linkHigh)

/-- Stage 7 (R127, R128). -/
def linkStage (i : CapacityIn) (s : State) (u : RetardUnit) : RetardUnit :=
  { u with
    volts := (sampledVolts i)
    lowCount := (linkOf i s).2
    overvolt := decide (s.param .linkTrip < (sampledVolts i)) }

/-- The overvoltage test hands the cause once per rise (R128). -/
def overvoltFound (i : CapacityIn) (s : State) : Bool :=
  decide (s.param .linkTrip < (sampledVolts i)) && !s.retard.overvolt

/-! ### Stage 8 and the step (R113) -/

/-- The unit after stages 1 to 7. -/
def capacityUnit (i : CapacityIn) (s : State) : RetardUnit :=
  linkStage i s (gradeStage s (gridStages i s))

/-- A grid goes from READY to FAULT (R121). -/
def gridFaulted (n : GridNo) (s t : State) : Bool :=
  (s.retard.grids.get n).state == .ready && (t.retard.grids.get n).state == .fault

/-- Some grid goes from READY to FAULT (R121). -/
def anyGridFaulted (s t : State) : Bool :=
  gridFaulted .g1 s t || gridFaulted .g2 s t || gridFaulted .g3 s t || gridFaulted .g4 s t

/-- The two governor record updates of a capacity step, handed together (R113, R125, R127). -/
def capacityUpdates (i : CapacityIn) (s : State) : List (Gov × Option Nat) :=
  [(.gradeSpeed, (capacityUnit i s).grade),
   (.linkVoltage, if (linkOf i s).1 then some (s.param .retardRated / 2) else none)]

/-- The capacity step (R113). -/
def capacityStepState (i : CapacityIn) (s : State) : State :=
  let s1 : State := { s with retard := capacityUnit i s }
  let s2 := raiseIf (anyGridFaulted s s1) .gridFault (updateGov (capacityUpdates i s) s1)
  if overvoltFound i s then handTrip .linkOvervolt s2 else s2

/-- CAPACITY_STEP. -/
def execCapacityStep (i : CapacityIn) (s : State) : Host.Outcome State Fault Refusal :=
  .next (capacityStepState i s)

/-- GRID_FAULT: the capacity step at which a grid becomes FAULT (R121; log entry 1). -/
def execGridFault (n : GridNo) (i : CapacityIn) (s : State) : Host.Outcome State Fault Refusal :=
  .next (whenItComesAbout (gridFaulted n) (capacityStepState i) s)

/-- LINK_VOLTAGE goes DORMANT (R127). -/
def linkClears (s t : State) : Bool := s.gov.linkVoltage.active && !t.gov.linkVoltage.active

/-- LINK_VOLTAGE_CLEAR: the capacity step at which LINK_VOLTAGE goes DORMANT (R127; log entry 1). -/
def execLinkVoltageClear (i : CapacityIn) (s : State) : Host.Outcome State Fault Refusal :=
  .next (whenItComesAbout linkClears (capacityStepState i) s)

/-! ### CLEAR_GRID_FAULT (R122) -/

/-- The grid a number names. -/
def gridOfNumber (b : Byte) : Option GridNo :=
  match b.toNat with
  | 1 => some .g1
  | 2 => some .g2
  | 3 => some .g3
  | 4 => some .g4
  | _ => none

/-- A grid number of CLEAR_GRID_FAULT names these grids: 0 every one, 1 to 4 that one if it is fitted,
any other number none (R122). An OFF grid is never FAULT, so naming it in 0 does nothing. -/
def gridsNamed (s : State) (b : Byte) : Option (Four Bool) :=
  if b.toNat = 0 then some ⟨true, true, true, true⟩
  else
    match gridOfNumber b with
    | none => none
    | some n =>
      if (s.retard.grids.get n).state = .off then none
      else some ⟨n == .g1, n == .g2, n == .g3, n == .g4⟩

/-- A grid returned to service (R122). -/
def Grid.cleared (named : Bool) (g : Grid) : Grid :=
  if named = true ∧ g.state = .fault then { g with state := .ready, faults := 0 } else g

/-- How many named grids are FAULT. -/
def faultsNamed (named : Four Bool) (gs : Four Grid) : Nat :=
  (Four.zip (fun n g => (n && g.state == .fault).toNat) named gs).sum

/-- CLEAR_GRID_FAULT's checks in R122's order, and its effect. -/
def clearGridWork (grid : Byte) (_ : Owner) (s : State) : State × Reply :=
  match gridsNamed s grid with
  | none => (s, .refuse .badValue)
  | some named =>
    if s.drive.state ≠ .parked then (s, .refuse .state)
    else
      ({ s with
         retard := { s.retard with grids := Four.zip Grid.cleared named s.retard.grids } },
        .ok (u8 (faultsNamed named s.retard.grids)))

/-- CLEAR_GRID_FAULT (code 50). -/
def execClearGridFault (h : Hdr) (grid : Byte) (s : State) : Host.Outcome State Fault Refusal :=
  .next (takeRequest h 0x50 anyAuthority (clearGridWork grid) s)

/-! ### The sweep (R131 to R135) -/

/-- The sweep replaced. -/
def withSweep (x : Sweep) (s : State) : State := { s with retard := { s.retard with sweep := x } }

/-- Every figure of an arithmetic progression of eight lies in a range (R132). -/
def allWithin (x0 step lo hi : Int) : Bool :=
  (List.range 8).all (fun i => decide (lo ≤ x0 + i * step) && decide (x0 + i * step ≤ hi))

/-- The rolling resistance of the snapshot (R132). -/
def sweepResistance (s : State) : Nat :=
  match currentSegment s with
  | some g => g.rr
  | none => s.param .rrDefault

/-- What START_SWEEP keeps (R132). -/
def sweepJob (l : Link) (g0 gstep m0 mstep : Half) (s : State) : SweepJob :=
  ⟨s.retard.pcap, sweepResistance s, s.param .gradeMargin, s.param .speedRated, g0.toInt,
    gstep.toInt, m0.toInt, mstep.toInt, l⟩

/-- The sweep is RUNNING. -/
def Sweep.isRunning : Sweep → Bool
  | .running _ _ => true
  | .idle => false
  | .ready _ _ _ => false

/-- START_SWEEP's checks in R132's order, and its effect. -/
def startSweepWork (l : Link) (g0 gstep m0 mstep : Half) (_ : Owner) (s : State) : State × Reply :=
  if allWithin g0.toInt gstep.toInt 1 200 = false ∨
      allWithin m0.toInt mstep.toInt (s.param .emptyMass) (s.param .gvmMax) = false then
    (s, .refuse .badValue)
  else if s.retard.sweep.isRunning then (s, .refuse .busy)
  else
    let j := sweepJob l g0 gstep m0 mstep s
    (withSweep (.running j []) s, .ok (u16 j.pcap ++ u16 j.rr))

/-- START_SWEEP (code 51). -/
def execStartSweep (h : Hdr) (g0 gstep m0 mstep : Half) (s : State) :
    Host.Outcome State Fault Refusal :=
  .next (takeRequest h 0x51 notOperator (startSweepWork h.link g0 gstep m0 mstep) s)

/-- The marker of a sweep entry (R133). -/
def markerOf (f : GradeFigures) : Marker :=
  if f.result = none then .noSlope else if f.short then .short else .none

/-- Entry k of a sweep (R131, R133). -/
def sweepEntryAt (j : SweepJob) (k : Nat) : SweepEntry :=
  let g := j.g0 + ((k / 8 : Nat) : Int) * j.gstep
  let m := j.m0 + ((k % 8 : Nat) : Int) * j.mstep
  let f := gradeFigures j.pcap m.toNat (g - j.rr) j.margin j.speedRated
  ⟨g, m, f.vraw, f.result.getD 0, markerOf f⟩

/-- A sweep entry: nothing unless RUNNING; at index 63 the sweep is READY and SWEEP_READY is made
pending on the requesting link (R133). -/
def sweepEntryState (s : State) : State :=
  match s.retard.sweep with
  | .idle => s
  | .ready _ _ _ => s
  | .running j t =>
    let t' := t ++ [sweepEntryAt j t.length]
    if 64 ≤ t'.length then raiseOn j.link .sweepReady (withSweep (.ready j t' 0) s)
    else withSweep (.running j t') s

/-- SWEEP_ENTRY. -/
def execSweepEntry (s : State) : Host.Outcome State Fault Refusal := .next (sweepEntryState s)

/-- A RUNNING sweep becomes READY (R133). -/
def sweepCompletes (s t : State) : Bool := s.retard.sweep.isRunning && !t.retard.sweep.isRunning

/-- SWEEP_READY: the sweep entry that completes the sweep (R133; log entry 1). -/
def execSweepReady (s : State) : Host.Outcome State Fault Refusal :=
  .next (whenItComesAbout sweepCompletes sweepEntryState s)

/-- The READ_SWEEP answer of an entry (R134). -/
def sweepFields (k : Nat) (e : SweepEntry) : List Byte :=
  u8 k ++ s16 e.grade ++ s16 e.mass ++ u16 e.value ++ u8 e.marker.code

/-- READ_SWEEP: NOT_READY unless READY, else the entry at the cursor, which then advances (R134). -/
def readSweepWork (_ : Owner) (s : State) : State × Reply :=
  match s.retard.sweep with
  | .idle => (s, .refuse .notReady)
  | .running _ _ => (s, .refuse .notReady)
  | .ready j t c =>
    (withSweep (.ready j t ((c + 1) % 64)) s,
      .ok (sweepFields c (t.getD c ⟨0, 0, 0, 0, .none⟩)))

/-- READ_SWEEP (code 52). -/
def execReadSweep (h : Hdr) (s : State) : Host.Outcome State Fault Refusal :=
  .next (takeRequest h 0x52 anyAuthority readSweepWork s)

end Sys2Proof.Machine
end

