-- ==== Sys2Proof/Machine/Segments.lean ====
section
/-! DEFINITION. The Segment Table's requests (Chapter 3). -/

namespace Sys2Proof.Machine

/-- The figures LOAD_SEGMENT and AMEND_SEGMENT carry, when they lie in range (R43, R44). -/
def segmentFigures (id : Byte) (grade rr : Half) (cls : Byte) : Option Segment :=
  match classOfCode cls with
  | none => none
  | some c =>
    if -200 ≤ grade.toInt ∧ grade.toInt ≤ 200 ∧ rr.toNat ≤ 100 then
      some ⟨id.toNat, grade.toInt, rr.toNat, c⟩
    else none

/-- Insert a record by rising id (R39). -/
def insertSegment (g : Segment) : List Segment → List Segment
  | [] => [g]
  | x :: xs => if g.id < x.id then g :: x :: xs else x :: insertSegment g xs

/-- The state with these segment records. -/
def withSegments (l : List Segment) (s : State) : State :=
  { s with segs := { s.segs with records := l } }

/-- The loaded count (R39). -/
def loadedCount (s : State) : Nat := s.segs.records.length

/-- LOAD_SEGMENT's checks in R43's order, and its effect. -/
def loadSegmentWork (id : Byte) (grade rr : Half) (cls : Byte) (_ : Owner) (s : State) :
    State × Reply :=
  if (findSegment s id.toNat).isSome then (s, .refuse .exists)
  else
    match segmentFigures id grade rr cls with
    | none => (s, .refuse .badValue)
    | some g =>
      if id.toNat = 0 then (s, .refuse .badValue)
      else if 64 ≤ loadedCount s then (s, .refuse .full)
      else
        let t := withSegments (insertSegment g s.segs.records) s
        (t, .ok (u8 id.toNat ++ u8 (loadedCount t)))

/-- LOAD_SEGMENT (code 20). -/
def execLoadSegment (h : Hdr) (id : Byte) (grade rr : Half) (cls : Byte) (s : State) :
    Host.Outcome State Fault Refusal :=
  .next (takeRequest h 0x20 dispatchOrSafety (loadSegmentWork id grade rr cls) s)

/-- The records with one id's record replaced. -/
def replaceSegment (g : Segment) (l : List Segment) : List Segment :=
  l.map (fun x => if x.id = g.id then g else x)

/-- The state after AMEND_SEGMENT: the figures are stored; a changed class of the current segment brings
its preset at this event (R44). -/
def amendSegmentState (old g : Segment) (s : State) : State :=
  let t := withSegments (replaceSegment g s.segs.records) s
  if s.segs.current = some g.id ∧ old.cls ≠ g.cls then applyPreset g.cls t else t

/-- AMEND_SEGMENT's checks in R44's order, and its effect. -/
def amendSegmentWork (id : Byte) (grade rr : Half) (cls : Byte) (_ : Owner) (s : State) :
    State × Reply :=
  match findSegment s id.toNat with
  | none => (s, .refuse .notFound)
  | some old =>
    match segmentFigures id grade rr cls with
    | none => (s, .refuse .badValue)
    | some g => (amendSegmentState old g s, .ok (u8 id.toNat))

/-- AMEND_SEGMENT (code 21). -/
def execAmendSegment (h : Hdr) (id : Byte) (grade rr : Half) (cls : Byte) (s : State) :
    Host.Outcome State Fault Refusal :=
  .next (takeRequest h 0x21 dispatchOrSafety (amendSegmentWork id grade rr cls) s)

/-- RETIRE_SEGMENT's checks in R45's order, and its effect. -/
def retireSegmentWork (id : Byte) (_ : Owner) (s : State) : State × Reply :=
  match findSegment s id.toNat with
  | none => (s, .refuse .notFound)
  | some _ =>
    if s.segs.current = some id.toNat then (s, .refuse .inUse)
    else if boundCount s id.toNat ≠ 0 then (s, ⟨.bound, u8 (boundCount s id.toNat)⟩)
    else
      let t := withSegments (s.segs.records.filter (fun g => g.id != id.toNat)) s
      (t, .ok (u8 id.toNat ++ u8 (loadedCount t)))

/-- RETIRE_SEGMENT (code 22). -/
def execRetireSegment (h : Hdr) (id : Byte) (s : State) : Host.Outcome State Fault Refusal :=
  .next (takeRequest h 0x22 dispatchOrSafety (retireSegmentWork id) s)

/-- A slot at a change of the current segment from `old` to `new`: a record bound to the new one becomes
ACTIVE, one bound to the old one DORMANT, every other is untouched (R8, R46, R47). -/
def Slot.flipped (old new : Option Nat) (x : Slot) : Slot :=
  ⟨x.gen, x.record.map (fun r =>
    match r.segment with
    | none => r
    | some b =>
      if new = some b then { r with active := true }
      else if old = some b then { r with active := false }
      else r)⟩

/-- A slot's record flips state at that change. -/
def Slot.flips (old new : Option Nat) (x : Slot) : Bool := (x.flipped old new).record != x.record

/-- A change of the current segment: the records flip and the envelope is resolved once, all at this
event (R8, R10, R46, R47). -/
def changeSegment (new : Option Nat) (heading : Heading) (s : State) : State :=
  resolve
    { s with
      segs := { s.segs with current := new, heading := heading }
      table := mapSlots (Slot.flipped s.segs.current new) s.table }

/-- How many records flip at that change. -/
def flipCount (new : Option Nat) (s : State) : Nat :=
  countSlots (Slot.flips s.segs.current new) s

/-- ENTER_SEGMENT past its checks (R46): the same id only sets the heading; another id, or NONE before,
is a change of the current segment, with the class preset of the new one. -/
def enterSegmentState (g : Segment) (heading : Heading) (s : State) : State :=
  if s.segs.current = some g.id then { s with segs := { s.segs with heading := heading } }
  else applyPreset g.cls (changeSegment (some g.id) heading s)

/-- The flip count ENTER_SEGMENT answers: 0 when the current segment does not change (R46). -/
def enterFlips (g : Segment) (s : State) : Nat :=
  if s.segs.current = some g.id then 0 else flipCount (some g.id) s

/-- ENTER_SEGMENT's checks in R46's order, and its effect. -/
def enterSegmentWork (id heading : Byte) (_ : Owner) (s : State) : State × Reply :=
  match findSegment s id.toNat with
  | none => (s, .refuse .notFound)
  | some g =>
    match headingOfCode heading with
    | none => (s, .refuse .badValue)
    | some hd =>
      (enterSegmentState g hd s, .ok (u8 g.id ++ u8 hd.code ++ u8 (enterFlips g s)))

/-- ENTER_SEGMENT (code 23). -/
def execEnterSegment (h : Hdr) (id heading : Byte) (s : State) : Host.Outcome State Fault Refusal :=
  .next (takeRequest h 0x23 dispatchOrAutonomy (enterSegmentWork id heading) s)

/-- LEAVE_SEGMENT (R47). With no current segment nothing changes; the id left is then 0 (log
entry 10). -/
def leaveSegmentWork (_ : Owner) (s : State) : State × Reply :=
  match s.segs.current with
  | none => (s, .ok (u8 0 ++ u8 0))
  | some id => (changeSegment none s.segs.heading s, .ok (u8 id ++ u8 (flipCount none s)))

/-- LEAVE_SEGMENT (code 24). -/
def execLeaveSegment (h : Hdr) (s : State) : Host.Outcome State Fault Refusal :=
  .next (takeRequest h 0x24 dispatchOrAutonomy leaveSegmentWork s)

/-- The record READ_SEGMENT reads, by mode (R48). -/
def segmentToRead (s : State) (exact : Bool) (id : Nat) : Option Segment :=
  if exact then
    if id = 0 then currentSegment s else findSegment s id
  else s.segs.records.find? (fun g => decide (id ≤ g.id))

/-- The READ_SEGMENT answer (R191). -/
def segmentFields (s : State) (g : Segment) : List Byte :=
  u8 g.id ++ s16 g.grade ++ u8 g.rr ++ u8 g.cls.code ++ u8 (boundCount s g.id) ++
    optU8 (if s.segs.current = some g.id then some s.segs.heading.code else none) ++
    u8 (loadedCount s)

/-- READ_SEGMENT's reply (R48). -/
def readSegmentReply (id mode : Byte) (s : State) : Reply :=
  match exactOfCode mode with
  | none => .refuse .badValue
  | some exact =>
    match segmentToRead s exact id.toNat with
    | none => .refuse .notFound
    | some g => .ok (segmentFields s g)

/-- READ_SEGMENT (code 25). -/
def execReadSegment (h : Hdr) (id mode : Byte) (s : State) : Host.Outcome State Fault Refusal :=
  .next (takeRequest h 0x25 anyAuthority (reading (readSegmentReply id mode)) s)

end Sys2Proof.Machine
end

