-- ==== Sys2Proof/Machine/Speed.lean ====
section
/-! DEFINITION. The Speed Reference Unit (Chapter 4): the window with all its stages, what the Drive
State Controller and the Adhesion Controller do at it, and the unit's four requests. -/

namespace Sys2Proof.Machine

/-! ### Stage 1: reading (R52 to R55) -/

/-- The speed of a front sensor from the counts kept, whether it reports or not (R53). -/
def sensorSpeed (s : State) (counts : List Nat) : Nat :=
  counts.sum * s.param .tyreRadius * 22619 / (s.param .pulsesPerRev * 40000)

/-- The FRONT value from both sensors' speeds (R53). -/
def frontValue (fL fR : Nat) : Nat := min 800 ((fL + fR) / 2)

/-- The FRONT self-check (R53). -/
def frontPasses (windows : Nat) (lineGood : PerWheel Bool) (fL fR : Nat) : Bool :=
  decide (4 ≤ windows) && lineGood.left && lineGood.right &&
    decide (max fL fR - min fL fR ≤ 5 + max fL fR * 60 / 1000)

/-- The surface speed of a rear wheel from its motor's speed (R54). -/
def surfaceSpeed (s : State) (rpm : Nat) : Nat :=
  min 800 (rpm * 1000 * s.param .tyreRadius * 37699 / (s.param .gearRatio * 10000000))

/-- Both wheels' surface speeds at a window (R54). -/
def surfaceSpeeds (s : State) : PerWheel Nat := s.speed.rpm.map (surfaceSpeed s)

/-- The SAT self-check (R55). -/
def satPasses (fix : Option Fix) (fresh : Nat) : Bool :=
  decide (1 ≤ fresh) && fix.any (fun f => decide (2 ≤ f.quality))

/-- The counts kept after one more window: the newest four (R53). -/
def pulsesKept (counts : List Nat) (new : Nat) : List Nat := (new :: counts).take 4

/-- The unit after stage 1: each front sensor's speed, each source's value and self-check for this window,
the window counted, the marks cleared and the fresh count lowered (R52 to R55). -/
def readSources (i : WindowIn) (s : State) : SpeedUnit :=
  let u := s.speed
  let pl := pulsesKept u.pulses.left i.pulses.left
  let pr := pulsesKept u.pulses.right i.pulses.right
  let fL := sensorSpeed s pl
  let fR := sensorSpeed s pr
  let n := min 255 (u.windows + 1)
  let w := surfaceSpeeds s
  { u with
    trackers :=
      ⟨{ u.trackers.front with
         value := frontValue fL fR, passed := frontPasses n i.lineGood fL fR },
       { u.trackers.sat with
         value := (u.fix.map Fix.speed).getD 0, passed := satPasses u.fix u.fresh },
       { u.trackers.rear with
         value := (w.left + w.right) / 2, passed := u.marks.left && u.marks.right }⟩
    pulses := ⟨pl, pr⟩
    sensors := ⟨fL, fR⟩
    marks := ⟨false, false⟩
    fresh := u.fresh - 1
    windows := n }

/-! ### Stages 2 and 3: ground speed and trackers (R57 to R59) -/

/-- Set v from a source: its value if its self-check passed, otherwise held (R59). -/
def SpeedUnit.follow (src : Source) (u : SpeedUnit) : SpeedUnit :=
  { u with
    v := if (u.trackers.get src).passed then (u.trackers.get src).value else u.v }

/-- Ground speed at stage 2 (R59). -/
def SpeedUnit.measured (u : SpeedUnit) : SpeedUnit :=
  match u.current with
  | some c => u.follow c
  | none => u

/-- The agreement test of a candidate's value x against v (R58). -/
def agreesAt (candidate current : Source) (x v : Nat) : Bool :=
  let share := if candidate = .rear ∨ current = .rear then 150 else 50
  decide (max x v - min x v ≤ 5 + v * share / 1000)

/-- Agreement holds or is not asked: it is asked of a source that is not TRACKING while another source
is current (R57). -/
def SpeedUnit.agrees (u : SpeedUnit) (src : Source) : Bool :=
  match u.current with
  | none => true
  | some c => if c = src then true else agreesAt src c (u.trackers.get src).value u.v

/-- A tracker's step at stage 3: R57's table. -/
def Tracker.stepped (agrees : Bool) (t : Tracker) : Tracker :=
  match t.state with
  | .absent =>
    if t.passed then { t with state := .qualifying, count := agrees.toNat } else t
  | .qualifying =>
    if t.passed then
      if agrees then
        if 8 ≤ t.count + 1 then { t with state := .tracking, count := 8, misses := 0 }
        else { t with count := t.count + 1 }
      else { t with count := 0 }
    else { t with state := .absent, count := 0 }
  | .tracking =>
    if t.passed then { t with misses := 0 }
    else if 3 ≤ t.misses + 1 then { t with state := .lost, misses := 3 }
    else { t with misses := t.misses + 1 }
  | .lost =>
    if t.passed then { t with state := .qualifying, count := agrees.toNat } else t

/-- All trackers at stage 3. -/
def SpeedUnit.tracked (u : SpeedUnit) : SpeedUnit :=
  { u with
    trackers :=
      ⟨u.trackers.front.stepped (u.agrees .front), u.trackers.sat.stepped (u.agrees .sat),
       u.trackers.rear.stepped (u.agrees .rear)⟩ }

/-! ### Stage 4: selection (R60, R63, R64, R68) -/

/-- A source is TRACKING. -/
def SpeedUnit.isTracking (u : SpeedUnit) (src : Source) : Bool :=
  (u.trackers.get src).state == .tracking

/-- The first TRACKING source in the order FRONT, SAT, REAR (R63). -/
def SpeedUnit.firstTracking (u : SpeedUnit) : Option Source :=
  [Source.front, .sat, .rear].find? u.isTracking

/-- Make a source current: v is set again from it and the reference state is VALID (R59). R59's "otherwise
held", for a source that fails its self-check, is read as v as it stands (DESIGN CHOICE, log entry 44). -/
def SpeedUnit.take (src : Source) (u : SpeedUnit) : SpeedUnit :=
  { u.follow src with current := some src, reference := .valid }

/-- The current source has gone LOST (R63). -/
def SpeedUnit.currentLost (u : SpeedUnit) : Bool :=
  u.current.any (fun c => (u.trackers.get c).state == .lost)

/-- There is no source to fall back to: the reference is lost at this window (R64). -/
def SpeedUnit.referenceLost (u : SpeedUnit) : Bool :=
  u.currentLost && u.firstTracking.isNone

/-- The fallback, or the reference loss (R63, R64). -/
def SpeedUnit.fallback (u : SpeedUnit) : SpeedUnit :=
  if u.currentLost then
    match u.firstTracking with
    | some n => { u.take n with sourceFail := true }
    | none => { u with current := none, reference := .lost, sourceFail := true }
  else u

/-- The pending switch (R60's table). A pending source that is TRACKING and fails its self-check at this
window leaves v as it stands: at the value of the fallback's pick where the fallback has acted at this
window, at that of the source it replaces where that passed, and not put back to the window before (DESIGN
CHOICE, log entry 44). -/
def SpeedUnit.switched (u : SpeedUnit) : SpeedUnit :=
  match u.pending with
  | none => u
  | some p =>
    if u.current = some p then { u with pending := none }
    else if u.isTracking p then { u.take p with pending := none }
    else u

/-- The source the SRC_PREF strap names (R68). -/
def preferredSource : SrcPref → Source
  | .front => .front
  | .sat => .sat

/-- The start-up selection takes a source other than the preferred one (R68, third row). -/
def SpeedUnit.startsOther (pref : Source) (u : SpeedUnit) : Bool :=
  u.current.isNone && u.reference == .seeking && !u.isTracking pref && decide (20 ≤ u.windows) &&
    u.firstTracking.isSome

/-- The start-up selection (R68) while SEEKING, the recovery selection (R64) while LOST; neither acts
once there is a current source. -/
def SpeedUnit.started (pref : Source) (u : SpeedUnit) : SpeedUnit :=
  if u.current.isSome then u
  else
    match u.reference with
    | .seeking =>
      if u.isTracking pref then u.take pref
      else if 20 ≤ u.windows then
        match u.firstTracking with
        | some n => { u.take n with sourceFail := true }
        | none => u
      else u
    | .lost =>
      match u.firstTracking with
      | some n => u.take n
      | none => u
    | .valid => u

/-- The unit after stages 1 to 3 of a window. -/
def unitTracked (i : WindowIn) (s : State) : SpeedUnit := (readSources i s).measured.tracked

/-- The unit after stage 4. -/
def unitSelected (i : WindowIn) (s : State) : SpeedUnit :=
  (unitTracked i s).fallback.switched.started (preferredSource s.straps.srcPref)

/-- The start-up selection of this window takes a source other than the preferred one (R68). -/
def startsOtherAt (i : WindowIn) (s : State) : Bool :=
  (unitTracked i s).fallback.switched.startsOther (preferredSource s.straps.srcPref)

/-- A selection of this window sets SOURCE_FAIL (R65). -/
def setsSourceFail (i : WindowIn) (s : State) : Bool :=
  (unitTracked i s).currentLost || startsOtherAt i s

/-! ### Stage 5 and what the window hands on (R67, R171, R182, R99) -/

/-- The SOURCE_SPEED update (R67). -/
def sourceSpeedUpdate (s : State) : Option Nat :=
  match s.speed.current with
  | some .front => none
  | some .sat => some (s.param .srcSatSpeed)
  | some .rear => some (s.param .srcRearSpeed)
  | none => none

/-- The hold set at the end of STARTING (R182). -/
def startHold (moving : Bool) (d : DriveCtl) : HoldSet :=
  { HoldSet.empty with
    startMoving := moving
    safetyHold := d.hold.safetyHold
    steerFault := d.conditions.steerFault
    steerCrit := d.conditions.steerCrit }

/-- The end of STARTING: the first row of R182's table that applies, and the wheel-loss cause at an
entry to HOLD (R93). -/
def endStarting (s : State) : State :=
  if s.drive.tripMark then
    enter .tripped { s with drive := { s.drive with hold := .empty, applyCount := 0 } }
  else if 5 ≤ s.speed.v then handWheelLoss (enterHold (startHold true s.drive) s)
  else if s.drive.hold.safetyHold then handWheelLoss (enterHold (startHold false s.drive) s)
  else enterParked s

/-- A window taken in TRIPPED: the trip apply count and the park brake output (R171). -/
def trippedWindow (s : State) : State :=
  let n := if s.speed.current.isNone then min 50 (s.drive.applyCount + 1) else s.drive.applyCount
  { s with
    drive := { s.drive with
      applyCount := n
      brakeApply := s.drive.brakeApply || decide (s.speed.v < 5) ||
        (s.speed.current.isNone && decide (50 ≤ n)) } }

/-- The Drive State Controller at a window, by its state as the window began: in TRIPPED the brake
rule, in STARTING its end once a current source exists (R171, R182). -/
def driveAtWindow (before : Drive) (s : State) : State :=
  match before with
  | .tripped => trippedWindow s
  | .starting =>
    if s.drive.state = .starting ∧ s.speed.current.isSome then endStarting s else s
  | .parked => s
  | .releasing => s
  | .ready => s
  | .hold => s

/-- The state after the unit's own stages and its hand-overs to the Limit Table, the links and the
Drive State Controller (R52, stages 1 to 5). -/
def windowHanded (i : WindowIn) (s : State) : State :=
  let s1 : State := { s with speed := unitSelected i s }
  let s2 := raiseIf (setsSourceFail i s) .sourceFail
    (updateGov [(.sourceSpeed, sourceSpeedUpdate s1)] s1)
  if (unitTracked i s).referenceLost then handTrip .referenceLost s2 else s2

/-- The window (R52), with the controller's part (R171, R182) and the slip window at its end (R99).
Log entry 17 gives the order of the hand-overs. -/
def windowState (i : WindowIn) (s : State) : State :=
  slipWindow (surfaceSpeeds s) (driveAtWindow s.drive.state (windowHanded i s))

/-- WINDOW. -/
def execWindow (i : WindowIn) (s : State) : Host.Outcome State Fault Refusal :=
  .next (windowState i s)

/-! ### Events inside a window (log entry 1) -/

/-- A source's tracker reaches TRACKING (R57). -/
def becomesTracking (src : Source) (s t : State) : Bool :=
  (s.speed.trackers.get src).state == .qualifying && (t.speed.trackers.get src).state == .tracking

/-- A source's tracker is LOST (R57). -/
def becomesLost (src : Source) (s t : State) : Bool :=
  (s.speed.trackers.get src).state == .tracking && (t.speed.trackers.get src).state == .lost

/-- The trip apply count reaches 50 (R171). -/
def applyCountExpires (s t : State) : Bool :=
  s.drive.state == .tripped && decide (s.drive.applyCount < 50) && decide (t.drive.applyCount = 50)

/-- A SETTLED wheel starts a new search (R106). -/
def reprobes (w : Wheel) (s t : State) : Bool :=
  (s.grip.get w).state == .settled &&
    ((t.grip.get w).state == .search || (t.grip.get w).state == .free)

/-- TRACKER_TRACKING: the window at which the source becomes TRACKING (R57). -/
def execTrackerTracking (src : Source) (i : WindowIn) (s : State) :
    Host.Outcome State Fault Refusal :=
  .next (whenItComesAbout (becomesTracking src) (windowState i) s)

/-- TRACKER_LOST: the window at which the source becomes LOST (R57, R63, R64). -/
def execTrackerLost (src : Source) (i : WindowIn) (s : State) : Host.Outcome State Fault Refusal :=
  .next (whenItComesAbout (becomesLost src) (windowState i) s)

/-- START_SELECTION_TIMEOUT: the window at which the start-up selection takes another source than the
preferred one (R68). -/
def execStartSelectionTimeout (i : WindowIn) (s : State) : Host.Outcome State Fault Refusal :=
  .next (whenItComesAbout (fun x _ => startsOtherAt i x) (windowState i) s)

/-- TRIP_APPLY_COUNT_EXPIRY: the 50th window in TRIPPED without a current source (R171). -/
def execTripApplyCountExpiry (i : WindowIn) (s : State) : Host.Outcome State Fault Refusal :=
  .next (whenItComesAbout applyCountExpires (windowState i) s)

/-- REPROBE_START: the window at which a SETTLED wheel starts a new search (R106). -/
def execReprobeStart (w : Wheel) (i : WindowIn) (s : State) : Host.Outcome State Fault Refusal :=
  .next (whenItComesAbout (reprobes w) (windowState i) s)

/-! ### Requests (R56, R61, R62, R66) -/

/-- A source as a field, absent for none (R186). -/
def sourceField (c : Option Source) : List Byte := optU8 (c.map sourceCode)

/-- The speed unit replaced. -/
def withSpeed (u : SpeedUnit) (s : State) : State := { s with speed := u }

/-- SPEED_FIX's check, and its effect (R56). -/
def speedFixWork (speed quality : Half) (_ : Owner) (s : State) : State × Reply :=
  if 800 < speed.toNat ∨ 3 < quality.toNat then (s, .refuse .badValue)
  else
    (withSpeed { s.speed with fix := some ⟨speed.toNat, quality.toNat⟩, fresh := 3 } s,
      .ok (sourceField s.speed.current ++ u16 s.speed.v ++ u8 s.speed.trackers.sat.state.code))

/-- SPEED_FIX (code 30). -/
def execSpeedFix (h : Hdr) (speed quality : Half) (s : State) : Host.Outcome State Fault Refusal :=
  .next (takeRequest h 0x30 dispatchOrAutonomy (speedFixWork speed quality) s)

/-- The pending source after a SELECT_SPEED_SOURCE (R61). -/
def selectedPending (current : Option Source) (src : Source) : Option Source :=
  if current = some src then none else some src

/-- SELECT_SPEED_SOURCE's checks in R61's order, and its effect. -/
def selectWork (source : Byte) (_ : Owner) (s : State) : State × Reply :=
  match sourceOfCode source with
  | none => (s, .refuse .badValue)
  | some src =>
    if s.speed.lock then (s, .refuse .locked)
    else
      let p := selectedPending s.speed.current src
      (withSpeed { s.speed with pending := p } s,
        .ok (sourceField s.speed.current ++ sourceField p ++
          u8 (s.speed.trackers.get src).state.code))

/-- SELECT_SPEED_SOURCE (code 31). -/
def execSelectSpeedSource (h : Hdr) (source : Byte) (s : State) :
    Host.Outcome State Fault Refusal :=
  .next (takeRequest h 0x31 anyAuthority (selectWork source) s)

/-- LOCK_SPEED_SOURCE (R62): with the lock already set nothing changes. -/
def lockWork (_ : Owner) (s : State) : State × Reply :=
  (if s.speed.lock then s else withSpeed { s.speed with lock := true, pending := none } s,
    .ok (sourceField s.speed.current))

/-- LOCK_SPEED_SOURCE (code 32). -/
def execLockSpeedSource (h : Hdr) (s : State) : Host.Outcome State Fault Refusal :=
  .next (takeRequest h 0x32 safetyOnly lockWork s)

/-- CLEAR_SOURCE_FAIL (R66). -/
def clearSourceFailWork (_ : Owner) (s : State) : State × Reply :=
  (withSpeed { s.speed with sourceFail := false } s,
    .ok (sourceField s.speed.current ++ u8 s.speed.reference.code))

/-- CLEAR_SOURCE_FAIL (code 33). -/
def execClearSourceFail (h : Hdr) (s : State) : Host.Outcome State Fault Refusal :=
  .next (takeRequest h 0x33 anyAuthority clearSourceFailWork s)

end Sys2Proof.Machine
end

