-- ==== Sys2Proof/Machine/Steering.lean ====
section
/-! DEFINITION. The Steering Governor (Chapter 8): the steer step and the requests on the steer
curve. -/

namespace Sys2Proof.Machine

/-! ### The steer curve (R141, R146) -/

/-- The seven segments of a curve, each the pair of its points (R141). -/
def curveSegments (curve : Vector CurvePoint 8) : List (CurvePoint × CurvePoint) :=
  curve.toList.zip curve.toList.tail

/-- curve(v) (R141). -/
def curveAt (curve : Vector CurvePoint 8) (v : Nat) : Nat :=
  match (curveSegments curve).find? (fun x => decide (x.1.speed ≤ v) && decide (v ≤ x.2.speed)) with
  | some x => x.1.angle - (v - x.1.speed) * (x.1.angle - x.2.angle) / (x.2.speed - x.1.speed)
  | none => curve[7].angle

/-- The greatest speed of a curve segment at which an angle is allowed (R146). -/
def speedOnSegment (x : CurvePoint × CurvePoint) (d : Nat) : Nat :=
  if x.1.angle = x.2.angle then x.2.speed
  else x.1.speed + (x.1.angle - d) * (x.2.speed - x.1.speed) / (x.1.angle - x.2.angle)

/-- The STEER_CURVE value of an angle above a7 and up to a0: from the highest segment that spans it
(R146). -/
def speedAllowed (curve : Vector CurvePoint 8) (d : Nat) : Nat :=
  match (curveSegments curve).reverse.find? (fun x => decide (d ≤ x.1.angle) && decide (x.2.angle ≤ d)) with
  | some x => speedOnSegment x d
  | none => 0

/-- The STEER_CURVE update (R146). -/
def steerCurveUpdate (curve : Vector CurvePoint 8) (command : Option Int) : Option Nat :=
  match command with
  | none => none
  | some δ =>
    if δ.natAbs ≤ curve[7].angle then none
    else if curve[0].angle < δ.natAbs then some 0
    else some (speedAllowed curve δ.natAbs)

/-! ### Stages of the steer step (R139) -/

/-- Stage 1 (R140). -/
def SteerGov.sampled (i : SteerIn) (u : SteerGov) : SteerGov :=
  { u with
    measured := if i.angleLineGood = true ∧ -500 ≤ i.angle ∧ i.angle ≤ 500 then some i.angle else none
    pressure :=
      if i.pressureLineGood = true ∧ 0 ≤ i.pressure ∧ i.pressure ≤ 3500 then some i.pressure.toNat
      else none }

/-- The tracking fault is found, with a freeze angle (R147). -/
def SteerGov.faulted (freeze : Option Int) (u : SteerGov) : SteerGov :=
  { u with fault := true, errors := 0, recovery := 0, freeze := freeze }

/-- Stage 2 while the fault state is CLEAR (R147). -/
def SteerGov.watched (tolerance : Nat) (u : SteerGov) : SteerGov :=
  match u.measured, u.command with
  | none, c => u.faulted c
  | some _, none => { u with errors := 0 }
  | some m, some δ =>
    if tolerance < (m - δ).natAbs then
      if 10 ≤ u.errors + 1 then u.faulted (some m) else { u with errors := u.errors + 1 }
    else { u with errors := 0 }

/-- Stage 2 while the fault state is STEER_FAULT (R148). -/
def SteerGov.recovered (tolerance : Nat) (u : SteerGov) : SteerGov :=
  match u.measured, u.command with
  | none, _ => { u with recovery := 0 }
  | some _, none => { u with recovery := 0 }
  | some m, some δ =>
    if tolerance < (m - δ).natAbs then { u with recovery := 0 }
    else if 10 ≤ u.recovery + 1 then { u with fault := false, recovery := 0, freeze := none }
    else { u with recovery := u.recovery + 1 }

/-- Stage 2 (R147, R148). -/
def SteerGov.tracked (tolerance : Nat) (u : SteerGov) : SteerGov :=
  if u.fault then u.recovered tolerance else u.watched tolerance

/-- Stage 3 (R142). -/
def SteerGov.limited (s : State) (u : SteerGov) : SteerGov :=
  { u with
    alim := min (s.eff .left .steerAngle) (curveAt u.curve s.speed.v)
    rateStep := s.eff .left .steerRate / 20 }

/-- The drive states in which the command holds (R143). -/
def Drive.steerHolds : Drive → Bool
  | .parked => true
  | .starting => true
  | .tripped => true
  | .releasing => false
  | .ready => false
  | .hold => false

/-- What the command is moved toward, before the angle limit: the first row of R143's table that
applies. -/
def steerAim (d : Drive) (demand : Option Int) (u : SteerGov) (δ : Int) : Int :=
  if d.steerHolds then δ
  else if u.fault then u.freeze.getD δ
  else demand.getD δ

/-- The target: the aim within the angle limit (R143). -/
def steerTarget (d : Drive) (demand : Option Int) (u : SteerGov) (δ : Int) : Int :=
  clampInt (steerAim d demand u δ) (-(u.alim : Int)) u.alim

/-- Stage 4: the command is seeded, or moved toward its target by at most the rate step (R143, R144).
A step that moves nothing has no target (log entry 28). -/
def SteerGov.moved (d : Drive) (demand : Option Int) (u : SteerGov) : SteerGov :=
  match u.command with
  | some δ =>
    let t := steerTarget d demand u δ
    { u with command := some (δ + clampInt (t - δ) (-(u.rateStep : Int)) u.rateStep), target := some t }
  | none =>
    match u.measured with
    | some m =>
      { u with
        command := some m
        target := none
        freeze := if u.fault = true ∧ u.freeze = none then some m else u.freeze }
    | none => { u with target := none }

/-- A flag kept against the pressure with a band of 50 (R149, R150). -/
def flagAfter (flag : Bool) (threshold p : Nat) : Bool :=
  if flag then decide (p < threshold + 50) else decide (p < threshold)

/-- Stage 5: an input out of range is taken as 0 (R140, R149, R150). -/
def SteerGov.reserved (low crit : Nat) (u : SteerGov) : SteerGov :=
  { u with
    low := flagAfter u.low low (u.pressure.getD 0)
    crit := flagAfter u.crit crit (u.pressure.getD 0) }

/-- The Steering Governor after stages 1 to 5 (R139). -/
def steerUnit (i : SteerIn) (s : State) : SteerGov :=
  (((((s.steer.sampled i).tracked (s.param .steerTrackErr)).limited s).moved s.drive.state
    s.torque.steerDemand).reserved (s.param .steerLow) (s.param .steerCrit))

/-! ### Stage 6 (R139, R146, R149) -/

/-- The two governor record updates of a steer step, handed together. -/
def steerUpdates (i : SteerIn) (s : State) : List (Gov × Option Nat) :=
  let u := steerUnit i s
  [(.steerCurve, steerCurveUpdate u.curve u.command),
   (.steerReserve, if u.low then some (s.param .steerReserveSpeed) else none)]

/-- Hand a condition cause found at this step, or its clearing, which only removes it from the
conditions present (R172). -/
def handCondition (c : HoldCause) (before after : Bool) (s : State) : State :=
  if before = after then s
  else if after then handHold c s
  else { s with drive := { s.drive with conditions := s.drive.conditions.remove c } }

/-- The steer step (R139). -/
def steerStepState (i : SteerIn) (s : State) : State :=
  let u := steerUnit i s
  let s1 := updateGov (steerUpdates i s) { s with steer := u }
  handCondition .steerCrit s.steer.crit u.crit (handCondition .steerFault s.steer.fault u.fault s1)

/-- STEER_STEP. -/
def execSteerStep (i : SteerIn) (s : State) : Host.Outcome State Fault Refusal :=
  .next (steerStepState i s)

/-- STEER_FAULT: the steer step at which the tracking fault is found (R147; log entry 1). -/
def execSteerFault (i : SteerIn) (s : State) : Host.Outcome State Fault Refusal :=
  .next (whenItComesAbout (fun x t => !x.steer.fault && t.steer.fault) (steerStepState i) s)

/-- STEER_FAULT_CLEAR: the steer step at which the tracking fault clears (R148; log entry 1). -/
def execSteerFaultClear (i : SteerIn) (s : State) : Host.Outcome State Fault Refusal :=
  .next (whenItComesAbout (fun x t => x.steer.fault && !t.steer.fault) (steerStepState i) s)

/-! ### SET_STEER_POINT and READ_STEER_POINT (R151, R152) -/

/-- The curve with point k replaced keeps the order of R141 (R151, check 3). -/
def pointFits (curve : Vector CurvePoint 8) (k : Nat) (p : CurvePoint) (rated : Nat) : Bool :=
  (k != 0 || p.speed == 0) &&
    (k == 0 || (curve.toList[k - 1]?).all (fun x => decide (x.speed < p.speed) && decide (p.angle ≤ x.angle))) &&
    (curve.toList[k + 1]?).all (fun x => decide (p.speed < x.speed) && decide (x.angle ≤ p.angle)) &&
    decide (p.angle ≤ rated)

/-- SET_STEER_POINT's checks in R151's order, and its effect. -/
def setPointWork (k : Byte) (speed angle : Half) (_ : Owner) (s : State) : State × Reply :=
  if hk : k.toNat < 8 then
    if 640 < speed.toNat ∨ 450 < angle.toNat then (s, .refuse .badValue)
    else if s.drive.state ≠ .parked then (s, .refuse .state)
    else
      let p : CurvePoint := ⟨speed.toNat, angle.toNat⟩
      if pointFits s.steer.curve k.toNat p (s.param .steerAngleRated) = false then
        (s, .refuse .badValue)
      else
        ({ s with steer := { s.steer with curve := s.steer.curve.set k.toNat p } },
          .ok (u8 k.toNat ++ u16 p.speed ++ u16 p.angle))
  else (s, .refuse .badValue)

/-- SET_STEER_POINT (code 58). -/
def execSetSteerPoint (h : Hdr) (k : Byte) (speed angle : Half) (s : State) :
    Host.Outcome State Fault Refusal :=
  .next (takeRequest h 0x58 dispatchOrSafety (setPointWork k speed angle) s)

/-- READ_STEER_POINT's reply (R152). -/
def readPointReply (k : Byte) (s : State) : Reply :=
  match s.steer.curve[k.toNat]? with
  | none => .refuse .badValue
  | some p => .ok (u8 k.toNat ++ u16 p.speed ++ u16 p.angle ++ u16 (curveAt s.steer.curve s.speed.v))

/-- READ_STEER_POINT (code 59). -/
def execReadSteerPoint (h : Hdr) (k : Byte) (s : State) : Host.Outcome State Fault Refusal :=
  .next (takeRequest h 0x59 anyAuthority (reading (readPointReply k)) s)

end Sys2Proof.Machine
end

