-- ==== Sys2Proof/Machine/Dispatch.lean ====
section
/-! DEFINITION. One arm per command: each calls its meaning. -/

namespace Sys2Proof.Machine

def exec (i : Instr) (s : State) : Host.Outcome State Fault Refusal :=
  match i with
  | .nop h => Sys2Proof.Machine.execNop h s
  | .frameError link bytes => Sys2Proof.Machine.execFrameError link bytes s
  | .unknownRequest h code => Sys2Proof.Machine.execUnknownRequest h code s
  | .placeLimit h kind scope value segment lease immediate => Sys2Proof.Machine.execPlaceLimit h kind scope value segment lease immediate s
  | .amendLimit h slot gen value action length => Sys2Proof.Machine.execAmendLimit h slot gen value action length s
  | .renewLimit h slot gen => Sys2Proof.Machine.execRenewLimit h slot gen s
  | .retireLimit h slot gen => Sys2Proof.Machine.execRetireLimit h slot gen s
  | .retireOwner h owner => Sys2Proof.Machine.execRetireOwner h owner s
  | .lookupLimit h slot gen half => Sys2Proof.Machine.execLookupLimit h slot gen half s
  | .findLimit h owner kind scope segment => Sys2Proof.Machine.execFindLimit h owner kind scope segment s
  | .nextLimit h slot => Sys2Proof.Machine.execNextLimit h slot s
  | .readEnvelope h wheel kind => Sys2Proof.Machine.execReadEnvelope h wheel kind s
  | .loadSegment h id grade rr cls => Sys2Proof.Machine.execLoadSegment h id grade rr cls s
  | .amendSegment h id grade rr cls => Sys2Proof.Machine.execAmendSegment h id grade rr cls s
  | .retireSegment h id => Sys2Proof.Machine.execRetireSegment h id s
  | .enterSegment h id heading => Sys2Proof.Machine.execEnterSegment h id heading s
  | .leaveSegment h => Sys2Proof.Machine.execLeaveSegment h s
  | .readSegment h id mode => Sys2Proof.Machine.execReadSegment h id mode s
  | .speedFix h speed quality => Sys2Proof.Machine.execSpeedFix h speed quality s
  | .selectSpeedSource h source => Sys2Proof.Machine.execSelectSpeedSource h source s
  | .lockSpeedSource h => Sys2Proof.Machine.execLockSpeedSource h s
  | .clearSourceFail h => Sys2Proof.Machine.execClearSourceFail h s
  | .setDemand h demand steer direction => Sys2Proof.Machine.execSetDemand h demand steer direction s
  | .park h => Sys2Proof.Machine.execPark h s
  | .unpark h => Sys2Proof.Machine.execUnpark h s
  | .clearHold h => Sys2Proof.Machine.execClearHold h s
  | .safetyHold h => Sys2Proof.Machine.execSafetyHold h s
  | .trip h => Sys2Proof.Machine.execTrip h s
  | .resetTrip h => Sys2Proof.Machine.execResetTrip h s
  | .setControlMode h mode => Sys2Proof.Machine.execSetControlMode h mode s
  | .restart h kind => Sys2Proof.Machine.execRestart h kind s
  | .powerUp straps brakeReleased => Sys2Proof.Machine.execPowerUp straps brakeReleased s
  | .restartInput level => Sys2Proof.Machine.execRestartInput level s
  | .clearGridFault h grid => Sys2Proof.Machine.execClearGridFault h grid s
  | .startSweep h g0 gstep m0 mstep => Sys2Proof.Machine.execStartSweep h g0 gstep m0 mstep s
  | .readSweep h => Sys2Proof.Machine.execReadSweep h s
  | .setSteerPoint h k speed angle => Sys2Proof.Machine.execSetSteerPoint h k speed angle s
  | .readSteerPoint h k => Sys2Proof.Machine.execReadSteerPoint h k s
  | .tare h => Sys2Proof.Machine.execTare h s
  | .readStatus h page item => Sys2Proof.Machine.execReadStatus h page item s
  | .clearAttention h causes => Sys2Proof.Machine.execClearAttention h causes s
  | .setAttentionMask h causes => Sys2Proof.Machine.execSetAttentionMask h causes s
  | .setParam h index value => Sys2Proof.Machine.execSetParam h index value s
  | .getParam h index => Sys2Proof.Machine.execGetParam h index s
  | .leaseStep => Sys2Proof.Machine.execLeaseStep s
  | .expiry => Sys2Proof.Machine.execExpiry s
  | .envelopeStep => Sys2Proof.Machine.execEnvelopeStep s
  | .window x => Sys2Proof.Machine.execWindow x s
  | .trackerTracking source x => Sys2Proof.Machine.execTrackerTracking source x s
  | .trackerLost source x => Sys2Proof.Machine.execTrackerLost source x s
  | .startSelectionTimeout x => Sys2Proof.Machine.execStartSelectionTimeout x s
  | .tripApplyCountExpiry x => Sys2Proof.Machine.execTripApplyCountExpiry x s
  | .reprobeStart wheel x => Sys2Proof.Machine.execReprobeStart wheel x s
  | .holdDwellEnd wheel => Sys2Proof.Machine.execHoldDwellEnd wheel s
  | .searchDwellEnd wheel => Sys2Proof.Machine.execSearchDwellEnd wheel s
  | .commandStep => Sys2Proof.Machine.execCommandStep s
  | .demandLeaseExpiry => Sys2Proof.Machine.execDemandLeaseExpiry s
  | .inverterMessage wheel rpm fault => Sys2Proof.Machine.execInverterMessage wheel rpm fault s
  | .inverterSilent wheel => Sys2Proof.Machine.execInverterSilent wheel s
  | .capacityStep x => Sys2Proof.Machine.execCapacityStep x s
  | .gridFault grid x => Sys2Proof.Machine.execGridFault grid x s
  | .linkVoltageClear x => Sys2Proof.Machine.execLinkVoltageClear x s
  | .sweepEntry => Sys2Proof.Machine.execSweepEntry s
  | .sweepReady => Sys2Proof.Machine.execSweepReady s
  | .steerStep x => Sys2Proof.Machine.execSteerStep x s
  | .steerFault x => Sys2Proof.Machine.execSteerFault x s
  | .steerFaultClear x => Sys2Proof.Machine.execSteerFaultClear x s
  | .loadWindow struts => Sys2Proof.Machine.execLoadWindow struts s
  | .latchEnd struts => Sys2Proof.Machine.execLatchEnd struts s
  | .brakeReleasedInput released => Sys2Proof.Machine.execBrakeReleasedInput released s
  | .releaseTimeout => Sys2Proof.Machine.execReleaseTimeout s

end Sys2Proof.Machine
end

