-- ==== Sys2Proof/Safety.lean ====
section
/-! DEFINITION. What counts as a state in order: the invariants that claims are stated in, block by
block, and the values the restart tables give. -/

namespace Sys2Proof.Machine

/-! ### The envelope (R29 to R32) -/

/-- E and B are the resolution of the Limit Table as it stands (R31), and A is never below E(SPEED_MAX)
(R32). -/
def EnvelopeResolved (s : State) : Prop :=
  s.env.left = resolveWheel s .left ∧ s.env.right = resolveWheel s .right ∧
    s.env.left.speedMax.value ≤ s.env.applied

/-! ### The Limit Table and the Segment Table (R3 to R8, R11, R39, R40) -/

/-- A record as R4 to R6 and R11 allow it. -/
def Rec.Legal (r : Rec) : Prop :=
  r.owner ≠ .governor ∧ r.kind.inRange r.value = true ∧ (r.scope = .both ∨ r.kind.perWheel = true) ∧
    (r.immediate = true → r.owner = .safety) ∧
    ∀ l, r.lease = some l → 1 ≤ l.remaining ∧ l.remaining ≤ l.length ∧ l.length ≤ 6000

/-- Generations of external slots lie in 1 to 255 (R3); every record is legal, ACTIVE exactly when it is
unbound or bound to the current segment (R8), and the only one with its key (R7). -/
def TableInOrder (s : State) : Prop :=
  (∀ i : Fin 39, 1 ≤ s.table[i.val].gen ∧ s.table[i.val].gen ≤ 255) ∧
  (∀ (i : Fin 39) (r : Rec), s.table[i.val].record = some r →
    r.Legal ∧ (r.active = true ↔ (r.segment = none ∨ r.segment = s.segs.current))) ∧
  (∀ (i j : Fin 39) (r q : Rec), s.table[i.val].record = some r → s.table[j.val].record = some q →
    r.owner = q.owner → r.kind = q.kind → r.scope = q.scope → r.segment = q.segment → i = j)

/-- A Route Segment record within R39's ranges. -/
def Segment.Legal (g : Segment) : Prop :=
  1 ≤ g.id ∧ g.id ≤ 255 ∧ -200 ≤ g.grade ∧ g.grade ≤ 200 ∧ g.rr ≤ 100

/-- At most 64 records by strictly rising id (R39); the current segment and every segment a record is
bound to are in the table (R8, R40). -/
def SegmentsInOrder (s : State) : Prop :=
  s.segs.records.length ≤ 64 ∧ (s.segs.records.map Segment.id).Pairwise (· < ·) ∧
  (∀ g, g ∈ s.segs.records → g.Legal) ∧
  (∀ id, s.segs.current = some id → (findSegment s id).isSome) ∧
  (∀ (i : Fin 39) (r : Rec) (id : Nat), s.table[i.val].record = some r → r.segment = some id →
    (findSegment s id).isSome)

/-! ### Torque, wheels and grip (R85 to R93, R98) -/

/-- A wheel's command keeps R87: zero in the zero-torque drive states and while MUTED, never positive in
HOLD. -/
def WheelState.AtRest (d : Drive) (x : WheelState) : Prop :=
  ((d.zeroTorque = true ∨ x.isMuted = true) → x.tprev = 0 ∧ x.sent.torque = 0) ∧
    (d = .hold → x.tprev ≤ 0)

/-- Both wheels keep R87. -/
def TorqueAtRest (s : State) : Prop := ∀ w : Wheel, (s.wheel w).AtRest s.drive.state

/-- A wheel's link and mode agree (R89 to R92): SILENT exactly at a count of 5, and GOVERNED only with
the link UP. -/
def WheelState.Agrees (x : WheelState) : Prop :=
  x.silence ≤ 5 ∧ (x.link = .silent ↔ x.silence = 5) ∧ (x.mode = .governed → x.link = .up)

/-- Both wheels' links and modes agree, and the wheel-loss causes have been handed: READY has both wheels
GOVERNED, HOLD at least one (R93). -/
def WheelsInOrder (s : State) : Prop :=
  (∀ w : Wheel, (s.wheel w).Agrees) ∧
  (s.drive.state = .ready → ∀ w : Wheel, (s.wheel w).mode = .governed) ∧
  (s.drive.state = .hold → ∃ w : Wheel, (s.wheel w).mode = .governed)

/-- A wheel's ceiling lies between the floor bound and P_WHEEL_RATED, at P_WHEEL_RATED in FREE (R98); in
SEARCH best is at or below the present step (R105). -/
def Grip.Bounded (rated : Nat) (g : Grip) : Prop :=
  rated * 100 / 1000 ≤ g.ceiling ∧ g.ceiling ≤ rated ∧ (g.state = .free → g.ceiling = rated) ∧
    (g.state = .search → rated * 100 / 1000 ≤ g.best ∧ g.best ≤ g.ceiling)

/-- Both wheels' ceilings are bounded. -/
def CeilingsBounded (s : State) : Prop :=
  ∀ w : Wheel, (s.grip.get w).Bounded (s.param .wheelRated)

/-! ### The reference and the drive (R57, R59, R77, R170 to R176) -/

/-- The current source, where one exists, is TRACKING and the reference VALID (R57, R59); READY, HOLD and
RELEASING have one, STARTING is still SEEKING (R170, R182). -/
def SourceInForce (s : State) : Prop :=
  (s.speed.current.isSome = true ↔ s.speed.reference = .valid) ∧
  (∀ c, s.speed.current = some c → (s.speed.trackers.get c).state = .tracking) ∧
  ((s.drive.state = .ready ∨ s.drive.state = .hold ∨ s.drive.state = .releasing) →
    s.speed.current.isSome = true) ∧
  (s.drive.state = .starting → s.speed.reference = .seeking)

/-- What the drive state fixes: the park brake output (R171), the release timer (R175), the hold set
(R170), the trip cause and mark (R170), the demand and its lease (R77), the brake assist level in
TRIPPED (R129). -/
def DriveInOrder (s : State) : Prop :=
  (s.drive.state = .parked → s.drive.brakeApply = true) ∧
  ((s.drive.state = .starting ∨ s.drive.state = .releasing ∨ s.drive.state = .ready ∨
    s.drive.state = .hold) → s.drive.brakeApply = false) ∧
  (s.drive.timer.isSome = true ↔ s.drive.state = .releasing) ∧
  (∀ n, s.drive.timer = some n → 1 ≤ n ∧ n ≤ 2000) ∧
  (s.drive.state = .hold → s.drive.hold ≠ .empty) ∧
  (s.drive.state = .starting →
    s.drive.hold = { HoldSet.empty with safetyHold := s.drive.hold.safetyHold }) ∧
  (s.drive.state ≠ .hold → s.drive.state ≠ .starting → s.drive.hold = .empty) ∧
  ((s.drive.state = .tripped ∨ s.drive.tripMark = true) → s.drive.trip.isSome = true) ∧
  (s.drive.tripMark = true → s.drive.state = .starting) ∧
  (s.torque.demand.isSome = true → s.drive.state = .ready) ∧
  (s.torque.lease.isSome = true ↔ s.drive.state = .ready) ∧
  (∀ n, s.torque.lease = some n → 1 ≤ n ∧ n ≤ 25) ∧
  (s.drive.state = .tripped → s.retard.assist = 1000) ∧ s.retard.assist ≤ 1000

/-- STEER_FAULT and STEER_CRIT are among the conditions present exactly while the Steering Governor's
fault state and critical flag stand (R172). -/
def ConditionsFollow (s : State) : Prop :=
  s.drive.conditions.steerFault = s.steer.fault ∧ s.drive.conditions.steerCrit = s.steer.crit

/-! ### Grids, curve, sweep, load, parameters (R111, R117, R131, R141, R156, R190) -/

/-- A grid record within R111's values: an OFF grid stands at zeros, the fault counter is 5 exactly in
FAULT. -/
def Grid.InOrder (g : Grid) : Prop :=
  g.theta ≤ 8000 ∧ g.alloc ≤ g.cap ∧ g.duty ≤ 1000 ∧ g.faults ≤ 5 ∧
    (g.state ≠ .off → (g.state = .fault ↔ g.faults = 5)) ∧
    (g.state = .off → g.theta = 0 ∧ g.cap = 0 ∧ g.alloc = 0 ∧ g.duty = 0)

/-- The four grids are in order, P_cap is the sum of their capacities (R115), and the allocations add up
to no more than P_req and no more than P_cap (R117). -/
def GridsInOrder (s : State) : Prop :=
  (∀ n : GridNo, (s.retard.grids.get n).InOrder) ∧
  s.retard.pcap = (s.retard.grids.map Grid.cap).sum ∧
  (s.retard.grids.map Grid.alloc).sum ≤ s.retard.preq ∧
  (s.retard.grids.map Grid.alloc).sum ≤ s.retard.pcap

/-- The steer curve keeps the order of R141. -/
def CurveInOrder (c : Vector CurvePoint 8) : Prop :=
  (c.get 0).speed = 0 ∧
  (∀ k : Fin 8, (c.get k).speed ≤ 640 ∧ (c.get k).angle ≤ 450) ∧
  (∀ i j : Fin 8, i < j → (c.get i).speed < (c.get j).speed ∧ (c.get j).angle ≤ (c.get i).angle)

/-- The sweep holds what R131 says: fewer than 64 entries while RUNNING, 64 and a cursor below 64 when
READY. -/
def Sweep.InOrder : Sweep → Prop
  | .idle => True
  | .running _ t => t.length < 64
  | .ready _ t c => t.length = 64 ∧ c < 64

/-- The monitor holds what R156 says. -/
def LoadMon.InOrder (m : LoadMon) : Prop :=
  m.samples.length ≤ 16 ∧ (∀ x, x ∈ m.samples → x ≤ 30000) ∧ m.tare ≤ 30000 ∧ m.value ≤ 4000 ∧
    m.lowSpeed ≤ 30 ∧ m.heat.left ≤ 12000 ∧ m.heat.right ≤ 12000 ∧
    (m.state = .invalid → m.samples = []) ∧ (m.state ≠ .invalid → m.cls ≠ .none)

/-- Parameters, steer curve, sweep and load monitor hold what their rules allow. -/
def HoldingsInRange (s : State) : Prop :=
  (∀ p : Param, p.range.1 ≤ s.param p ∧ s.param p ≤ p.range.2) ∧ CurveInOrder s.steer.curve ∧
    s.retard.sweep.InOrder ∧ s.load.InOrder

/-! ### After a restart -/

/-- What every restart leaves, COLD or WARM (R26, R70, R96, R109, R137, R155, R181, R184, R187). -/
def AfterRestart (t : State) : Prop :=
  (∀ l : Link, (t.port l).answer = ⟨0, 0, .none, List.replicate 8 0⟩ ∧ (t.port l).pending = 1#9 ∧
    (t.port l).expiryCount = 0 ∧ (t.port l).lastExpiry = none) ∧
  (t.drive.state = .starting ∧ t.drive.brakeApply = false ∧ t.drive.conditions = ⟨false, false⟩ ∧
    t.drive.timer = none ∧ t.drive.outcome = .none ∧ t.drive.applyCount = 0) ∧
  (t.torque.demand = none ∧ t.torque.steerDemand = none ∧ t.torque.lease = none ∧
    t.torque.direction = .forward ∧ t.torque.vmax = t.env.applied ∧
    ∀ w : Wheel, (t.wheel w).tprev = 0 ∧ (t.wheel w).history = Vector.replicate 10 0 ∧
      (t.wheel w).stage = .zero ∧ (t.wheel w).retardBound = false ∧ (t.wheel w).sent.torque = 0) ∧
  (t.speed.current = none ∧ t.speed.reference = .seeking ∧ t.speed.pending = none ∧
    t.speed.windows = 0 ∧ t.speed.fix = none ∧ t.speed.fresh = 0 ∧ t.speed.pulses = ⟨[], []⟩ ∧
    t.speed.marks = ⟨false, false⟩ ∧
    ∀ x : Source, (t.speed.trackers.get x).state = .absent ∧ (t.speed.trackers.get x).count = 0 ∧
      (t.speed.trackers.get x).misses = 0) ∧
  (t.steer.command = none ∧ t.steer.fault = false ∧ t.steer.errors = 0 ∧ t.steer.recovery = 0 ∧
    t.steer.freeze = none ∧ t.steer.low = false ∧ t.steer.crit = false) ∧
  (t.retard.gradeShort = false ∧ t.retard.overvolt = false ∧ t.retard.lowCount = 0 ∧
    t.retard.sweep = .idle ∧
    ∀ n : GridNo, (t.retard.grids.get n).alloc = 0 ∧ (t.retard.grids.get n).duty = 0 ∧
      (t.retard.grids.get n).power = 0) ∧
  (t.load.samples = [] ∧ t.load.lowSpeed = 0) ∧
  (∀ g : Gov, (t.gov.get g).active = false ∧ (t.gov.get g).since = false) ∧
  (∀ w : Wheel, (t.grip.get w).lastSpeed = none ∧ (t.grip.get w).slips = 0 ∧
    (t.grip.get w).dwell = 0 ∧ (t.grip.get w).misses = 0 ∧ (t.grip.get w).sum = 0 ∧
    (t.grip.get w).best = t.param .wheelRated ∧ (t.grip.get w).fbest = 0 ∧
    (t.grip.get w).reprobe = 0 ∧ (t.grip.get w).lastSlip = 0)

/-- What a COLD restart leaves besides (R25, R37, R51, R70, R96, R109, R137, R155, R169, R181, R187,
R190), with the straps sampled. -/
def AfterCold (straps : Straps) (t : State) : Prop :=
  (∀ i : Fin 39, t.table[i.val] = ⟨1, none⟩) ∧ (∀ g : Gov, (t.gov.get g).value = 0) ∧
  (t.env.applied = 640 ∧ ∀ (w : Wheel) (k : Kind),
    (t.env.wheel w).get k = ⟨t.param k.default, none⟩) ∧
  t.params.toList =
    [640, 700, 750, 750, 1700, 380, 150, 5, 150, 20, 600, 1950, 31500, 400, 250, 400, 20, 40, 8, 15,
     100, 80, 80, 50, 2, 100, 4000, 1400, 7000, 1000, 9, 20, 100, 2400, 6400, 2150, 2350, 20, 30,
     1300, 900, 150, 1800, 3300, 450, 2] ∧
  t.segs = ⟨[], none, .along⟩ ∧ t.straps = straps ∧
  (t.speed.v = 0 ∧ t.speed.lock = false ∧ t.speed.sourceFail = false ∧ t.speed.rpm = ⟨0, 0⟩) ∧
  (∀ w : Wheel, (t.wheel w).link = .silent ∧ (t.wheel w).silence = 5 ∧
    (t.wheel w).mode = .mutedSilent ∧ (t.grip.get w).state = .free ∧ (t.grip.get w).ceiling = 750) ∧
  (t.retard.pcap = 0 ∧ t.retard.preq = 0 ∧ t.retard.mass = 6400 ∧ t.retard.slope = 0 ∧
    t.retard.vraw = 0 ∧ t.retard.vm = 0 ∧ t.retard.grade = none ∧ t.retard.volts = 0 ∧
    t.retard.assist = 1000 ∧ t.retard.causes = ⟨false, true, false, false, false⟩ ∧ ∀ n : GridNo,
      (t.retard.grids.get n).state = (if n.num ≤ straps.gridFit.num then .ready else .off) ∧
      (t.retard.grids.get n).theta = (if n.num ≤ straps.gridFit.num then 4000 else 0) ∧
      (t.retard.grids.get n).faults = 0 ∧
      (n.num ≤ straps.gridFit.num → (t.retard.grids.get n).running = true)) ∧
  t.steer.curve.toList =
    [⟨0, 380⟩, ⟨50, 380⟩, ⟨100, 300⟩, ⟨150, 220⟩, ⟨200, 160⟩, ⟨300, 100⟩, ⟨400, 70⟩, ⟨640, 40⟩] ∧
  (t.load.state = .invalid ∧ t.load.value = 0 ∧ t.load.cls = .none ∧ t.load.tare = 1900 ∧
    t.load.strutFault = false ∧ t.load.heat = ⟨6000, 6000⟩ ∧ t.load.struts = ⟨0, 0, 0, 0⟩) ∧
  (t.drive.mode = .manned ∧ t.drive.hold = .empty ∧ t.drive.trip = none ∧ t.drive.later = .empty ∧
    t.drive.tripMark = false) ∧
  (∀ l : Link, (t.port l).mask = 0x1FF#9)

/-- What a WARM restart keeps or works out besides (R26, R38, R51, R70, R92, R96, R137, R155, R169,
R181, R187). -/
def AfterWarm (s t : State) : Prop :=
  (∀ i : Fin 39,
    (∀ r, s.table[i.val].record = some r → r.lease.isSome = true →
      t.table[i.val] = ⟨nextGen s.table[i.val].gen, none⟩) ∧
    (∀ r, s.table[i.val].record = some r → r.lease = none →
      t.table[i.val] = ⟨s.table[i.val].gen,
        some { r with active := activeIn s.segs.current r.segment }⟩) ∧
    (s.table[i.val].record = none → t.table[i.val] = s.table[i.val])) ∧
  (∀ g : Gov, (t.gov.get g).value = (s.gov.get g).value) ∧
  (t.env.left = resolveWheel t .left ∧ t.env.right = resolveWheel t .right ∧
    t.env.applied = t.env.left.speedMax.value) ∧
  t.params = s.params ∧ t.segs = s.segs ∧ t.straps = s.straps ∧
  (t.speed.v = s.speed.v ∧ t.speed.lock = s.speed.lock ∧ t.speed.sourceFail = s.speed.sourceFail ∧
    t.speed.rpm = s.speed.rpm) ∧
  (∀ w : Wheel, (t.wheel w).link = (s.wheel w).link ∧ (t.wheel w).silence = (s.wheel w).silence ∧
    (t.wheel w).mode = (if (s.wheel w).link = .up then .governed else (s.wheel w).mode)) ∧
  t.steer.curve = s.steer.curve ∧
  (t.retard.pcap = s.retard.pcap ∧ t.retard.preq = s.retard.preq ∧
    t.retard.mass = s.retard.mass ∧ t.retard.slope = s.retard.slope ∧
    t.retard.vraw = s.retard.vraw ∧ t.retard.vm = s.retard.vm ∧ t.retard.grade = s.retard.grade ∧
    t.retard.volts = s.retard.volts ∧
    ∀ n : GridNo, (t.retard.grids.get n).state = (s.retard.grids.get n).state ∧
      (t.retard.grids.get n).theta = (s.retard.grids.get n).theta ∧
      (t.retard.grids.get n).running = (s.retard.grids.get n).running ∧
      ((s.retard.grids.get n).state = .ready → (t.retard.grids.get n).faults = 0) ∧
      ((s.retard.grids.get n).state = .fault → (t.retard.grids.get n).faults = 5)) ∧
  (t.retard.assist = (if s.speed.v < 5 then 1000 else 0) ∧
    t.retard.causes = ⟨false, decide (s.speed.v < 5), false, false, false⟩) ∧
  (t.load.state = s.load.state ∧ t.load.value = s.load.value ∧ t.load.cls = s.load.cls ∧
    t.load.tare = s.load.tare ∧ t.load.strutFault = s.load.strutFault ∧
    t.load.heat = s.load.heat ∧ t.load.struts = s.load.struts) ∧
  (t.drive.mode = s.drive.mode ∧ t.drive.trip = s.drive.trip ∧ t.drive.later = s.drive.later ∧
    t.drive.hold = { HoldSet.empty with safetyHold := s.drive.hold.safetyHold } ∧
    (t.drive.tripMark = true ↔
      (s.drive.state = .tripped ∨ (s.drive.state = .starting ∧ s.drive.tripMark = true)))) ∧
  (∀ w : Wheel,
    ((∀ g, currentSegment s = some g → g.cls = .dry) →
      (t.grip.get w).state = .free ∧ (t.grip.get w).ceiling = s.param .wheelRated) ∧
    (∀ g f, currentSegment s = some g →
      (g.cls = .wet ∧ f = 600 ∨ g.cls = .mud ∧ f = 450 ∨ g.cls = .ice ∧ f = 300) →
      (t.grip.get w).state = .settled ∧
        (t.grip.get w).ceiling = s.param .wheelRated * f / 1000)) ∧
  (∀ l : Link, (t.port l).mask = (s.port l).mask)

/-! ### How statements speak of answers and of resolutions -/

/-- An exchange has ended on a link: the answer formed before it has been given out and this one stands
for the next exchange (R184). -/
def State.exchanged (s : State) (l : Link) (a : Answer) : State :=
  s.setPort l { s.port l with given := (s.port l).answer, answer := a }

/-- The DONE answer of a request with these fields in its body (R184, R186). -/
def doneAnswer (h : Hdr) (code : Byte) (fields : List Byte) : Answer :=
  ⟨code, h.tag, .done, padBody fields⟩

/-- The answer of a refused request: a body of zeros (R185). -/
def refusal (h : Hdr) (code : Byte) (o : ReplyCode) : Answer :=
  ⟨code, h.tag, o, [0, 0, 0, 0, 0, 0, 0, 0]⟩

/-- The envelope is the resolution of the table as it stands, and A has been kept against it from the
value it had before (R29 to R32). -/
def ResolvedFrom (before : Nat) (u : State) : Prop :=
  u.env.left = resolveWheel u .left ∧ u.env.right = resolveWheel u .right ∧
    u.env.applied =
      (if before ≤ u.env.left.speedMax.value ∨
          immediateBinding u u.env.left.speedMax.handle = true
        then u.env.left.speedMax.value else before)

/-- A wheel's record after the preset of a class, from R107's table. -/
def AfterPreset (rated : Nat) (c : AdhesionClass) (g g' : Grip) : Prop :=
  (c = .dry → g' = g) ∧
  ∀ f : Nat, (c = .wet ∧ f = 600 ∨ c = .mud ∧ f = 450 ∨ c = .ice ∧ f = 300) →
    g' = { g with
      ceiling := min g.ceiling (rated * f / 1000), state := .settled, reprobe := 0 }

/-- READ_STATUS of this page and item answers DONE with these fields, and changes nothing else (R189). -/
def StatusShows (h : Hdr) (s : State) (page item : Byte) (fields : List Byte) : Prop :=
  exec (.readStatus h page item) s = .next (s.exchanged h.link (doneAnswer h 0x60 fields))

/-- A cause is pending on both links (R187). -/
def PendingOnBoth (c : Attention) (t : State) : Prop :=
  ∀ l : Link, (t.port l).pending &&& c.bit = c.bit

/-- The command is a cold restart in this state: a power-up, or a RESTART COLD from SAFETY (R181). -/
def ColdRestartBy (i : Instr) : Prop :=
  (∃ straps b, i = .powerUp straps b) ∨
    (∃ (h : Hdr) (kind : Byte), i = .restart h kind ∧ kind = 0 ∧ authorityOf h = some .safety)

/-- The command is a restart of either kind in this state (R181). -/
def RestartBy (s : State) (i : Instr) : Prop :=
  ColdRestartBy i ∨ (∃ (h : Hdr) (kind : Byte), i = .restart h kind ∧ kind = 1 ∧ authorityOf h ≠ none) ∨
    (i = .restartInput true ∧ s.pins.restart = false)

end Sys2Proof.Machine
end

