-- ==== Sys2Proof/WellFormed.lean ====
section
/-! DEFINITION. Which commands are well formed: what a command's own name and the ranges of the truck
inputs ask of its operands. Everything a request frame can spell is well formed (its checks are the
part's own work); an event that its operands contradict is not. -/

namespace Sys2Proof

/-- The ranges of a capacity step's readings: 0..4000 kW for each grid (R111), 0..4000 V (R112). -/
def CapacityIn.inRange (i : CapacityIn) : Bool :=
  (i.grids.map (fun g => decide (g.power ≤ 4000))).all && decide (i.volts ≤ 4000)

/-- A strut reading fits the two bytes that status page 5 item 2 shows it in (R191). -/
def strutsInRange (p : Four Nat) : Bool := (p.map (fun x => decide (x < 65536))).all

/-- A command whose operands can occur: a FRAME_ERROR's bytes fail the frame test (R183), an
UNKNOWN_REQUEST's code is not in the table (R185), readings lie in their inputs' ranges. -/
def Instr.wellFormed : Instr → Bool
  | .frameError _ bytes => !frameOk bytes
  | .unknownRequest _ code => !knownCodes.contains code
  | .capacityStep i => i.inRange
  | .gridFault _ i => i.inRange
  | .linkVoltageClear i => i.inRange
  | .loadWindow p => strutsInRange p
  | .latchEnd p => strutsInRange p
  | _ => true

/-- The command is an exchange on a link. -/
def Instr.isExchange (i : Instr) : Bool := (encodeExchange i).isSome

end Sys2Proof
end

