-- ==== Sys2Proof/Certificates/Slice0/Obligations.lean ====
section
/-! DEFINITION. The statements for the provers: one definition of type Prop each, in the order of
OBLIGATIONS.json. -/

open Sys2Proof Sys2Proof.Machine

/-! ### The block as a whole -/

/-- The front command of the queue is run on the state with the queue's rest. -/
def Obligations.StepRunsTheFrontCommand : Prop :=
  ∀ (c : Instr) (rest : List Instr) (s : State), s.pending = c :: rest →
    step s = exec c { s with pending := rest }

/-- With nothing waiting a millisecond of the release timer goes by, and its end is RELEASE_TIMEOUT. The
model's choice: log entry 2. -/
def Obligations.StepWithNothingWaiting : Prop :=
  ∀ s : State, s.pending = [] →
    (s.drive.timer = none → step s = .next s) ∧
    (∀ n, s.drive.timer = some n → 1 < n →
      step s = .next { s with drive := { s.drive with timer := some (n - 1) } }) ∧
    (∀ n, s.drive.timer = some n → n ≤ 1 → step s = exec .releaseTimeout s)

/-! ### Exchanges (R183 to R186, R191) -/

/-- Every exchange is read back from the bytes that spell it, with every operand. The widths of a page, an
item and a quality (log entry 6), and that an attention set has its low byte first (log entry 46), are the
model's choices. -/
def Obligations.ExchangesRoundTrip : Prop :=
  ∀ (i : Instr) (l : Link) (bytes : List Byte), i.wellFormed = true →
    encodeExchange i = some (l, bytes) → decodeExchange l bytes = i

/-- Frames written out byte by byte from R191, with the CRC of R183, decode to their requests; answers are
laid out in the frames written out here, with the outcomes' values in R191's order (R184, R191). -/
def Obligations.FramesDecode : Prop :=
  decodeExchange .operations [0x10, 0x05, 0x01, 0x00, 0x00, 0xB4, 0x00, 0x15, 0x2C, 0x01, 0x00, 0xEA] =
    .placeLimit ⟨.operations, 0x05, 0x01⟩ 0x00 0x00 180 21 300 0 ∧
  decodeExchange .safety [0x45, 0x09, 0x00, 0, 0, 0, 0, 0, 0, 0, 0, 0x54] = .trip ⟨.safety, 0x09, 0⟩ ∧
  decodeExchange .operations [0x40, 0x01, 0x00, 0xD4, 0xFE, 0x96, 0x00, 0x01, 0, 0, 0, 0x6F] =
    .setDemand ⟨.operations, 0x01, 0x00⟩ (-300) 150 1 ∧
  decodeExchange .operations [0x99, 0x02, 0x00, 0, 0, 0, 0, 0, 0, 0, 0, 0xAE] =
    .unknownRequest ⟨.operations, 0x02, 0⟩ 0x99 ∧
  (State.reset.port .operations).bytesReady = [0x00, 0x00, 0x00, 0, 0, 0, 0, 0, 0, 0, 0, 0xC3] ∧
  Answer.frame ⟨0x10, 0x03, .frameError, [0, 0, 0, 0, 0, 0, 0, 0]⟩ =
    [0x10, 0x03, 0x02, 0, 0, 0, 0, 0, 0, 0, 0, 0x7E] ∧
  Answer.frame ⟨0x10, 0x05, .exists, [7, 1, 0, 0, 0, 0, 0, 0]⟩ =
    [0x10, 0x05, 0x0B, 7, 1, 0, 0, 0, 0, 0, 0, 0x17] ∧
  [ReplyCode.none, .done, .frameError, .unknown, .authority, .state, .busy, .moving, .badValue,
    .badScope, .noSegment, .exists, .full, .stale, .notOwner, .guarded, .noLease, .notFound, .inUse,
    .bound, .locked, .notReady].map ReplyCode.value = List.range 22

/-- A request that is refused changes nothing but its link's answer buffer; so do an exchange that fails
the frame test and an unknown code (R183, R185). -/
def Obligations.RefusedRequestChangesNothing : Prop :=
  ∀ (i : Instr) (l : Link) (bytes : List Byte) (s t : State), i.wellFormed = true →
    encodeExchange i = some (l, bytes) → exec i s = .next t →
    (t.port l).answer.outcome ≠ .done → (t.port l).answer.outcome ≠ .none →
    t = s.setPort l { s.port l with given := (s.port l).answer, answer := (t.port l).answer }

/-- Each exchange gives out the 12 bytes of the answer formed before on its link; the new one echoes the
code and tag clocked in, unless a restart leaves NONE, has eight body bytes, and passes the frame test
with its own CRC (R183, R184, R191). -/
def Obligations.ExchangeGivesThePreviousAnswer : Prop :=
  ∀ (i : Instr) (l : Link) (bytes : List Byte) (s t : State), i.wellFormed = true →
    encodeExchange i = some (l, bytes) → exec i s = .next t →
    (t.port l).given = (s.port l).answer ∧ (t.port l).answer.body.length = 8 ∧
    ((t.port l).answer.outcome ≠ .none →
      (t.port l).answer.code = bytes.getD 0 0 ∧ (t.port l).answer.tag = bytes.getD 1 0) ∧
    (t.port l).bytesGiven = (s.port l).bytesReady ∧ frameOk (t.port l).bytesReady = true ∧
    (t.port l).bytesReady.take 3 =
      [(t.port l).answer.code, (t.port l).answer.tag,
        BitVec.ofNat 8 (t.port l).answer.outcome.value] ∧
    ((t.port l).bytesReady.drop 3).take 8 = (t.port l).answer.body

/-- Check 2 of R185 on the operations link: a claim of SAFETY, GOVERNOR or any other value is refused
AUTHORITY, for every request. FRAME_ERROR and UNKNOWN answers (R183, R185). -/
def Obligations.RefusalsOfTheLink : Prop :=
  (∀ (i : Instr) (bytes : List Byte) (s : State), i.wellFormed = true →
    encodeExchange i = some (.operations, bytes) → frameOk bytes = true →
    knownCodes.contains (bytes.getD 0 0) = true → 2 < (bytes.getD 2 0).toNat →
    ∃ t : State, exec i s = .next t ∧ (t.port .operations).answer.outcome = .authority) ∧
  (∀ (l : Link) (bytes : List Byte) (s : State), frameOk bytes = false →
    exec (.frameError l bytes) s =
      .next (s.setPort l { s.port l with
        given := (s.port l).answer
        answer := ⟨bytes.getD 0 0, bytes.getD 1 0, .frameError, [0, 0, 0, 0, 0, 0, 0, 0]⟩ })) ∧
  (∀ (h : Hdr) (code : Byte) (s : State), knownCodes.contains code = false →
    exec (.unknownRequest h code) s =
      .next (s.setPort h.link { s.port h.link with
        given := (s.port h.link).answer
        answer := ⟨code, h.tag, .unknown, [0, 0, 0, 0, 0, 0, 0, 0]⟩ }))

/-! ### Restarts (R181) -/

/-- A cold restart leaves every block at the values of its restart table; the checks of RESTART. That POWER_UP
carries the level of the brake-released input, and that a governor record holds whether it has been ACTIVE
since the restart, are the model's choices (log entries 30 and 31). -/
def Obligations.ColdRestart : Prop :=
  (∀ (straps : Straps) (b : Bool) (s : State), ∃ t : State, exec (.powerUp straps b) s = .next t ∧
    AfterRestart t ∧ AfterCold straps t ∧ t.drive.brakeReleased = b) ∧
  (∀ (h : Hdr) (s : State), authorityOf h = some .safety →
    ∃ t : State, exec (.restart h 0) s = .next t ∧ AfterRestart t ∧ AfterCold s.pins.straps t) ∧
  (∀ (h : Hdr) (a : Owner) (s : State), authorityOf h = some a → a ≠ .safety →
    exec (.restart h 0) s = .next (s.exchanged h.link (refusal h 0x48 .authority))) ∧
  (∀ (h : Hdr) (kind : Byte) (s : State), authorityOf h ≠ none → 1 < kind.toNat →
    exec (.restart h kind) s = .next (s.exchanged h.link (refusal h 0x48 .badValue)))

/-- A warm restart, by request or by a change of the restart input to its active level; an input held
active, or released, restarts nothing. The model's choices: the input's level is an operand and is recorded
(log entry 29), and a governor record keeps its value and holds whether it has been ACTIVE since (log entry
31). -/
def Obligations.WarmRestart : Prop :=
  (∀ (h : Hdr) (s : State), authorityOf h ≠ none →
    ∃ t : State, exec (.restart h 1) s = .next t ∧ AfterRestart t ∧ AfterWarm s t) ∧
  (∀ s : State, s.pins.restart = false →
    ∃ t : State, exec (.restartInput true) s = .next t ∧ AfterRestart t ∧ AfterWarm s t) ∧
  (∀ (level : Bool) (s : State), level = false ∨ s.pins.restart = true →
    exec (.restartInput level) s = .next { s with pins := { s.pins with restart := level } })

/-- The invariants hold right after reset. The board of reset (log entry 4), and the capacity 0 of its grids
(log entry 19), are the model's choices. -/
def Obligations.InvariantsHoldAtReset : Prop :=
  EnvelopeResolved State.reset ∧ TableInOrder State.reset ∧ SegmentsInOrder State.reset ∧
    TorqueAtRest State.reset ∧ WheelsInOrder State.reset ∧ CeilingsBounded State.reset ∧
    SourceInForce State.reset ∧ DriveInOrder State.reset ∧ ConditionsFollow State.reset ∧
    GridsInOrder State.reset ∧ HoldingsInRange State.reset

/-! ### Requests that read (R19 to R21, R36, R48, R152, R184, R189, R190) -/

/-- LOOKUP_LIMIT on an external record and on a governor record, both halves and every other half number,
and on a handle without a match (R3, R4, R9, R19, R191). A governor record that has not been ACTIVE since
the last restart shows 0, its value kept by a warm restart or not: the model's reading (log entry 31). -/
def Obligations.LookupLimit : Prop :=
  (∀ (h : Hdr) (slot gen : Byte) (i : Fin 39) (r : Rec) (s : State), authorityOf h ≠ none →
    slot.toNat = i.val → s.table[i.val].record = some r → gen.toNat = s.table[i.val].gen →
    exec (.lookupLimit h slot gen 0) s = .next (s.exchanged h.link (doneAnswer h 0x15
      ([slot, gen] ++ u8 (r.owner.code * 32 + r.kind.code * 4 + r.scope.code) ++ u16 r.value ++
        u8 (r.segment.getD 0) ++ u8 ((r.lease.map Lease.remaining).getD 0) ++
        u8 ((r.lease.map Lease.remaining).getD 0 / 256 % 32 + 32 * r.lease.isSome.toNat +
          64 * r.immediate.toNat + 128 * r.active.toNat)))) ∧
    exec (.lookupLimit h slot gen 1) s = .next (s.exchanged h.link (doneAnswer h 0x15
      ([slot, gen] ++ u16 ((r.lease.map Lease.length).getD 0) ++
        u16 ((r.lease.map Lease.remaining).getD 0)))) ∧
    ∀ part : Byte, 1 < part.toNat → exec (.lookupLimit h slot gen part) s =
      .next (s.exchanged h.link (refusal h 0x15 .badValue))) ∧
  (∀ (h : Hdr) (slot : Byte) (g : Gov) (s : State), authorityOf h ≠ none → slot.toNat = g.slot →
    exec (.lookupLimit h slot 0 0) s = .next (s.exchanged h.link (doneAnswer h 0x15
      ([slot, 0] ++ u8 (4 * 32 + g.kind.code * 4 + g.scope.code) ++
        u16 (if (s.gov.get g).active = true ∨ (s.gov.get g).since = true
          then (s.gov.get g).value else 0) ++
        [0, 0] ++ u8 (128 * (s.gov.get g).active.toNat)))) ∧
    exec (.lookupLimit h slot 0 1) s = .next (s.exchanged h.link (doneAnswer h 0x15
      ([slot, 0] ++ u16 0 ++ u16 0))) ∧
    ∀ part : Byte, 1 < part.toNat → exec (.lookupLimit h slot 0 part) s =
      .next (s.exchanged h.link (refusal h 0x15 .badValue))) ∧
  (∀ (h : Hdr) (slot gen part : Byte) (s : State), authorityOf h ≠ none →
    (47 < slot.toNat ∨ (38 < slot.toNat ∧ gen.toNat ≠ 0) ∨
      (∃ i : Fin 39, slot.toNat = i.val ∧
        (s.table[i.val].record = none ∨ gen.toNat ≠ s.table[i.val].gen))) →
    exec (.lookupLimit h slot gen part) s = .next (s.exchanged h.link (refusal h 0x15 .stale)))

/-- FIND_LIMIT answers the record with a key, or NOT_FOUND; GOVERNOR finds the lowest-numbered governor
record of a kind and scope (R20). NEXT_LIMIT answers the lowest occupied slot at or after a number
(R21). That GOVERNOR with the id of a present segment is NOT_FOUND is the model's choice (log entry 47). -/
def Obligations.FindAndNextLimit : Prop :=
  (∀ (h : Hdr) (owner kind scope segment : Byte) (o : Owner) (k : Kind) (sc : Scope) (s : State),
    authorityOf h ≠ none → ownerOfCode owner = some o → kindOfCode kind = some k →
    scopeOfCode scope = some sc → o ≠ .governor →
    (∀ (i : Fin 39) (r : Rec), s.table[i.val].record = some r →
      r.hasKey o k sc (bindingOf segment) = true →
      (∀ (j : Fin 39) (q : Rec), s.table[j.val].record = some q →
        q.hasKey o k sc (bindingOf segment) = true → j = i) →
      exec (.findLimit h owner kind scope segment) s = .next (s.exchanged h.link
        (doneAnswer h 0x16 (u8 i.val ++ u8 s.table[i.val].gen)))) ∧
    ((∀ (i : Fin 39) (r : Rec), s.table[i.val].record = some r →
        r.hasKey o k sc (bindingOf segment) = false) →
      exec (.findLimit h owner kind scope segment) s =
        .next (s.exchanged h.link (refusal h 0x16 .notFound)))) ∧
  (∀ (h : Hdr) (kind scope segment : Byte) (k : Kind) (sc : Scope) (s : State),
    authorityOf h ≠ none → kindOfCode kind = some k → scopeOfCode scope = some sc →
    (∀ g : Gov, g.kind = k → g.scope = sc → segment = 0 →
      (∀ g' : Gov, g'.kind = k → g'.scope = sc → g.slot ≤ g'.slot) →
      exec (.findLimit h 4 kind scope segment) s =
        .next (s.exchanged h.link (doneAnswer h 0x16 (u8 g.slot ++ [0])))) ∧
    ((segment ≠ 0 ∨ ∀ g : Gov, g.kind = k → g.scope ≠ sc) →
      exec (.findLimit h 4 kind scope segment) s =
        .next (s.exchanged h.link (refusal h 0x16 .notFound)))) ∧
  (∀ (h : Hdr) (slot : Byte) (s : State), authorityOf h ≠ none →
    (∀ i : Fin 39, slot.toNat ≤ i.val → s.table[i.val].record.isSome = true →
      (∀ j : Fin 39, slot.toNat ≤ j.val → s.table[j.val].record.isSome = true → i ≤ j) →
      exec (.nextLimit h slot) s =
        .next (s.exchanged h.link (doneAnswer h 0x17 (u8 i.val ++ u8 s.table[i.val].gen)))) ∧
    ((∀ i : Fin 39, slot.toNat ≤ i.val → s.table[i.val].record = none) → slot.toNat ≤ 38 →
      exec (.nextLimit h slot) s =
        .next (s.exchanged h.link (doneAnswer h 0x17 [39, 0]))) ∧
    (39 ≤ slot.toNat → slot.toNat ≤ 47 →
      exec (.nextLimit h slot) s =
        .next (s.exchanged h.link (doneAnswer h 0x17 (u8 slot.toNat ++ [0])))) ∧
    (47 < slot.toNat →
      exec (.nextLimit h slot) s = .next (s.exchanged h.link (refusal h 0x17 .notFound)))) ∧
  (∀ (h : Hdr) (owner kind scope segment : Byte) (s : State), authorityOf h ≠ none →
    (ownerOfCode owner = none ∨ kindOfCode kind = none →
      exec (.findLimit h owner kind scope segment) s =
        .next (s.exchanged h.link (refusal h 0x16 .badValue))) ∧
    (ownerOfCode owner ≠ none → kindOfCode kind ≠ none → scopeOfCode scope = none →
      exec (.findLimit h owner kind scope segment) s =
        .next (s.exchanged h.link (refusal h 0x16 .badScope))))

/-- READ_ENVELOPE (R36), NOP, READ_SEGMENT, READ_STATUS, READ_STEER_POINT and GET_PARAM answer and change
nothing else. The model's choices in READ_STATUS: the restart trip mark in bit 3 of page 0's flags (log
entry 38), no field for the value of the grade speed result (log entry 42) or for a front sensor's own speed
(log entry 43), the low byte of an attention set first (log entry 46), the codes of log entries 7 and 8,
absent values (log entries 11, 40), the kept figures of a FAULT grid (log entry 20), lone flags of 1 and 0
(log entry 41), and page 5 items 4 and 5 as the reports of the operations and of the safety link, whichever
link asks (log entry 12). -/
def Obligations.PlainReadings : Prop :=
  (∀ (h : Hdr) (wheel kind : Byte) (s : State), authorityOf h ≠ none →
    (kindOfCode kind = none → exec (.readEnvelope h wheel kind) s =
      .next (s.exchanged h.link (refusal h 0x18 .badValue))) ∧
    (∀ k, kindOfCode kind = some k → wheelOfCode wheel = none →
      exec (.readEnvelope h wheel kind) s = .next (s.exchanged h.link (refusal h 0x18 .badScope))) ∧
    (∀ k w, kindOfCode kind = some k → wheelOfCode wheel = some w →
      exec (.readEnvelope h wheel kind) s = .next (s.exchanged h.link (doneAnswer h 0x18
        (u16 ((s.env.wheel w).get k).value ++
          u16 (if k = .speedMax then s.env.applied else ((s.env.wheel w).get k).value) ++
          (match ((s.env.wheel w).get k).handle with
            | none => [0xFF, 0xFF]
            | some x => u8 x.slot ++ u8 x.gen) ++
          u16 (s.param k.default)))))) ∧
  (∀ (h : Hdr) (s : State), authorityOf h ≠ none →
    exec (.nop h) s = .next (s.exchanged h.link (doneAnswer h 0x00 []))) ∧
  (∀ (h : Hdr) (id : Byte) (g : Segment) (s : State), authorityOf h ≠ none →
    (if id = 0 then currentSegment s = some g else findSegment s id.toNat = some g) →
    exec (.readSegment h id 0) s = .next (s.exchanged h.link (doneAnswer h 0x25
      (u8 g.id ++ s16 g.grade ++ u8 g.rr ++ u8 g.cls.code ++ u8 (boundCount s g.id) ++
        (if s.segs.current = some g.id then u8 s.segs.heading.code else [0xFF]) ++
        u8 s.segs.records.length)))) ∧
  (∀ (h : Hdr) (id mode : Byte) (s : State), authorityOf h ≠ none →
    (1 < mode.toNat → exec (.readSegment h id mode) s =
      .next (s.exchanged h.link (refusal h 0x25 .badValue))) ∧
    ((if id = 0 then s.segs.current = none else findSegment s id.toNat = none) →
      exec (.readSegment h id 0) s = .next (s.exchanged h.link (refusal h 0x25 .notFound))) ∧
    ((∀ g, g ∈ s.segs.records → g.id < id.toNat) →
      exec (.readSegment h id 1) s = .next (s.exchanged h.link (refusal h 0x25 .notFound))) ∧
    (∀ g, (s.segs.records.map Segment.id).Pairwise (· < ·) → g ∈ s.segs.records →
      id.toNat ≤ g.id → (∀ q, q ∈ s.segs.records → id.toNat ≤ q.id → g.id ≤ q.id) →
      exec (.readSegment h id 1) s = .next (s.exchanged h.link (doneAnswer h 0x25
        (u8 g.id ++ s16 g.grade ++ u8 g.rr ++ u8 g.cls.code ++ u8 (boundCount s g.id) ++
          (if s.segs.current = some g.id then u8 s.segs.heading.code else [0xFF]) ++
          u8 s.segs.records.length))))) ∧
  (∀ (h : Hdr) (s : State), authorityOf h ≠ none →
    StatusShows h s 0 0 (u8 s.drive.state.code ++
      u8 (s.drive.hold.demandLost.toNat + 2 * s.drive.hold.steerFault.toNat +
        4 * s.drive.hold.steerCrit.toNat + 8 * s.drive.hold.wheelLost.toNat +
        16 * s.drive.hold.safetyHold.toNat + 32 * s.drive.hold.startMoving.toNat) ++
      u8 (s.drive.conditions.steerFault.toNat + 2 * s.drive.conditions.steerCrit.toNat) ++
      optU8 (s.drive.trip.map TripCause.code) ++
      u8 (s.drive.later.trip.toNat + 2 * s.drive.later.linkOvervolt.toNat +
        4 * s.drive.later.referenceLost.toNat + 8 * s.drive.later.bothWheelsLost.toNat) ++
      u8 s.drive.mode.code ++ u8 s.drive.outcome.code ++
      u8 (s.drive.brakeApply.toNat + 2 * s.drive.brakeReleased.toNat +
        4 * s.torque.direction.code + 8 * s.drive.tripMark.toNat)) ∧
    StatusShows h s 0 1 (optU16 s.drive.timer ++ u8 s.drive.applyCount ++ optS16 s.torque.demand ++
      optS16 s.torque.steerDemand ++ optU8 s.torque.lease) ∧
    StatusShows h s 1 0 (optU8 (s.speed.current.map sourceCode) ++
      optU8 (s.speed.pending.map sourceCode) ++ u8 s.speed.reference.code ++
      u8 (s.speed.lock.toNat + 2 * s.speed.sourceFail.toNat) ++ u16 s.speed.v ++
      u8 s.speed.windows ++ u8 (srcPrefCode s.straps.srcPref)) ∧
    (∀ (x : Source) (k : Tracker), k = s.speed.trackers.get x →
      StatusShows h s 1 (BitVec.ofNat 8 (1 + sourceCode x)) (u8 k.state.code ++ u8 k.count ++
        u8 k.misses ++ u8 k.passed.toNat ++ u16 k.value ++
        (if x = .sat then optU8 (s.speed.fix.map Fix.quality) ++ u8 s.speed.fresh else []))) ∧
    StatusShows h s 2 0 (u16 s.env.applied ++ u16 s.env.left.speedMax.value ++
      (match s.env.left.speedMax.handle with
        | none => [0xFF, 0xFF]
        | some x => u8 x.slot ++ u8 x.gen) ++ u16 s.torque.vmax) ∧
    StatusShows h s 2 1 (optS16 s.steer.command ++ optS16 s.steer.measured ++ u16 s.steer.alim ++
      u8 s.steer.rateStep ++
      u8 (s.steer.fault.toNat + 2 * s.steer.low.toNat + 4 * s.steer.crit.toNat)) ∧
    StatusShows h s 2 2 (optS16 s.steer.target ++ optU16 s.steer.pressure ++ u8 s.steer.errors ++
      u8 s.steer.recovery ++ optS16 s.steer.freeze) ∧
    StatusShows h s 2 3 (u8 (s.segs.current.getD 0) ++ u8 s.segs.heading.code ++
      optS16 ((currentSegment s).map (fun g =>
        if (s.segs.heading = .along ↔ s.torque.direction = .forward) then g.grade else -g.grade)) ++
      u8 s.segs.records.length) ∧
    (∀ (w : Wheel) (n : Nat), n = (match w with | .left => 0 | .right => 1) →
      StatusShows h s 3 (BitVec.ofNat 8 n) (s16 (s.wheel w).tprev ++ u8 (s.wheel w).mode.code ++
        u8 (s.wheel w).link.code ++ u8 (s.wheel w).silence ++ u8 (s.wheel w).stage.code ++
        u8 (s.wheel w).retardBound.toNat) ∧
      StatusShows h s 3 (BitVec.ofNat 8 (2 + n))
        (u8 ((s.grip.get w).state.code * 16 + (s.grip.get w).misses) ++ u16 (s.grip.get w).ceiling ++
          u16 (s.grip.get w).best ++ s16 (s.grip.get w).lastSlip ++ u8 (s.grip.get w).slips)) ∧
    StatusShows h s 4 0 (u16 s.retard.pcap ++ u16 s.retard.preq ++ u16 s.retard.assist ++
      u8 (s.retard.causes.trip.toNat + 2 * s.retard.causes.standstill.toNat +
        4 * s.retard.causes.retardShort.toNat + 8 * s.retard.causes.gradeShort.toNat +
        16 * s.retard.causes.linkHigh.toNat) ++
      u8 (s.retard.gradeShort.toNat + 2 * s.retard.overvolt.toNat +
        4 * s.retard.grade.isNone.toNat)) ∧
    StatusShows h s 4 1
      (u16 s.retard.mass ++ s16 s.retard.slope ++ u24 s.retard.vraw ++ u8 s.retard.lowCount) ∧
    (s.retard.sweep = .idle →
      StatusShows h s 4 2 (u24 s.retard.vm ++ u16 s.retard.volts ++ [0, 0xFF, 0xFF]) ∧
      StatusShows h s 4 3 [0xFF, 0xFF, 0xFF, 0xFF, 0xFF, 0xFF, 0xFF]) ∧
    (∀ (j : SweepJob) (code next : Nat),
      (∃ table, s.retard.sweep = .running j table ∧ code = 1 ∧ next = table.length) ∨
        (∃ table, s.retard.sweep = .ready j table next ∧ code = 2) →
      StatusShows h s 4 2 (u24 s.retard.vm ++ u16 s.retard.volts ++ u8 code ++ u8 next ++
        u8 (linkCode j.link)) ∧
      StatusShows h s 4 3 (u16 j.pcap ++ u8 j.rr ++ u16 j.margin ++ u16 j.speedRated)) ∧
    (∀ (n : GridNo) (g : Grid), g = s.retard.grids.get n →
      StatusShows h s 4 (BitVec.ofNat 8 (3 + n.num)) (u8 g.state.code ++
        u8 (if g.running then 0 else 1) ++ u16 g.theta ++ u16 g.cap ++
        u16 (if g.state = .fault then g.faultAlloc else g.alloc)) ∧
      StatusShows h s 4 (BitVec.ofNat 8 (7 + n.num)) (u16 g.duty ++
        u16 (if g.state = .fault then g.faultPower else g.power) ++ u8 g.faults)) ∧
    StatusShows h s 5 0 (u8 s.load.state.code ++ u8 s.load.cls.code ++ u16 s.load.value ++
      u16 s.load.tare ++ u8 s.load.samples.length ++ u8 s.load.lowSpeed) ∧
    (∀ inRange : Nat → Nat, (∀ x, inRange x = if 1 ≤ x ∧ x ≤ 3999 then 1 else 0) →
      StatusShows h s 5 1 ((if s.load.samples = [] then [0xFF, 0xFF]
          else u16 (s.load.samples.sum / s.load.samples.length)) ++
        u8 (s.load.strutFault.toNat + 2 * inRange s.load.struts.a1 + 4 * inRange s.load.struts.a2 +
          8 * inRange s.load.struts.a3 + 16 * inRange s.load.struts.a4) ++
        u16 s.load.heat.left ++ u16 s.load.heat.right)) ∧
    StatusShows h s 5 2 (u16 s.load.struts.a1 ++ u16 s.load.struts.a2 ++ u16 s.load.struts.a3 ++
      u16 s.load.struts.a4) ∧
    StatusShows h s 5 3 (u16 (s.port h.link).pending.toNat ++ u16 (s.port h.link).mask.toNat ++
      u8 (if (s.port h.link).pending &&& (s.port h.link).mask = 0 then 0 else 1) ++
      u8 s.straps.gridFit.num ++ u8 (srcPrefCode s.straps.srcPref) ++
      u8 (paramGuardCode s.straps.paramGuard)) ∧
    (∀ l : Link,
      ((s.port l).lastExpiry = none → StatusShows h s 5 (BitVec.ofNat 8 (4 + linkCode l))
        (u8 (s.port l).expiryCount ++ [0xFF, 0xFF, 0xFF, 0xFF])) ∧
      (∀ e, (s.port l).lastExpiry = some e → StatusShows h s 5 (BitVec.ofNat 8 (4 + linkCode l))
        (u8 (s.port l).expiryCount ++ u8 e.handle.slot ++ u8 e.handle.gen ++ u8 e.owner.code ++
          u8 e.kind.code)))) ∧
  (∀ (h : Hdr) (page item : Byte) (s : State), authorityOf h ≠ none →
    (∀ n, [2, 4, 4, 4, 12, 6][page.toNat]? = some n → item.toNat < n →
      ∃ fields, statusItem s h.link page.toNat item.toNat = some fields ∧ fields.length ≤ 8 ∧
        exec (.readStatus h page item) s =
          .next (s.exchanged h.link (doneAnswer h 0x60 fields))) ∧
    ((∀ n, [2, 4, 4, 4, 12, 6][page.toNat]? = some n → n ≤ item.toNat) →
      exec (.readStatus h page item) s =
        .next (s.exchanged h.link (refusal h 0x60 .badValue)))) ∧
  (∀ (h : Hdr) (k : Fin 8) (s : State), authorityOf h ≠ none →
    exec (.readSteerPoint h (BitVec.ofNat 8 k.val)) s = .next (s.exchanged h.link
      (doneAnswer h 0x59 (u8 k.val ++ u16 (s.steer.curve.get k).speed ++
        u16 (s.steer.curve.get k).angle ++ u16 (curveAt s.steer.curve s.speed.v))))) ∧
  (∀ (h : Hdr) (k index : Byte) (s : State), authorityOf h ≠ none →
    (7 < k.toNat → exec (.readSteerPoint h k) s =
      .next (s.exchanged h.link (refusal h 0x59 .badValue))) ∧
    (45 < index.toNat → exec (.getParam h index) s =
      .next (s.exchanged h.link (refusal h 0x64 .badValue)))) ∧
  (∀ (h : Hdr) (index : Byte) (p : Param) (s : State), authorityOf h ≠ none →
    p.index.val = index.toNat →
    exec (.getParam h index) s = .next (s.exchanged h.link
      (doneAnswer h 0x64 (u8 index.toNat ++ u16 (s.param p) ++ u16 p.range.1 ++ u16 p.range.2))))

/-! ### Attention and parameters (R187, R188, R190) -/

/-- CLEAR_ATTENTION and SET_ATTENTION_MASK act on their own link alone, and refuse a set with any of bits 9
to 15 (R188). That a set's low byte comes first in the answers is the model's choice (log entry 46). -/
def Obligations.AttentionRequests : Prop :=
  ∀ (h : Hdr) (causes : Half) (s : State), authorityOf h ≠ none →
    (causes.toNat < 512 → ∃ p q : BitVec 9,
      p = (s.port h.link).pending &&& ~~~(causes.setWidth 9) ∧ q = causes.setWidth 9 ∧
      exec (.clearAttention h causes) s =
        .next ((s.setPort h.link { s.port h.link with pending := p }).exchanged h.link
          (doneAnswer h 0x61 (u16 p.toNat ++ u16 (s.port h.link).mask.toNat))) ∧
      exec (.setAttentionMask h causes) s =
        .next ((s.setPort h.link { s.port h.link with mask := q }).exchanged h.link
          (doneAnswer h 0x62 (u16 q.toNat ++ u16 (s.port h.link).pending.toNat)))) ∧
    (512 ≤ causes.toNat →
      exec (.clearAttention h causes) s =
        .next (s.exchanged h.link (refusal h 0x61 .badValue)) ∧
      exec (.setAttentionMask h causes) s =
        .next (s.exchanged h.link (refusal h 0x62 .badValue)))

/-- SET_PARAM in PARKED, with what a change brings at its event: the resolution of R28, the reclamp of
R98, the emptied sample list of R167 (R190); and its refusals in their order. -/
def Obligations.SetParam : Prop :=
  (∀ (h : Hdr) (index : Byte) (value : Half) (a : Owner) (p : Param) (s : State),
    authorityOf h = some a → (s.straps.paramGuard = .opened ∨ a = .safety) →
    p.index.val = index.toNat → s.drive.state = .parked → p.range.1 ≤ value.toNat →
    value.toNat ≤ p.range.2 →
    ∃ u : State, exec (.setParam h index value) s = .next (u.exchanged h.link
        (doneAnswer h 0x63 (u8 index.toNat ++ u16 (s.param p) ++ u16 value.toNat))) ∧
      u.param p = value.toNat ∧ (∀ q, q ≠ p → u.param q = s.param q) ∧
      u = { s with params := u.params, env := u.env, grip := u.grip, load := u.load } ∧
      (s.param p = value.toNat → u = s) ∧
      (s.param p ≠ value.toNat → ((∃ k : Kind, k.default = p) → ResolvedFrom s.env.applied u) ∧
        (p = .wheelRated → ∀ w : Wheel,
          u.grip.get w =
            if (s.grip.get w).state = .free then { s.grip.get w with ceiling := value.toNat }
            else { s.grip.get w with
              ceiling := clampNat (s.grip.get w).ceiling (value.toNat * 100 / 1000) value.toNat
              best := clampNat (s.grip.get w).best (value.toNat * 100 / 1000) value.toNat }) ∧
        (p = .strutArea → u.load = { s.load with samples := [] })) ∧
      ((∀ k : Kind, k.default ≠ p) → u.env = s.env) ∧ (p ≠ .wheelRated → u.grip = s.grip) ∧
      (p ≠ .strutArea → u.load = s.load)) ∧
  (∀ (h : Hdr) (index : Byte) (value : Half) (s : State),
    (authorityOf h = none ∨ (s.straps.paramGuard = .tied ∧ authorityOf h ≠ some .safety) →
      exec (.setParam h index value) s =
        .next (s.exchanged h.link (refusal h 0x63 .authority))) ∧
    (authorityOf h ≠ none → (s.straps.paramGuard = .opened ∨ authorityOf h = some .safety) →
      (45 < index.toNat → exec (.setParam h index value) s =
        .next (s.exchanged h.link (refusal h 0x63 .badValue))) ∧
      (index.toNat ≤ 45 → s.drive.state ≠ .parked → exec (.setParam h index value) s =
        .next (s.exchanged h.link (refusal h 0x63 .state))) ∧
      (∀ p : Param, p.index.val = index.toNat → s.drive.state = .parked →
        (value.toNat < p.range.1 ∨ p.range.2 < value.toNat) →
        exec (.setParam h index value) s =
          .next (s.exchanged h.link (refusal h 0x63 .badValue)))))

/-! ### The Limit Table (Chapter 1) -/

/-- A PLACE_LIMIT that passes R13's checks takes the lowest FREE slot (R14), and is resolved (R10,
R31); the same key again is EXISTS with the record's handle. Every other refusal, in R13's order. -/
def Obligations.PlaceLimit : Prop :=
  (∀ (h : Hdr) (kind scope : Byte) (value : Half) (segment : Byte) (lease : Half) (immediate : Byte)
    (a : Owner) (k : Kind) (sc : Scope) (s : State),
    authorityOf h = some a → kindOfCode kind = some k → scopeOfCode scope = some sc →
    (sc = .both ∨ k.perWheel = true) → k.inRange value.toNat = true → lease.toNat ≤ 6000 →
    (immediate = 0 ∨ a = .safety) → (segment = 0 ∨ (findSegment s segment.toNat).isSome = true) →
    (∀ i : Fin 39, s.table[i.val].record = none →
      (∀ j : Fin 39, j < i → s.table[j.val].record.isSome = true) →
      (∀ (j : Fin 39) (q : Rec), s.table[j.val].record = some q →
        q.hasKey a k sc (bindingOf segment) = false) →
      ∃ u : State, exec (.placeLimit h kind scope value segment lease immediate) s =
          .next (u.exchanged h.link
            (doneAnswer h 0x10 (u8 i.val ++ u8 s.table[i.val].gen))) ∧
        u.table[i.val] = ⟨s.table[i.val].gen, some
          { owner := a, kind := k, scope := sc, value := value.toNat
            segment := if segment = 0 then none else some segment.toNat
            lease := if lease = 0 then none else some ⟨lease.toNat, lease.toNat⟩
            immediate := decide (immediate ≠ 0)
            active := decide (segment = 0 ∨ s.segs.current = some segment.toNat) }⟩ ∧
        (∀ j : Fin 39, j ≠ i → u.table[j.val] = s.table[j.val]) ∧
        ResolvedFrom s.env.applied u ∧ u = { s with table := u.table, env := u.env }) ∧
    (∀ (i : Fin 39) (r : Rec), s.table[i.val].record = some r →
      r.hasKey a k sc (bindingOf segment) = true →
      (∀ (j : Fin 39) (q : Rec), s.table[j.val].record = some q →
        q.hasKey a k sc (bindingOf segment) = true → j = i) →
      exec (.placeLimit h kind scope value segment lease immediate) s =
        .next (s.exchanged h.link ⟨0x10, h.tag, .exists,
          padBody (u8 i.val ++ u8 s.table[i.val].gen)⟩)) ∧
    ((∀ i : Fin 39, s.table[i.val].record.isSome = true) →
      (∀ (j : Fin 39) (q : Rec), s.table[j.val].record = some q →
        q.hasKey a k sc (bindingOf segment) = false) →
      exec (.placeLimit h kind scope value segment lease immediate) s =
        .next (s.exchanged h.link (refusal h 0x10 .full)))) ∧
  (∀ (h : Hdr) (kind scope : Byte) (value : Half) (segment : Byte) (lease : Half) (immediate : Byte)
    (a : Owner) (s : State) (refused : ReplyCode → Prop), authorityOf h = some a →
    (∀ o, refused o ↔ exec (.placeLimit h kind scope value segment lease immediate) s =
      .next (s.exchanged h.link (refusal h 0x10 o))) →
    (immediate ≠ 0 → a ≠ .safety → refused .authority) ∧
    (immediate = 0 ∨ a = .safety →
      (scopeOfCode scope = none → refused .badScope) ∧
      (∀ sc, scopeOfCode scope = some sc →
        (sc ≠ .both → (∀ k, kindOfCode kind = some k → k.perWheel = false) → refused .badScope) ∧
        (sc = .both → kindOfCode kind = none → refused .badValue) ∧
        (∀ k, kindOfCode kind = some k → (sc = .both ∨ k.perWheel = true) →
          (k.inRange value.toNat = false ∨ 6000 < lease.toNat → refused .badValue) ∧
          (k.inRange value.toNat = true → lease.toNat ≤ 6000 → segment ≠ 0 →
            findSegment s segment.toNat = none → refused .noSegment)))))

/-- AMEND_LIMIT and RENEW_LIMIT by the owner (R15, R16): the value, the lease by the action, and a
resolution exactly when the value differs; SAFETY and every other authority are refused NOT_OWNER. Every
other refusal, in the order of their tables. -/
def Obligations.AmendAndRenewLimit : Prop :=
  (∀ (h : Hdr) (slot gen : Byte) (a : Owner) (i : Fin 39) (r : Rec) (s : State),
    authorityOf h = some a → slot.toNat = i.val → gen.toNat = s.table[i.val].gen →
    s.table[i.val].record = some r →
    (∀ (value : Half) (action : Byte) (length : Half) (act : LeaseAction), a = r.owner →
      r.kind.inRange value.toNat = true → leaseActionOfCode action = some act →
      (act = .new → 1 ≤ length.toNat ∧ length.toNat ≤ 6000) →
      ∃ u : State, exec (.amendLimit h slot gen value action length) s =
          .next (u.exchanged h.link (doneAnswer h 0x11 [slot, gen])) ∧
        u.table[i.val] = ⟨s.table[i.val].gen, some
          { r with
            value := value.toNat
            lease :=
              match act with
              | .keep => r.lease.map (fun l => ⟨l.length, l.length⟩)
              | .clear => none
              | .new => some ⟨length.toNat, length.toNat⟩ }⟩ ∧
        (∀ j : Fin 39, j ≠ i → u.table[j.val] = s.table[j.val]) ∧
        (value.toNat = r.value → u.env = s.env) ∧
        (value.toNat ≠ r.value → ResolvedFrom s.env.applied u) ∧
        u = { s with table := u.table, env := u.env }) ∧
    (∀ l : Lease, a = r.owner → r.lease = some l →
      ∃ u : State, exec (.renewLimit h slot gen) s =
          .next (u.exchanged h.link (doneAnswer h 0x12 ([slot, gen] ++ u16 l.length))) ∧
        u.table[i.val] = ⟨s.table[i.val].gen, some { r with lease := some ⟨l.length, l.length⟩ }⟩ ∧
        (∀ j : Fin 39, j ≠ i → u.table[j.val] = s.table[j.val]) ∧
        u = { s with table := u.table }) ∧
    (a ≠ r.owner → ∀ (value : Half) (action : Byte) (length : Half),
      exec (.amendLimit h slot gen value action length) s =
        .next (s.exchanged h.link (refusal h 0x11 .notOwner)) ∧
      exec (.renewLimit h slot gen) s = .next (s.exchanged h.link (refusal h 0x12 .notOwner))) ∧
    (a = r.owner → ∀ (value : Half) (action : Byte) (length : Half),
      (r.kind.inRange value.toNat = false ∨ leaseActionOfCode action = none ∨
        (leaseActionOfCode action = some .new ∧ (length = 0 ∨ 6000 < length.toNat))) →
      exec (.amendLimit h slot gen value action length) s =
        .next (s.exchanged h.link (refusal h 0x11 .badValue))) ∧
    (a = r.owner → r.lease = none → exec (.renewLimit h slot gen) s =
      .next (s.exchanged h.link (refusal h 0x12 .noLease)))) ∧
  (∀ (h : Hdr) (slot gen : Byte) (value : Half) (action : Byte) (length : Half) (s : State),
    authorityOf h ≠ none →
    ((47 < slot.toNat ∨ (38 < slot.toNat ∧ gen.toNat ≠ 0) ∨
        (∃ i : Fin 39, slot.toNat = i.val ∧
          (s.table[i.val].record = none ∨ gen.toNat ≠ s.table[i.val].gen))) →
      exec (.amendLimit h slot gen value action length) s =
        .next (s.exchanged h.link (refusal h 0x11 .stale)) ∧
      exec (.renewLimit h slot gen) s = .next (s.exchanged h.link (refusal h 0x12 .stale))) ∧
    ((∃ g : Gov, slot.toNat = g.slot ∧ gen = 0) →
      exec (.amendLimit h slot gen value action length) s =
        .next (s.exchanged h.link (refusal h 0x11 .guarded)) ∧
      exec (.renewLimit h slot gen) s = .next (s.exchanged h.link (refusal h 0x12 .guarded))))

/-- RETIRE_LIMIT by the owner or SAFETY (R17), and RETIRE_OWNER (R18), with every refusal of their
checks. -/
def Obligations.RetireLimitAndOwner : Prop :=
  (∀ (h : Hdr) (slot gen : Byte) (a : Owner) (i : Fin 39) (r : Rec) (s : State),
    authorityOf h = some a → slot.toNat = i.val → gen.toNat = s.table[i.val].gen →
    s.table[i.val].record = some r →
    (a = r.owner ∨ a = .safety →
      ∃ u : State, exec (.retireLimit h slot gen) s =
          .next (u.exchanged h.link (doneAnswer h 0x13 [slot, gen])) ∧
        u.table[i.val] =
          ⟨if 255 ≤ s.table[i.val].gen then 1 else s.table[i.val].gen + 1, none⟩ ∧
        (∀ j : Fin 39, j ≠ i → u.table[j.val] = s.table[j.val]) ∧
        ResolvedFrom s.env.applied u ∧ u = { s with table := u.table, env := u.env }) ∧
    (a ≠ r.owner → a ≠ .safety → exec (.retireLimit h slot gen) s =
      .next (s.exchanged h.link (refusal h 0x13 .notOwner)))) ∧
  (∀ (h : Hdr) (owner : Byte) (a o : Owner) (s : State), authorityOf h = some a →
    ownerOfCode owner = some o → o ≠ .governor → (a = o ∨ a = .safety) →
    ∃ u : State, exec (.retireOwner h owner) s = .next (u.exchanged h.link (doneAnswer h 0x14
        (u8 (s.table.toList.countP (fun x => x.record.any (fun r => r.owner == o)))))) ∧
      (∀ (i : Fin 39) (r : Rec), s.table[i.val].record = some r → r.owner = o →
        u.table[i.val] =
          ⟨if 255 ≤ s.table[i.val].gen then 1 else s.table[i.val].gen + 1, none⟩) ∧
      (∀ i : Fin 39, (∀ r, s.table[i.val].record = some r → r.owner ≠ o) →
        u.table[i.val] = s.table[i.val]) ∧
      ((∀ (i : Fin 39) (r : Rec), s.table[i.val].record = some r → r.owner ≠ o) → u = s) ∧
      ((∃ (i : Fin 39) (r : Rec), s.table[i.val].record = some r ∧ r.owner = o) →
        ResolvedFrom s.env.applied u) ∧
      u = { s with table := u.table, env := u.env }) ∧
  (∀ (h : Hdr) (slot gen : Byte) (s : State), authorityOf h ≠ none →
    ((47 < slot.toNat ∨ (38 < slot.toNat ∧ gen.toNat ≠ 0) ∨
        (∃ i : Fin 39, slot.toNat = i.val ∧
          (s.table[i.val].record = none ∨ gen.toNat ≠ s.table[i.val].gen))) →
      exec (.retireLimit h slot gen) s = .next (s.exchanged h.link (refusal h 0x13 .stale))) ∧
    ((∃ g : Gov, slot.toNat = g.slot ∧ gen = 0) →
      exec (.retireLimit h slot gen) s = .next (s.exchanged h.link (refusal h 0x13 .guarded)))) ∧
  (∀ (h : Hdr) (owner : Byte) (a : Owner) (s : State), authorityOf h = some a →
    (ownerOfCode owner = none → exec (.retireOwner h owner) s =
      .next (s.exchanged h.link (refusal h 0x14 .badValue))) ∧
    (ownerOfCode owner = some .governor → exec (.retireOwner h owner) s =
      .next (s.exchanged h.link (refusal h 0x14 .guarded))) ∧
    (∀ o, ownerOfCode owner = some o → o ≠ .governor → a ≠ o → a ≠ .safety →
      exec (.retireOwner h owner) s =
        .next (s.exchanged h.link (refusal h 0x14 .notOwner))))

/-- The lease step: each leased record loses 1, and at 0 is retired, reported on its owner's link and
handed on (R11, R12). That EXPIRY is such a step whole, and nothing where no record ends, is the model's
choice (log entry 1). -/
def Obligations.LeaseStepAndExpiry : Prop :=
  ∀ s : State, ∃ t : State, exec .leaseStep s = .next t ∧
    (∀ (i : Fin 39) (r : Rec) (l : Lease), s.table[i.val].record = some r → r.lease = some l →
      (1 < l.remaining → t.table[i.val] = ⟨s.table[i.val].gen,
        some { r with lease := some ⟨l.length, l.remaining - 1⟩ }⟩) ∧
      (l.remaining ≤ 1 →
        t.table[i.val] = ⟨if 255 ≤ s.table[i.val].gen then 1 else s.table[i.val].gen + 1, none⟩ ∧
        (t.port (ownerLink r.owner)).pending &&& Attention.recordExpired.bit =
          Attention.recordExpired.bit ∧
        exec .expiry s = .next t ∧ ResolvedFrom s.env.applied t ∧
        ((∀ (j : Fin 39) (q : Rec) (m : Lease), i < j → s.table[j.val].record = some q →
            q.lease = some m → 1 < m.remaining ∨ ownerLink q.owner ≠ ownerLink r.owner) →
          (t.port (ownerLink r.owner)).lastExpiry =
            some ⟨⟨i.val, s.table[i.val].gen⟩, r.owner, r.kind⟩))) ∧
    (∀ i : Fin 39, (∀ r, s.table[i.val].record = some r → r.lease = none) →
      t.table[i.val] = s.table[i.val]) ∧
    (∀ (l : Link) (n : Nat), n = s.table.toList.countP (fun x => x.record.any (fun r =>
        r.lease.any (fun m => decide (m.remaining ≤ 1)) && ownerLink r.owner == l)) →
      (n = 0 → t.port l = s.port l) ∧
      (n ≠ 0 → (t.port l).expiryCount = ((s.port l).expiryCount + n) % 256)) ∧
    ((∀ (i : Fin 39) (r : Rec) (l : Lease), s.table[i.val].record = some r → r.lease = some l →
      1 < l.remaining) → t.env = s.env ∧ t.ports = s.ports ∧ exec .expiry s = .next s) ∧
    t = { s with table := t.table, env := t.env, ports := t.ports }

/-! ### The envelope (Chapter 2) -/

/-- A resolution gives each wheel and kind the least of the default and the ACTIVE covering records'
values, bound to the lowest-numbered record that has it (R29, R30). -/
def Obligations.ResolutionIsLeast : Prop :=
  ∀ (s : State) (w : Wheel) (k : Kind),
    (resolveKind s w k).value ≤ s.param k.default ∧
    (∀ (i : Fin 39) (r : Rec), s.table[i.val].record = some r → r.active = true → r.kind = k →
      r.scope.covers w = true → (resolveKind s w k).value ≤ r.value) ∧
    (∀ g : Gov, (s.gov.get g).active = true → g.kind = k → g.scope.covers w = true →
      (resolveKind s w k).value ≤ (s.gov.get g).value) ∧
    ((resolveKind s w k).handle = none → (resolveKind s w k).value = s.param k.default ∧
      (∀ (i : Fin 39) (r : Rec), s.table[i.val].record = some r → r.active = true → r.kind = k →
        r.scope.covers w = true → r.value ≠ (resolveKind s w k).value) ∧
      (∀ g : Gov, (s.gov.get g).active = true → g.kind = k → g.scope.covers w = true →
        (s.gov.get g).value ≠ (resolveKind s w k).value)) ∧
    (∀ x, (resolveKind s w k).handle = some x →
      (∃ (i : Fin 39) (r : Rec), x = ⟨i.val, s.table[i.val].gen⟩ ∧
        s.table[i.val].record = some r ∧ r.active = true ∧ r.kind = k ∧ r.scope.covers w = true ∧
        r.value = (resolveKind s w k).value ∧
        ∀ (j : Fin 39) (q : Rec), j < i → s.table[j.val].record = some q → q.active = true →
          q.kind = k → q.scope.covers w = true → q.value ≠ (resolveKind s w k).value) ∨
      (∃ g : Gov, x = ⟨g.slot, 0⟩ ∧ (s.gov.get g).active = true ∧ g.kind = k ∧
        g.scope.covers w = true ∧ (s.gov.get g).value = (resolveKind s w k).value ∧
        (∀ (j : Fin 39) (q : Rec), s.table[j.val].record = some q → q.active = true →
          q.kind = k → q.scope.covers w = true → q.value ≠ (resolveKind s w k).value) ∧
        ∀ g' : Gov, g'.slot < g.slot → (s.gov.get g').active = true → g'.kind = k →
          g'.scope.covers w = true → (s.gov.get g').value ≠ (resolveKind s w k).value))

/-- The envelope step keeps A against E(SPEED_MAX), slewing a tightening down from the truck's speed
(R33), and moves nothing else (R31). That R33's interval before a source exists is the reference state
SEEKING is the model's reading (log entry 34). -/
def Obligations.EnvelopeStep : Prop :=
  ∀ s : State, ∃ a, exec .envelopeStep s = .next { s with env := { s.env with applied := a } } ∧
    (s.env.applied ≤ s.env.left.speedMax.value → a = s.env.left.speedMax.value) ∧
    (s.env.left.speedMax.value < s.env.applied →
      (immediateBinding s s.env.left.speedMax.handle = true → a = s.env.left.speedMax.value) ∧
      (immediateBinding s s.env.left.speedMax.handle = false →
        (s.speed.reference ≠ .seeking →
          a = max s.env.left.speedMax.value
            (min s.env.applied s.speed.v - s.param .speedSlew)) ∧
        (s.speed.reference = .seeking →
          a = max s.env.left.speedMax.value (s.env.applied - s.param .speedSlew))))

/-! ### The Segment Table (Chapter 3) -/

/-- LOAD_SEGMENT, AMEND_SEGMENT and RETIRE_SEGMENT (R43 to R45): what they do past their checks, with the
preset that a changed class of the current segment brings (R107), and every refusal in the order of their
tables: LOAD_SEGMENT of an id that is present is EXISTS whatever figures it carries. -/
def Obligations.SegmentTableRequests : Prop :=
  (∀ (h : Hdr) (id : Byte) (a : Owner) (s : State), authorityOf h = some a →
    (a = .dispatch ∨ a = .safety) →
    (∀ (grade rr : Half) (cls : Byte) (c : AdhesionClass), classOfCode cls = some c →
      -200 ≤ grade.toInt → grade.toInt ≤ 200 → rr.toNat ≤ 100 →
      (findSegment s id.toNat = none → id ≠ 0 → s.segs.records.length < 64 →
        ∃ u : State, exec (.loadSegment h id grade rr cls) s = .next (u.exchanged h.link
            (doneAnswer h 0x20 ([id] ++ u8 (s.segs.records.length + 1)))) ∧
          findSegment u id.toNat = some ⟨id.toNat, grade.toInt, rr.toNat, c⟩ ∧
          (∀ n, n ≠ id.toNat → findSegment u n = findSegment s n) ∧
          u.segs.records.length = s.segs.records.length + 1 ∧
          u = { s with segs := { s.segs with records := u.segs.records } }) ∧
      (∀ old, findSegment s id.toNat = some old →
        ∃ u : State, exec (.amendSegment h id grade rr cls) s =
            .next (u.exchanged h.link (doneAnswer h 0x21 [id])) ∧
          findSegment u id.toNat = some ⟨id.toNat, grade.toInt, rr.toNat, c⟩ ∧
          (∀ n, n ≠ id.toNat → findSegment u n = findSegment s n) ∧
          u.segs.records.length = s.segs.records.length ∧
          ((s.segs.current ≠ some id.toNat ∨ old.cls = c) → u.grip = s.grip) ∧
          (s.segs.current = some id.toNat → old.cls ≠ c →
            u.grip = s.grip.map (Grip.preset (s.param .wheelRated) c) ∧
            ∀ w : Wheel, AfterPreset (s.param .wheelRated) c (s.grip.get w) (u.grip.get w)) ∧
          u = { s with segs := { s.segs with records := u.segs.records }, grip := u.grip })) ∧
    (∀ old, findSegment s id.toNat = some old →
      (s.segs.current = some id.toNat →
        exec (.retireSegment h id) s = .next (s.exchanged h.link (refusal h 0x22 .inUse))) ∧
      (s.segs.current ≠ some id.toNat → boundCount s id.toNat ≠ 0 →
        exec (.retireSegment h id) s = .next (s.exchanged h.link
          ⟨0x22, h.tag, .bound, padBody (u8 (boundCount s id.toNat))⟩)) ∧
      (s.segs.current ≠ some id.toNat → boundCount s id.toNat = 0 →
        ∃ u : State, exec (.retireSegment h id) s = .next (u.exchanged h.link
            (doneAnswer h 0x22 ([id] ++ u8 u.segs.records.length))) ∧
          findSegment u id.toNat = none ∧
          (∀ n, n ≠ id.toNat → findSegment u n = findSegment s n) ∧
          u = { s with segs := { s.segs with records := u.segs.records } })) ∧
    (∀ (grade rr : Half) (cls : Byte) (bad : Prop),
      (bad ↔ classOfCode cls = none ∨ grade.toInt < -200 ∨ 200 < grade.toInt ∨ 100 < rr.toNat) →
      (findSegment s id.toNat = none →
        exec (.amendSegment h id grade rr cls) s =
          .next (s.exchanged h.link (refusal h 0x21 .notFound)) ∧
        (bad ∨ id = 0 → exec (.loadSegment h id grade rr cls) s =
          .next (s.exchanged h.link (refusal h 0x20 .badValue))) ∧
        (¬bad → id ≠ 0 → 64 ≤ s.segs.records.length → exec (.loadSegment h id grade rr cls) s =
          .next (s.exchanged h.link (refusal h 0x20 .full)))) ∧
      ((findSegment s id.toNat).isSome = true →
        exec (.loadSegment h id grade rr cls) s =
          .next (s.exchanged h.link (refusal h 0x20 .exists)) ∧
        (bad → exec (.amendSegment h id grade rr cls) s =
          .next (s.exchanged h.link (refusal h 0x21 .badValue))))) ∧
    (findSegment s id.toNat = none → exec (.retireSegment h id) s =
      .next (s.exchanged h.link (refusal h 0x22 .notFound)))) ∧
  (∀ (h : Hdr) (id : Byte) (grade rr : Half) (cls : Byte) (s : State),
    authorityOf h ≠ some .dispatch → authorityOf h ≠ some .safety →
    exec (.loadSegment h id grade rr cls) s =
      .next (s.exchanged h.link (refusal h 0x20 .authority)) ∧
    exec (.amendSegment h id grade rr cls) s =
      .next (s.exchanged h.link (refusal h 0x21 .authority)) ∧
    exec (.retireSegment h id) s = .next (s.exchanged h.link (refusal h 0x22 .authority)))

/-- ENTER_SEGMENT and LEAVE_SEGMENT (R46, R47): the change of the current segment flips its records,
resolves once and applies the preset of the new segment's class by R107's table, at one event; every
refusal in R46's order. That LEAVE_SEGMENT without a current segment answers the id 0 is the model's choice
(log entry 10). -/
def Obligations.SegmentEntryAndLeave : Prop :=
  (∀ (h : Hdr) (a : Owner) (s : State), authorityOf h = some a → (a = .dispatch ∨ a = .autonomy) →
    (∀ (id heading : Byte) (hd : Heading) (g : Segment), findSegment s id.toNat = some g →
      headingOfCode heading = some hd →
      (s.segs.current = some id.toNat →
        exec (.enterSegment h id heading) s =
          .next ({ s with segs := { s.segs with heading := hd } }.exchanged h.link
            (doneAnswer h 0x23 [id, heading, 0]))) ∧
      (s.segs.current ≠ some id.toNat →
        ∃ (u : State) (n : Nat), exec (.enterSegment h id heading) s = .next (u.exchanged h.link
            (doneAnswer h 0x23 ([id, heading] ++ u8 n))) ∧
          u.segs = ⟨s.segs.records, some id.toNat, hd⟩ ∧
          (∀ i : Fin 39, u.table[i.val].gen = s.table[i.val].gen ∧
            u.table[i.val].record = s.table[i.val].record.map (fun r =>
              if r.segment = some id.toNat then { r with active := true }
              else if r.segment ≠ none ∧ r.segment = s.segs.current then { r with active := false }
              else r)) ∧
          n = s.table.toList.countP (fun x => x.record.any (fun r =>
            (r.segment == some id.toNat && !r.active) ||
              (r.segment != some id.toNat && r.segment.isSome && r.segment == s.segs.current &&
                r.active))) ∧
          ResolvedFrom s.env.applied u ∧
          u.grip = s.grip.map (Grip.preset (s.param .wheelRated) g.cls) ∧
          (∀ w : Wheel, AfterPreset (s.param .wheelRated) g.cls (s.grip.get w) (u.grip.get w)) ∧
          u = { s with segs := u.segs, table := u.table, env := u.env, grip := u.grip })) ∧
    (s.segs.current = none → exec (.leaveSegment h) s =
      .next (s.exchanged h.link (doneAnswer h 0x24 [0, 0]))) ∧
    (∀ id, s.segs.current = some id →
      ∃ (u : State) (n : Nat), exec (.leaveSegment h) s = .next (u.exchanged h.link
          (doneAnswer h 0x24 (u8 id ++ u8 n))) ∧
        u.segs = { s.segs with current := none } ∧
        (∀ i : Fin 39, u.table[i.val].gen = s.table[i.val].gen ∧
          u.table[i.val].record = s.table[i.val].record.map (fun r =>
            if r.segment = some id then { r with active := false } else r)) ∧
        n = s.table.toList.countP (fun x => x.record.any (fun r => r.segment == some id && r.active)) ∧
        ResolvedFrom s.env.applied u ∧ u = { s with segs := u.segs, table := u.table, env := u.env }) ∧
    (∀ id heading : Byte,
      (findSegment s id.toNat = none → exec (.enterSegment h id heading) s =
        .next (s.exchanged h.link (refusal h 0x23 .notFound))) ∧
      ((findSegment s id.toNat).isSome = true → headingOfCode heading = none →
        exec (.enterSegment h id heading) s =
          .next (s.exchanged h.link (refusal h 0x23 .badValue))))) ∧
  (∀ (h : Hdr) (id heading : Byte) (s : State),
    authorityOf h ≠ some .dispatch → authorityOf h ≠ some .autonomy →
    exec (.enterSegment h id heading) s =
      .next (s.exchanged h.link (refusal h 0x23 .authority)) ∧
    exec (.leaveSegment h) s = .next (s.exchanged h.link (refusal h 0x24 .authority)))

/-! ### Ground speed (Chapter 4) -/

/-- SPEED_FIX, SELECT_SPEED_SOURCE and CLEAR_SOURCE_FAIL (R56, R61, R66), with every refusal but LOCKED,
which the next statement has: SPEED_FIX is AUTHORITY for all but DISPATCH and AUTONOMY (R185), and an
unknown source code is BAD_VALUE before the lock is looked at. The codes of the sources are the model's
reading (log entry 7). -/
def Obligations.SpeedRequests : Prop :=
  (∀ (h : Hdr) (speed quality : Half) (s : State), authorityOf h ≠ some .dispatch →
    authorityOf h ≠ some .autonomy → exec (.speedFix h speed quality) s =
      .next (s.exchanged h.link (refusal h 0x30 .authority))) ∧
  ∀ (h : Hdr) (a : Owner) (s : State), authorityOf h = some a →
    (∀ speed quality : Half, (a = .dispatch ∨ a = .autonomy) →
      (speed.toNat ≤ 800 → quality.toNat ≤ 3 →
        exec (.speedFix h speed quality) s = .next
          ({ s with speed := { s.speed with
               fix := some ⟨speed.toNat, quality.toNat⟩, fresh := 3 } }.exchanged h.link
            (doneAnswer h 0x30 (optU8 (s.speed.current.map sourceCode) ++ u16 s.speed.v ++
              u8 s.speed.trackers.sat.state.code)))) ∧
      (800 < speed.toNat ∨ 3 < quality.toNat → exec (.speedFix h speed quality) s =
        .next (s.exchanged h.link (refusal h 0x30 .badValue)))) ∧
    (∀ source : Byte, sourceOfCode source = none → exec (.selectSpeedSource h source) s =
      .next (s.exchanged h.link (refusal h 0x31 .badValue))) ∧
    (∀ (source : Byte) (x : Source), sourceOfCode source = some x → s.speed.lock = false →
      ∃ p : Option Source, (s.speed.current = some x → p = none) ∧
        (s.speed.current ≠ some x → p = some x) ∧
        exec (.selectSpeedSource h source) s = .next
          ({ s with speed := { s.speed with pending := p } }.exchanged h.link
            (doneAnswer h 0x31 (optU8 (s.speed.current.map sourceCode) ++
              optU8 (p.map sourceCode) ++ u8 (s.speed.trackers.get x).state.code)))) ∧
    exec (.clearSourceFail h) s = .next
      ({ s with speed := { s.speed with sourceFail := false } }.exchanged h.link
        (doneAnswer h 0x33 (optU8 (s.speed.current.map sourceCode) ++
          u8 s.speed.reference.code)))

/-- The lock: set by LOCK_SPEED_SOURCE, cleared by a cold restart alone; it refuses
SELECT_SPEED_SOURCE and stops nothing else at a window; the pending source comes from
SELECT_SPEED_SOURCE alone (R62). LOCK_SPEED_SOURCE is AUTHORITY for all but SAFETY (R185). The codes of the
sources are the model's reading (log entry 7). -/
def Obligations.SpeedSourceLock : Prop :=
  (∀ (h : Hdr) (s : State), authorityOf h = some .safety →
    (s.speed.lock = false → exec (.lockSpeedSource h) s = .next
      ({ s with speed := { s.speed with lock := true, pending := none } }.exchanged h.link
        (doneAnswer h 0x32 (optU8 (s.speed.current.map sourceCode))))) ∧
    (s.speed.lock = true → exec (.lockSpeedSource h) s = .next (s.exchanged h.link
      (doneAnswer h 0x32 (optU8 (s.speed.current.map sourceCode)))))) ∧
  (∀ (h : Hdr) (s : State), authorityOf h ≠ some .safety → exec (.lockSpeedSource h) s =
    .next (s.exchanged h.link (refusal h 0x32 .authority))) ∧
  (∀ (i : Instr) (s t : State), exec i s = .next t → s.speed.lock = true →
    t.speed.lock = false → ColdRestartBy i) ∧
  (∀ (i : Instr) (s t : State), exec i s = .next t → ColdRestartBy i →
    t.speed.lock = false ∧ t.speed.pending = none) ∧
  (∀ (h : Hdr) (source : Byte) (s : State), authorityOf h ≠ none →
    sourceOfCode source ≠ none → s.speed.lock = true →
    exec (.selectSpeedSource h source) s =
      .next (s.exchanged h.link (refusal h 0x31 .locked))) ∧
  (∀ (i : WindowIn) (s t : State), exec (.window i) s = .next t →
    exec (.window i) { s with speed := { s.speed with lock := true } } =
      .next { t with speed := { t.speed with lock := true } }) ∧
  (∀ (i : Instr) (s t : State), exec i s = .next t → s.speed.pending = none →
    t.speed.pending ≠ none → ∃ (h : Hdr) (source : Byte), i = .selectSpeedSource h source)

/-- What a window reads of each source and what its self-check finds (R53 to R55), each front sensor's own
speed as computed, whether it reports or not (R53), and the wheel speeds it hands to the Adhesion Controller;
what an inverter message hands it. -/
def Obligations.WindowReadings : Prop :=
  (∀ (i : WindowIn) (s : State), ∃ t : State, exec (.window i) s = .next t ∧
    ∃ fL fR wL wR : Nat,
      t.speed.pulses.left = (i.pulses.left :: s.speed.pulses.left).take 4 ∧
      t.speed.pulses.right = (i.pulses.right :: s.speed.pulses.right).take 4 ∧
      fL = t.speed.pulses.left.sum * s.param .tyreRadius * 22619 /
        (s.param .pulsesPerRev * 40000) ∧
      fR = t.speed.pulses.right.sum * s.param .tyreRadius * 22619 /
        (s.param .pulsesPerRev * 40000) ∧
      t.speed.sensors = ⟨fL, fR⟩ ∧
      t.speed.windows = min 255 (s.speed.windows + 1) ∧
      t.speed.trackers.front.value = min 800 ((fL + fR) / 2) ∧
      (t.speed.trackers.front.passed = true ↔ 4 ≤ t.speed.windows ∧ i.lineGood.left = true ∧
        i.lineGood.right = true ∧ max fL fR - min fL fR ≤ 5 + max fL fR * 60 / 1000) ∧
      wL = min 800 (s.speed.rpm.left * 1000 * s.param .tyreRadius * 37699 /
        (s.param .gearRatio * 10000000)) ∧
      wR = min 800 (s.speed.rpm.right * 1000 * s.param .tyreRadius * 37699 /
        (s.param .gearRatio * 10000000)) ∧
      t.speed.trackers.rear.value = (wL + wR) / 2 ∧
      (t.speed.trackers.rear.passed = true ↔
        s.speed.marks.left = true ∧ s.speed.marks.right = true) ∧
      t.speed.marks = ⟨false, false⟩ ∧ t.speed.rpm = s.speed.rpm ∧
      t.grip.left.lastSpeed = some wL ∧ t.grip.right.lastSpeed = some wR ∧
      t.speed.trackers.sat.value = (match s.speed.fix with | some f => f.speed | none => 0) ∧
      (t.speed.trackers.sat.passed = true ↔
        1 ≤ s.speed.fresh ∧ ∃ f, s.speed.fix = some f ∧ 2 ≤ f.quality) ∧
      t.speed.fresh = s.speed.fresh - 1 ∧ t.speed.fix = s.speed.fix) ∧
  (∀ (w : Wheel) (rpm : Nat) (fault : Bool) (s : State),
    ∃ t : State, exec (.inverterMessage w rpm fault) s = .next t ∧
      t.speed.rpm.get w = rpm ∧ t.speed.marks.get w = true ∧
      t.speed = { s.speed with rpm := t.speed.rpm, marks := t.speed.marks } ∧
      t.speed.rpm.get w.other = s.speed.rpm.get w.other ∧
      t.speed.marks.get w.other = s.speed.marks.get w.other)

/-- Ground speed follows the current source while its self-check passes and is held otherwise (R59),
SOURCE_SPEED follows the source (R67), and a window leaves the rest alone. -/
def Obligations.WindowGroundSpeed : Prop :=
  ∀ (i : WindowIn) (s : State), ∃ t : State, exec (.window i) s = .next t ∧
    (∀ d, t.speed.current = some d → (t.speed.trackers.get d).passed = true →
      t.speed.v = (t.speed.trackers.get d).value) ∧
    (∀ c, s.speed.current = some c → t.speed.current = some c →
      (t.speed.trackers.get c).passed = false → t.speed.v = s.speed.v) ∧
    ((∀ x : Source, (t.speed.trackers.get x).passed = false) → t.speed.v = s.speed.v) ∧
    (s.speed.current = none → t.speed.current = none → t.speed.v = s.speed.v) ∧
    (t.speed.current = some .sat →
      t.gov.sourceSpeed = ⟨true, s.param .srcSatSpeed, true⟩) ∧
    (t.speed.current = some .rear →
      t.gov.sourceSpeed = ⟨true, s.param .srcRearSpeed, true⟩) ∧
    (t.speed.current = none ∨ t.speed.current = some .front →
      t.gov.sourceSpeed = { s.gov.sourceSpeed with active := false }) ∧
    (t.gov ≠ s.gov → ResolvedFrom s.env.applied t) ∧ (t.gov = s.gov → t.env = s.env) ∧
    t = { s with
      speed := t.speed, gov := { s.gov with sourceSpeed := t.gov.sourceSpeed }, env := t.env
      ports := t.ports, drive := t.drive, torque := t.torque, grip := t.grip
      retard := { s.retard with assist := t.retard.assist, causes := t.retard.causes } }

/-- Every row of the trackers' table (R57) with the agreement of R58; a tracker at its eighth passing
window becomes TRACKING; a TRACKING source at its third failing window is LOST, and the current source's
loss brings the fallback or the reference loss (R63, R64). That TRACKER_TRACKING and TRACKER_LOST are the
whole window, and nothing where they are not due, is the model's choice (log entry 1). -/
def Obligations.TrackerEvents : Prop :=
  (∀ (x : Source) (i : WindowIn) (s : State), (s.speed.trackers.get x).state = .qualifying →
    7 ≤ (s.speed.trackers.get x).count →
    ((readSources i s).trackers.get x).passed = true → s.speed.current = none →
    ∃ t : State, exec (.trackerTracking x i) s = .next t ∧ exec (.window i) s = .next t ∧
      (t.speed.trackers.get x).state = .tracking ∧ (t.speed.trackers.get x).count = 8 ∧
      (t.speed.trackers.get x).misses = 0) ∧
  (∀ (x : Source) (i : WindowIn) (s : State), (s.speed.trackers.get x).state = .tracking →
    2 ≤ (s.speed.trackers.get x).misses →
    ((readSources i s).trackers.get x).passed = false → s.speed.current = some x →
    ∃ t : State, exec (.trackerLost x i) s = .next t ∧ exec (.window i) s = .next t ∧
      (t.speed.trackers.get x).state = .lost ∧ t.speed.sourceFail = true ∧
      PendingOnBoth .sourceFail t ∧
      (∀ n, (unitTracked i s).firstTracking = some n → s.speed.pending = none →
        t.speed.current = some n ∧ t.speed.reference = .valid ∧
        (s.drive.state ≠ .starting → t.drive.trip = s.drive.trip)) ∧
      ((unitTracked i s).firstTracking = none →
        t.speed.current = none ∧ t.speed.reference = .lost ∧ t.speed.v = s.speed.v ∧
        t.speed.pending = s.speed.pending ∧ t.drive.state = .tripped ∧
        (s.drive.state ≠ .tripped →
          t.drive.trip = some .referenceLost ∧ PendingOnBoth .tripped t))) ∧
  (∀ (x : Source) (i : WindowIn) (s : State), (s.speed.trackers.get x).state ≠ .qualifying →
    exec (.trackerTracking x i) s = .next s) ∧
  (∀ (x : Source) (i : WindowIn) (s : State), (s.speed.trackers.get x).state ≠ .tracking →
    exec (.trackerLost x i) s = .next s) ∧
  (∀ (i : WindowIn) (s : State), ∃ t : State, exec (.window i) s = .next t ∧
    ∀ (x : Source) (old new : Tracker) (v : Nat) (agrees : Prop),
      old = s.speed.trackers.get x → new = t.speed.trackers.get x →
      (s.speed.current = none → v = s.speed.v) →
      (∀ c, s.speed.current = some c → v = if (t.speed.trackers.get c).passed = true
        then (t.speed.trackers.get c).value else s.speed.v) →
      (agrees ↔ ∀ c, s.speed.current = some c → c ≠ x →
        ((new.value : Int) - v).natAbs ≤ 5 + v * (if x = .rear ∨ c = .rear then 150 else 50) / 1000) →
      (exec (.trackerTracking x i) s =
        .next (if old.state = .qualifying ∧ new.state = .tracking then t else s)) ∧
      (exec (.trackerLost x i) s =
        .next (if old.state = .tracking ∧ new.state = .lost then t else s)) ∧
      (old.state = .absent →
        (new.passed = true → new.state = .qualifying ∧ (agrees → new.count = 1) ∧
          (¬agrees → new.count = 0)) ∧
        (new.passed = false → new.state = .absent)) ∧
      (old.state = .qualifying →
        (new.passed = true → agrees → old.count < 7 →
          new.state = .qualifying ∧ new.count = old.count + 1) ∧
        (new.passed = true → agrees → 7 ≤ old.count →
          new.state = .tracking ∧ new.count = 8 ∧ new.misses = 0) ∧
        (new.passed = true → ¬agrees → new.state = .qualifying ∧ new.count = 0) ∧
        (new.passed = false → new.state = .absent ∧ new.count = 0)) ∧
      (old.state = .tracking →
        (new.passed = true → new.state = .tracking ∧ new.misses = 0) ∧
        (new.passed = false → old.misses < 2 →
          new.state = .tracking ∧ new.misses = old.misses + 1) ∧
        (new.passed = false → 2 ≤ old.misses → new.state = .lost ∧ new.misses = 3)) ∧
      (old.state = .lost →
        (new.passed = true → new.state = .qualifying ∧ (agrees → new.count = 1) ∧
          (¬agrees → new.count = 0)) ∧
        (new.passed = false → new.state = .lost)))

/-- The start-up selection: the preferred source once it is TRACKING, and from the 20th window on the first
source that is (R68). STARTING ends at the window that finds a source, by whatever selection (R60, R68),
with the first row of R182's table that applies; at its entry to HOLD a MUTED wheel's WHEEL_LOST joins the
hold set, and two MUTED wheels trip the drive (R93). The pending switch (R60), and the recovery selection
while the reference is LOST (R64). That START_SELECTION_TIMEOUT is the whole window, and nothing where it is
not due, is the model's choice (log entry 1). -/
def Obligations.StartSelection : Prop :=
  (∀ (i : WindowIn) (s : State), s.speed.current = none → s.speed.reference = .seeking →
    s.speed.pending = none →
    ((unitTracked i s).isTracking (preferredSource s.straps.srcPref) = true →
      ∃ t : State, exec (.window i) s = .next t ∧
        t.speed.current = some (preferredSource s.straps.srcPref) ∧
        t.speed.reference = .valid ∧ t.speed.sourceFail = s.speed.sourceFail ∧
        exec (.startSelectionTimeout i) s = .next s) ∧
    (∀ n, (unitTracked i s).isTracking (preferredSource s.straps.srcPref) = false →
      (unitTracked i s).firstTracking = some n → 19 ≤ s.speed.windows →
      ∃ t : State, exec (.startSelectionTimeout i) s = .next t ∧ exec (.window i) s = .next t ∧
        t.speed.current = some n ∧ t.speed.reference = .valid ∧ t.speed.sourceFail = true ∧
        PendingOnBoth .sourceFail t) ∧
    ((unitTracked i s).isTracking (preferredSource s.straps.srcPref) = false →
      (s.speed.windows < 19 ∨ (unitTracked i s).firstTracking = none) →
      ∃ t : State, exec (.window i) s = .next t ∧ t.speed.current = none ∧
        t.speed.reference = .seeking ∧ (s.drive.state ≠ .tripped → t.drive = s.drive) ∧
        exec (.startSelectionTimeout i) s = .next s)) ∧
  (∀ (i : WindowIn) (s : State), s.drive.state = .starting → s.speed.current = none →
    ∃ t : State, exec (.window i) s = .next t ∧
      (t.speed.current = none → t.drive = s.drive ∧ t.torque = s.torque) ∧
      (t.speed.current.isSome = true →
        t.drive.tripMark = false ∧ t.torque.demand = none ∧ t.torque.lease = none ∧
        (s.drive.tripMark = true →
          t.drive = { s.drive with
            state := .tripped, hold := .empty, applyCount := 0
            brakeApply := decide (t.speed.v < 5), tripMark := false } ∧
          t.retard.assist = 1000 ∧ PendingOnBoth .tripped t) ∧
        (s.drive.tripMark = false → t.speed.v < 5 → s.drive.hold.safetyHold = false →
          t.drive = { s.drive with
            state := .parked, hold := .empty, brakeApply := true, tripMark := false } ∧
          ∀ w : Wheel, (t.wheel w).tprev = 0 ∧
            (t.wheel w).mode = (if (s.wheel w).link = .up then .governed else (s.wheel w).mode)) ∧
        (s.drive.tripMark = false → (5 ≤ t.speed.v ∨ s.drive.hold.safetyHold = true) →
          ∀ H : HoldSet, H = { HoldSet.empty with
              startMoving := decide (5 ≤ t.speed.v)
              safetyHold := s.drive.hold.safetyHold
              steerFault := s.drive.conditions.steerFault
              steerCrit := s.drive.conditions.steerCrit } →
            PendingOnBoth .holdEntered t ∧
            ((∀ w : Wheel, (s.wheel w).mode = .governed) →
              t.drive = { s.drive with
                state := .hold, hold := H, brakeApply := false, tripMark := false }) ∧
            (∀ w : Wheel, (s.wheel w).mode ≠ .governed → (s.wheel w.other).mode = .governed →
              t.drive = { s.drive with
                state := .hold, hold := { H with wheelLost := true }
                brakeApply := false, tripMark := false }) ∧
            ((∀ w : Wheel, (s.wheel w).mode ≠ .governed) →
              t.drive = { s.drive with
                state := .tripped, trip := some .bothWheelsLost, later := .empty, hold := .empty
                timer := none, applyCount := 0, brakeApply := decide (t.speed.v < 5)
                tripMark := false } ∧
              t.retard.assist = 1000 ∧ PendingOnBoth .tripped t)))) ∧
  (∀ (i : WindowIn) (s : State), s.speed.current.isSome = true ∨ s.speed.reference ≠ .seeking →
    exec (.startSelectionTimeout i) s = .next s) ∧
  (∀ (i : WindowIn) (s : State), ∃ t : State, exec (.window i) s = .next t ∧
    ∀ tracking : Source → Prop, (∀ x, tracking x ↔ (t.speed.trackers.get x).state = .tracking) →
      (s.speed.pending = none → t.speed.pending = none) ∧
      (∀ p, s.speed.pending = some p →
        (tracking p → t.speed.current = some p ∧ t.speed.pending = none ∧
          ((t.speed.trackers.get p).passed = true →
            t.speed.v = (t.speed.trackers.get p).value)) ∧
        (¬tracking p →
          (s.speed.current = some p → (t.speed.trackers.get p).state = .lost) →
          t.speed.pending = some p)) ∧
      (s.speed.current = none → s.speed.reference = .lost →
        t.speed.sourceFail = s.speed.sourceFail ∧
        (s.drive.state = .tripped → t.drive.state = .tripped ∧ t.drive.trip = s.drive.trip) ∧
        (∀ p, s.speed.pending = some p → tracking p →
          t.speed.current = some p ∧ t.speed.reference = .valid) ∧
        ((∀ p, s.speed.pending = some p → ¬tracking p) →
          (∀ n, tracking n → (∀ m, sourceCode m < sourceCode n → ¬tracking m) →
            t.speed.current = some n ∧ t.speed.reference = .valid ∧
            ((t.speed.trackers.get n).passed = true →
              t.speed.v = (t.speed.trackers.get n).value)) ∧
          ((∀ n, ¬tracking n) → t.speed.current = none ∧ t.speed.reference = .lost ∧
            t.speed.v = s.speed.v))))

/-- In TRIPPED a window without a current source counts, the 50th applies the park brake, v below 5 applies
it at once, once applied it stays, and nothing else applies it (R171). A window that loses the reference
counts too, and its REFERENCE_LOST joins the later trip causes unless it is the trip cause (R64, R173). That
TRIP_APPLY_COUNT_EXPIRY is the whole window, and nothing where the count does not reach 50, is the model's
choice (log entry 1). -/
def Obligations.TripApplyCount : Prop :=
  (∀ (i : WindowIn) (s : State), s.drive.state = .tripped → s.speed.current = none →
    (unitTracked i s).firstTracking = none → s.drive.applyCount = 49 →
    ∃ t : State, exec (.tripApplyCountExpiry i) s = .next t ∧ exec (.window i) s = .next t ∧
      t.drive = { s.drive with applyCount := 50, brakeApply := true }) ∧
  (∀ (i : WindowIn) (s t : State), exec (.window i) s = .next t → s.drive.state = .tripped →
    t.drive = { s.drive with
      later := t.drive.later, applyCount := t.drive.applyCount, brakeApply := t.drive.brakeApply } ∧
    (t.drive.brakeApply = true ↔ s.drive.brakeApply = true ∨ t.speed.v < 5 ∨
      (t.speed.current = none ∧ 49 ≤ s.drive.applyCount)) ∧
    (t.speed.current = none → t.drive.applyCount = min 50 (s.drive.applyCount + 1)) ∧
    (t.speed.current.isSome = true → t.drive.applyCount = s.drive.applyCount) ∧
    t.drive.later =
      (if s.speed.current.isSome = true ∧ t.speed.current = none ∧
          s.drive.trip ≠ some .referenceLost then { s.drive.later with referenceLost := true }
        else s.drive.later)) ∧
  (∀ (i : WindowIn) (s : State), ∃ t : State, exec (.window i) s = .next t ∧
    exec (.tripApplyCountExpiry i) s =
      .next (if s.drive.state = .tripped ∧ s.drive.applyCount < 50 ∧ t.drive.applyCount = 50
        then t else s))

/-! ### Adhesion (Chapter 6) -/

/-- The slip window of a window on each wheel: the slip event by R100 or R101, the cut of R102 or the end of
a search of R105, and the re-probe of R106; every figure they do not name stands. That REPROBE_START is the
whole window, and nothing where no new search starts, is the model's choice (log entry 1); that a search
which a slip ends starts its re-probe count in the same window, at 1 where a FRONT or SAT source is current
and at 0 in the freeze of R101, is its reading (log entry 16). -/
def Obligations.SlipWindow : Prop :=
  ∀ (i : WindowIn) (s : State), ∃ t : State, exec (.window i) s = .next t ∧
    ∀ (w : Wheel) (wi : Nat) (last si : Int) (slip : Prop), wi = (surfaceSpeeds s).get w →
      (t.grip.get w).lastSpeed = some wi →
      last = (s.wheel w).history[9] →
      si = Int.tdiv (((wi : Int) - t.speed.v) * 1000) (max t.speed.v 30 : Nat) →
      (slip ↔
        if t.speed.current = some .front ∨ t.speed.current = some .sat then
          (0 < last ∧ (s.param .slipPropel : Int) < si) ∨
            (last < 0 ∧ si < -(s.param .slipRetard : Int))
        else ∃ b, (s.grip.get w).lastSpeed = some b ∧
          ((0 < last ∧ b + 20 < wi) ∨ (last < 0 ∧ wi + 20 < b))) →
      ((s.grip.get w).state ≠ .settled ∨
          ((t.grip.get w).state ≠ .search ∧ (t.grip.get w).state ≠ .free) →
        exec (.reprobeStart w i) s = .next s) ∧
      (t.grip.get w).lastSlip =
        (if t.speed.current = some .front ∨ t.speed.current = some .sat then si else 0) ∧
      (slip → (s.grip.get w).state ≠ .search →
        t.grip.get w = { s.grip.get w with
          ceiling := min (s.grip.get w).ceiling
            (max (s.param .wheelRated * 100 / 1000)
              (((s.wheel w).history.toList.map Int.natAbs).sum / 10 * 700 / 1000))
          state := .hold, dwell := 0, sum := 0, slips := ((s.grip.get w).slips + 1) % 256
          lastSlip := (t.grip.get w).lastSlip, lastSpeed := some wi }) ∧
      (slip → (s.grip.get w).state = .search →
        ∀ n : Nat, n = (if t.speed.current = some .front ∨ t.speed.current = some .sat
          then 1 else 0) →
        (n = 0 ∨ 1 < s.param .researchTime) →
        t.grip.get w = { s.grip.get w with
          ceiling := (s.grip.get w).best, state := .settled, reprobe := n
          slips := ((s.grip.get w).slips + 1) % 256
          lastSlip := (t.grip.get w).lastSlip, lastSpeed := some wi }) ∧
      (¬ slip → (s.grip.get w).state ≠ .settled →
        t.grip.get w = { s.grip.get w with
          lastSlip := (t.grip.get w).lastSlip, lastSpeed := some wi }) ∧
      (¬ slip → (s.grip.get w).state = .settled →
        (t.speed.current ≠ some .front → t.speed.current ≠ some .sat →
          t.grip.get w = { s.grip.get w with
            lastSlip := (t.grip.get w).lastSlip, lastSpeed := some wi }) ∧
        ((t.speed.current = some .front ∨ t.speed.current = some .sat) →
          ((s.grip.get w).reprobe + 1 < s.param .researchTime →
            t.grip.get w = { s.grip.get w with
              reprobe := (s.grip.get w).reprobe + 1
              lastSlip := si, lastSpeed := some wi }) ∧
          (s.param .researchTime ≤ (s.grip.get w).reprobe + 1 →
            exec (.reprobeStart w i) s = .next t ∧
            (t.grip.get w).best = (s.grip.get w).ceiling ∧ (t.grip.get w).fbest = 0 ∧
            (t.grip.get w).misses = 0 ∧
            (s.param .wheelRated ≤
                (s.grip.get w).ceiling + s.param .wheelRated * s.param .searchStep / 1000 →
              (t.grip.get w).ceiling = s.param .wheelRated ∧ (t.grip.get w).state = .free) ∧
            ((s.grip.get w).ceiling + s.param .wheelRated * s.param .searchStep / 1000 <
                s.param .wheelRated →
              (t.grip.get w).ceiling = (s.grip.get w).ceiling +
                  s.param .wheelRated * s.param .searchStep / 1000 ∧
              (t.grip.get w).state = .search ∧ (t.grip.get w).dwell = 0 ∧
              (t.grip.get w).sum = 0))))

/-! ### Wheel torque (Chapter 5) -/

/-- SET_DEMAND: its checks (R72), what it takes in READY and in HOLD (R73), and the change of direction
below 0.5 km/h (R74). The lease of the answer in two bytes (log entry 6), and the absent value it shows when
idle (log entry 40), are the model's choices. -/
def Obligations.SetDemand : Prop :=
  ∀ (h : Hdr) (demand steer : Half) (direction : Byte) (a : Owner) (s : State),
    authorityOf h = some a →
    (¬((s.drive.mode = .manned ∧ a = .operator) ∨ (s.drive.mode = .autonomous ∧ a = .autonomy)) →
      exec (.setDemand h demand steer direction) s =
        .next (s.exchanged h.link (refusal h 0x40 .notOwner))) ∧
    ((s.drive.mode = .manned ∧ a = .operator) ∨ (s.drive.mode = .autonomous ∧ a = .autonomy) →
      (directionOfCode direction = none → exec (.setDemand h demand steer direction) s =
        .next (s.exchanged h.link (refusal h 0x40 .badValue))) ∧
      ∀ (d : Direction) (D S : Int), directionOfCode direction = some d →
        D = max (-1000) (min demand.toInt 1000) → S = max (-450) (min steer.toInt 450) →
        (s.drive.state ≠ .ready → s.drive.state ≠ .hold →
          exec (.setDemand h demand steer direction) s =
            .next (s.exchanged h.link (refusal h 0x40 .state))) ∧
        (s.drive.state = .hold → exec (.setDemand h demand steer direction) s =
          .next ({ s with torque := { s.torque with steerDemand := some S } }.exchanged h.link
            (doneAnswer h 0x40 (u8 4 ++ optS16 s.torque.demand ++ s16 S ++
              u8 s.torque.direction.code ++ optU16 s.torque.lease)))) ∧
        (s.drive.state = .ready → ∃ u : State,
          exec (.setDemand h demand steer direction) s = .next (u.exchanged h.link
            (doneAnswer h 0x40 (u8 3 ++ s16 D ++ s16 S ++ u8 u.torque.direction.code ++ u16 25))) ∧
          u.torque.demand = some D ∧ u.torque.steerDemand = some S ∧ u.torque.lease = some 25 ∧
          u.torque.direction = (if s.speed.v < 5 then d else s.torque.direction) ∧
          (∀ w : Wheel, u.wheel w =
            if s.torque.direction ≠ d ∧ s.speed.v < 5 then { s.wheel w with tprev := 0 }
            else s.wheel w) ∧
          u.torque.vmax = s.torque.vmax ∧ u = { s with torque := u.torque }))

/-- The stages S1 to S6 of the chain of one wheel with n wheels GOVERNED, each by its table (R79 to
R84). Where the prose under a worked sequence gives another figure, R84 is followed: the model's reading
(log entry 37). -/
def Obligations.TorqueChain : Prop :=
  ∀ (s : State) (w : Wheel) (n : Nat) (c : Chain) (v vmax pp pr : Nat) (tp tr tw δ D : Int),
    c = runChain s w n → v = s.speed.v → vmax = vmaxOf s →
    tp = s.eff w .propelTorque → tr = s.eff w .retardTorque → tw = s.eff w .wheelTorque →
    δ = s.steer.command.getD 0 → D = s.torque.demand.getD 0 →
    pp = s.eff w .propelPower * 36 * s.param .tyreRadius / (max v 30 * 1000) →
    pr = s.retard.pcap / n * 36 * s.param .tyreRadius / (max v 30 * 1000) →
    (s.drive.state = .hold →
      (5 ≤ v → c.t0 = -(s.param .holdRetard * tr / 1000)) ∧ (v < 5 → c.t0 = 0)) ∧
    (s.drive.state ≠ .hold →
      (0 ≤ D → c.t0 = D * tp / 1000) ∧ (D < 0 → c.t0 = -(-D * tr / 1000))) ∧
    (vmax ≤ v → c.t1 = min (min c.t0 0) (-min tr (((v : Int) - vmax) * s.param .ovsGain))) ∧
    (v < vmax → 0 < c.t0 → vmax ≤ v + s.param .taperBand →
      c.t1 = c.t0 * ((vmax : Int) - v) / s.param .taperBand) ∧
    (v < vmax → (c.t0 ≤ 0 ∨ v + s.param .taperBand < vmax) → c.t1 = c.t0) ∧
    c.t2 = max (-min tr tw) (min c.t1 (min tp tw)) ∧
    (0 ≤ c.t2 → c.t3 = min c.t2 pp) ∧ (c.t2 < 0 → c.t3 = max c.t2 (-pr)) ∧
    (w = .left → c.t4 = c.t3 - Int.tdiv (c.t3 * δ * s.param .edGain) 10000) ∧
    (w = .right → c.t4 = c.t3 + Int.tdiv (c.t3 * δ * s.param .edGain) 10000) ∧
    c.t5 = (s.wheel w).tprev +
      max (-(s.param .jerk : Int)) (min (c.t4 - (s.wheel w).tprev) (s.param .jerk))

/-- Every command a command step issues lies within the bounds of S7 as used at that step, is the
clamp of S6's value where the chain ran, and is 0 elsewhere (R85); a retard command's magnitude is at
most the wheel's share of capacity turned into torque; in HOLD no command is positive (R87). -/
def Obligations.CommandBounds : Prop :=
  ∀ (s : State), ∃ t u : State, u = silenceCounted (leaseCounted s) ∧
    exec .commandStep s = .next t ∧ u.drive.state = t.drive.state ∧
    ∀ (w : Wheel) (n propel retard lr lp : Nat),
      n = ([Wheel.left, .right].filter (fun x => (t.wheel x).mode == .governed)).length →
      propel = s.eff w .propelPower * 36 * s.param .tyreRadius / (max s.speed.v 30 * 1000) →
      retard = s.retard.pcap / n * 36 * s.param .tyreRadius / (max s.speed.v 30 * 1000) →
      lr = min (min (s.eff w .retardTorque) (s.eff w .wheelTorque))
        (min (s.grip.get w).ceiling retard) →
      lp = min (min (s.eff w .propelTorque) (s.eff w .wheelTorque))
        (min (s.grip.get w).ceiling propel) →
      (t.wheel w).sent.torque = (t.wheel w).tprev ∧
      -(lr : Int) ≤ (t.wheel w).tprev ∧ (t.wheel w).tprev ≤ lp ∧
      ((t.wheel w).tprev < 0 → (t.wheel w).tprev.natAbs ≤ retard) ∧
      (t.drive.state = .hold → (t.wheel w).tprev ≤ 0) ∧
      ((t.drive.state = .ready ∨ t.drive.state = .hold) → (t.wheel w).mode = .governed →
        (t.wheel w).tprev = max (-(lr : Int)) (min (runChain u w n).t5
          (if t.drive.state = .hold then 0 else (lp : Int)))) ∧
      (((t.drive.state ≠ .ready ∧ t.drive.state ≠ .hold) ∨ (t.wheel w).mode ≠ .governed) →
        (t.wheel w).tprev = 0)

/-- What a command step issues and hands over (R86): the message, Tprev, the history, the limiting
stage and the retard-bound flag; Vmax (R76); the brake assist causes and level by R129's table (R130). The
rest of the state stands. A MUTED wheel in a zero-torque drive state shows ZERO (log entry 15), and where the
prose under a worked sequence gives another limiting stage R86 is followed (log entry 37): the model's
readings. -/
def Obligations.CommandHandOver : Prop :=
  ∀ (s : State), ∃ t u : State, u = silenceCounted (leaseCounted s) ∧
    exec .commandStep s = .next t ∧ t.drive = u.drive ∧
    t.torque.vmax = (if s.torque.direction = .forward then s.env.applied
      else min s.env.applied (s.param .reverseSpeed)) ∧
    t.torque = { u.torque with vmax := t.torque.vmax, wheels := t.torque.wheels } ∧
    (∀ (w : Wheel) (c : Chain), c = runChain u w (governedCount u.torque) →
      (t.wheel w).sent = ⟨(t.wheel w).tprev, s.torque.direction⟩ ∧
      (t.wheel w).history.toList = (u.wheel w).history.toList.drop 1 ++ [(t.wheel w).tprev] ∧
      (t.wheel w).link = (u.wheel w).link ∧ (t.wheel w).silence = (u.wheel w).silence ∧
      (t.wheel w).mode = (u.wheel w).mode ∧
      (t.drive.state ≠ .ready → t.drive.state ≠ .hold →
        (t.wheel w).stage = .zero ∧ (t.wheel w).retardBound = false) ∧
      ((t.drive.state = .ready ∨ t.drive.state = .hold) → (u.wheel w).mode ≠ .governed →
        (t.wheel w).stage = .muted ∧ (t.wheel w).retardBound = false) ∧
      ((t.drive.state = .ready ∨ t.drive.state = .hold) → (u.wheel w).mode = .governed →
        (t.wheel w).tprev = c.t6 ∧
        ((t.wheel w).retardBound = true ↔ c.t4 ≤ -(c.lr : Int) ∧ c.t6 = -(c.lr : Int)) ∧
        ((t.wheel w).stage = .final ↔ c.t6 ≠ c.t5) ∧
        ((t.wheel w).stage = .rate ↔ c.t6 = c.t5 ∧ c.t5 ≠ c.t4) ∧
        ((t.wheel w).stage = .power ↔ c.t6 = c.t5 ∧ c.t5 = c.t4 ∧ c.t3 ≠ c.t2) ∧
        ((t.wheel w).stage = .envelope ↔
          c.t6 = c.t5 ∧ c.t5 = c.t4 ∧ c.t3 = c.t2 ∧ c.t2 ≠ c.t1) ∧
        ((t.wheel w).stage = .speed ↔
          c.t6 = c.t5 ∧ c.t5 = c.t4 ∧ c.t3 = c.t2 ∧ c.t2 = c.t1 ∧ c.t1 ≠ c.t0) ∧
        ((t.wheel w).stage = .none ↔
          c.t6 = c.t5 ∧ c.t5 = c.t4 ∧ c.t3 = c.t2 ∧ c.t2 = c.t1 ∧ c.t1 = c.t0))) ∧
    t.retard.causes = assistCauses t ∧
    t.retard.assist = assistLevel (assistCauses t)
      (min 1000 ((s.speed.v - t.torque.vmax) * s.param .assistGain)) ∧
    (∀ level : AssistCauses → Nat,
      (∀ c, level c = max (if c.trip then 1000 else 0) (max (if c.standstill then 1000 else 0)
        (max (if c.retardShort then
            min 1000 ((s.speed.v - t.torque.vmax) * s.param .assistGain) else 0)
          (max (if c.gradeShort then 500 else 0) (if c.linkHigh then 500 else 0))))) →
      t.retard.assist = level t.retard.causes) ∧
    (t.retard.causes.trip = true ↔ t.drive.state = .tripped) ∧
    (t.retard.causes.standstill = true ↔
      (t.drive.state = .hold ∨ t.drive.state = .starting) ∧ s.speed.v < 5) ∧
    (t.retard.causes.retardShort = true ↔
      t.torque.vmax < s.speed.v ∧ ∃ w : Wheel, (t.wheel w).retardBound = true) ∧
    (t.retard.causes.gradeShort = true ↔ s.retard.gradeShort = true) ∧
    (t.retard.causes.linkHigh = true ↔ s.gov.linkVoltage.active = true) ∧
    (u.retard.assist = 0 → t.retard.assist ≠ 0 → PendingOnBoth .brakeAssistOn t) ∧
    t = { s with
      torque := t.torque, grip := t.grip, drive := t.drive, ports := t.ports
      retard := { s.retard with assist := t.retard.assist, causes := t.retard.causes } }

/-- The demand lease (R75): it counts in READY alone, and its end is DEMAND_LOST and HOLD; said of command
steps at which no link falls SILENT. That DEMAND_LEASE_EXPIRY is the whole step, and nothing where it is
not due, is the model's choice (log entry 1). -/
def Obligations.DemandLease : Prop :=
  ∀ s : State, (∀ w : Wheel, (s.wheel w).silence ≠ 4) →
    (∀ r, s.drive.state = .ready → s.torque.lease = some r → 1 < r →
      ∃ t : State, exec .commandStep s = .next t ∧ t.torque.lease = some (r - 1) ∧
        t.torque.demand = s.torque.demand ∧ t.drive = s.drive ∧
        exec .demandLeaseExpiry s = .next s) ∧
    (s.drive.state = .ready → s.torque.lease = some 1 →
      ∃ t : State, exec .demandLeaseExpiry s = .next t ∧ exec .commandStep s = .next t ∧
        t.drive = { s.drive with
          state := .hold, hold := { HoldSet.empty with demandLost := true }, brakeApply := false } ∧
        t.torque.demand = none ∧ t.torque.lease = none ∧
        t.torque.steerDemand = s.torque.steerDemand ∧ t.torque.direction = s.torque.direction ∧
        (∀ w : Wheel, (t.wheel w).tprev ≤ 0) ∧ PendingOnBoth .holdEntered t) ∧
    (s.drive.state ≠ .ready →
      exec .demandLeaseExpiry s = .next s ∧
      ∃ t : State, exec .commandStep s = .next t ∧ t.torque.lease = s.torque.lease ∧
        t.torque.demand = s.torque.demand ∧ t.drive = s.drive)

/-- The silence count (R90), the mute it brings (R91) and the wheel-loss cause (R93). That INVERTER_SILENT
is the whole step, and nothing where it is not due, is the model's choice (log entry 1). -/
def Obligations.InverterSilence : Prop :=
  ∀ (w : Wheel) (s : State),
    ((s.wheel w).silence ≠ 4 → exec (.inverterSilent w) s = .next s) ∧
    ∃ t : State, exec .commandStep s = .next t ∧
      ((s.wheel w).silence < 4 → (t.wheel w).silence = (s.wheel w).silence + 1 ∧
        (t.wheel w).link = (s.wheel w).link ∧ (t.wheel w).mode = (s.wheel w).mode) ∧
      ((s.wheel w).silence = 5 → (t.wheel w).silence = 5 ∧
        (t.wheel w).link = (s.wheel w).link ∧ (t.wheel w).mode = (s.wheel w).mode) ∧
      ((s.wheel w).silence = 4 →
        exec (.inverterSilent w) s = .next t ∧ (t.wheel w).silence = 5 ∧
        (t.wheel w).link = .silent ∧ (t.wheel w).tprev = 0 ∧
        (t.wheel w).sent = ⟨0, s.torque.direction⟩ ∧
        ((s.wheel w).mode = .governed → (t.wheel w).mode = .mutedSilent) ∧
        ((s.wheel w).mode ≠ .governed → (t.wheel w).mode = (s.wheel w).mode) ∧
        ((s.wheel w).mode = .governed → (s.drive.state = .ready ∨ s.drive.state = .hold) →
          ((s.wheel w.other).mode = .governed → (s.wheel w.other).silence ≠ 4 →
            t.drive.state = .hold ∧ t.drive.hold.wheelLost = true ∧
            (s.drive.state = .ready → PendingOnBoth .holdEntered t)) ∧
          ((s.wheel w.other).mode ≠ .governed ∨ (s.wheel w.other).silence = 4 →
            t.drive.state = .tripped ∧ t.drive.trip = some .bothWheelsLost ∧
            t.drive.hold = .empty ∧ PendingOnBoth .tripped t)) ∧
        (s.drive.state ≠ .ready → s.drive.state ≠ .hold → t.drive = s.drive))

/-- An inverter message: the link and the count (R89), the mute and the return (R91, R92), and the
wheel-loss cause (R93). -/
def Obligations.InverterMessage : Prop :=
  ∀ (w : Wheel) (rpm : Nat) (fault : Bool) (s : State),
    ∃ t : State, exec (.inverterMessage w rpm fault) s = .next t ∧
      t.speed.rpm.get w = rpm ∧ (t.wheel w).silence = 0 ∧
      (t.wheel w).link = (if fault then .fault else .up) ∧
      (fault = false →
        (t.wheel w).mode =
          (if s.drive.state = .starting ∨ s.drive.state = .parked then .governed
            else (s.wheel w).mode) ∧
        (t.wheel w).tprev =
          (if (s.wheel w).mode ≠ .governed ∧
              (s.drive.state = .starting ∨ s.drive.state = .parked) then 0
            else (s.wheel w).tprev) ∧
        t.wheel w.other = s.wheel w.other ∧
        t = { s with
          speed := t.speed, torque := { s.torque with wheels := t.torque.wheels } }) ∧
      (fault = true →
        ((s.wheel w).mode ≠ .governed →
          (t.wheel w).mode = (s.wheel w).mode ∧ t.drive = s.drive ∧
          t.wheel w.other = s.wheel w.other) ∧
        ((s.wheel w).mode = .governed →
          (t.wheel w).mode = .mutedFault ∧ (t.wheel w).tprev = 0 ∧
          (t.wheel w).sent = ⟨0, s.torque.direction⟩ ∧
          (t.wheel w).history = (s.wheel w).history ∧
          ((s.drive.state = .ready ∨ s.drive.state = .hold) →
            ((s.wheel w.other).mode = .governed →
              t.drive = { s.drive with
                state := .hold
                brakeApply := if s.drive.state = .ready then false else s.drive.brakeApply
                hold := { (if s.drive.state = .ready then HoldSet.empty else s.drive.hold) with
                  wheelLost := true } } ∧
              (s.drive.state = .ready → PendingOnBoth .holdEntered t)) ∧
            ((s.wheel w.other).mode ≠ .governed →
              t.drive.state = .tripped ∧ t.drive.trip = some .bothWheelsLost ∧
              PendingOnBoth .tripped t)) ∧
          (s.drive.state ≠ .ready → s.drive.state ≠ .hold →
            t.drive = s.drive ∧ t.wheel w.other = s.wheel w.other)) ∧
        t = { s with
          speed := t.speed, torque := t.torque, drive := t.drive, ports := t.ports
          retard := { s.retard with assist := t.retard.assist, causes := t.retard.causes } })

/-- The adhesion record of a wheel at a command hand-over (R103), and the ends of its HOLD and SEARCH
dwells (R104); `u` is the state after the step's counts. That HOLD_DWELL_END and SEARCH_DWELL_END are the
whole step, and nothing where no dwell ends, is the model's choice (log entry 1). -/
def Obligations.DwellCounts : Prop :=
  ∀ (s : State) (w : Wheel), ∃ t u : State, u = silenceCounted (leaseCounted s) ∧
    exec .commandStep s = .next t ∧
    ∀ (g g' : Grip) (issued step asked : Nat) (ran : Prop), g = s.grip.get w → g' = t.grip.get w →
      issued = (t.wheel w).tprev.natAbs →
      step = s.param .wheelRated * s.param .searchStep / 1000 →
      (ran ↔ (u.drive.state = .ready ∨ u.drive.state = .hold) ∧ (u.wheel w).mode = .governed) →
      asked = (runChain u w (governedCount u.torque)).t2.natAbs →
      (s.speed.current ≠ some .front → s.speed.current ≠ some .sat → g' = g) ∧
      (g.state = .free ∨ g.state = .settled → g' = g) ∧
      (g' = g ∨ g.state ≠ .hold ∨ g.dwell + 1 < 100 → exec (.holdDwellEnd w) s = .next s) ∧
      (g' = g ∨ g.state ≠ .search ∨ g.dwell + 1 < 50 → exec (.searchDwellEnd w) s = .next s) ∧
      (s.speed.current = some .front ∨ s.speed.current = some .sat →
        (g.state = .hold → g.dwell + 1 < 100 →
          g' = { g with dwell := g.dwell + 1, sum := g.sum + issued }) ∧
        (g.state = .hold → 100 ≤ g.dwell + 1 →
          exec (.holdDwellEnd w) s = .next t ∧
          g'.best = g.ceiling ∧ g'.fbest = (g.sum + issued) / 100 ∧ g'.misses = 0 ∧
          (s.param .wheelRated ≤ g.ceiling + step →
            g'.state = .free ∧ g'.ceiling = s.param .wheelRated) ∧
          (g.ceiling + step < s.param .wheelRated →
            g'.state = .search ∧ g'.ceiling = g.ceiling + step ∧ g'.dwell = 0 ∧ g'.sum = 0)) ∧
        (g.state = .search → (¬ran ∨ asked < g.ceiling) → g' = g) ∧
        (g.state = .search → ran → g.ceiling ≤ asked → g.dwell + 1 < 50 →
          g' = { g with dwell := g.dwell + 1, sum := g.sum + issued }) ∧
        (g.state = .search → ran → g.ceiling ≤ asked → 50 ≤ g.dwell + 1 →
          exec (.searchDwellEnd w) s = .next t ∧
          (g.fbest + 5 < (g.sum + issued) / 50 →
            g'.best = g.ceiling ∧ g'.fbest = (g.sum + issued) / 50 ∧ g'.misses = 0) ∧
          ((g.sum + issued) / 50 ≤ g.fbest + 5 →
            g'.best = g.best ∧ g'.fbest = g.fbest ∧ g'.misses = g.misses + 1) ∧
          (s.param .lookBeyond < g'.misses →
            g'.state = .settled ∧ g'.ceiling = g'.best ∧ g'.reprobe = 0) ∧
          (g'.misses ≤ s.param .lookBeyond →
            (s.param .wheelRated ≤ g.ceiling + step →
              g'.state = .free ∧ g'.ceiling = s.param .wheelRated) ∧
            (g.ceiling + step < s.param .wheelRated →
              g'.state = .search ∧ g'.ceiling = g.ceiling + step ∧ g'.dwell = 0 ∧ g'.sum = 0))))

/-! ### Retarding (Chapter 7) -/

/-- Stages 1 to 5 of a capacity step on each grid and on the sums: the fault check (R114), capacity
(R115), demand (R116), allocation and duty (R117), heat (R118). A measured power above 4000 is taken as 4000:
the model's choice (log entry 22). -/
def Obligations.CapacityAndAllocation : Prop :=
  ∀ (i : CapacityIn) (s : State), ∃ t : State, exec (.capacityStep i) s = .next t ∧
    t.retard.pcap = (t.retard.grids.get .g1).cap + (t.retard.grids.get .g2).cap +
      (t.retard.grids.get .g3).cap + (t.retard.grids.get .g4).cap ∧
    (∀ pw : Wheel → Nat,
      (∀ w, pw w = ((s.wheel w).history.toList.map (fun x => (-x).toNat)).sum / 10 *
        max s.speed.v 30 * 1000 / (36 * s.param .tyreRadius)) →
      t.retard.preq = pw .left + pw .right) ∧
    ∀ (n : GridNo) (g g' : Grid) (fAlt hr full fCool : Nat), g = s.retard.grids.get n →
      g' = t.retard.grids.get n →
      fAlt = max 500 (1000 - s.param .altitude / 10) →
      hr = min 1000 ((s.param .thetaMax - g.theta) * 1000 / s.param .thetaBand) →
      full = s.param .gridRated * fAlt / 1000 * hr / 1000 →
      fCool = (if g'.running then fAlt else fAlt / 4) →
      (g.state = .off → g' = { g with cap := 0, alloc := 0, duty := 0 }) ∧
      (g.state ≠ .off →
        g'.running = (i.grids.get n).running ∧ g'.power = min 4000 (i.grids.get n).power ∧
        (g.state = .fault → g'.state = .fault ∧ g'.faults = g.faults) ∧
        (g.state = .ready → g.alloc < 100 ∨
            (g.alloc * 500 / 1000 ≤ g'.power ∧ g'.power ≤ g.alloc * 1500 / 1000) →
          g'.state = .ready ∧ g'.faults = 0) ∧
        (g.state = .ready → 100 ≤ g.alloc →
            (g'.power < g.alloc * 500 / 1000 ∨ g.alloc * 1500 / 1000 < g'.power) →
          (g.faults < 4 → g'.state = .ready ∧ g'.faults = g.faults + 1) ∧
          (4 ≤ g.faults → g'.state = .fault ∧ g'.faults = 5)) ∧
        (g'.state = .ready → g'.cap = if g'.running then full else full * 250 / 1000) ∧
        (g'.state = .fault → g'.cap = 0) ∧
        (t.retard.pcap = 0 → g'.alloc = 0) ∧
        (0 < t.retard.pcap → g'.alloc = min g'.cap (t.retard.preq * g'.cap / t.retard.pcap)) ∧
        g'.duty = min 1000 (g'.alloc * 1000 / s.param .gridRated) ∧
        (g'.theta : Int) = max 0 (min 8000 ((g.theta : Int) +
          (g'.alloc * s.param .gridHeat / 1000 : Nat) -
          (g.theta * s.param .gridCool * fCool / 10000000 : Nat))))

/-- Stage 6 of a capacity step: mass (R123), slope (R124), grade speed and its record (R125), and the
whole step's frame. -/
def Obligations.GradeSpeed : Prop :=
  ∀ (i : CapacityIn) (s : State), ∃ t : State, exec (.capacityStep i) s = .next t ∧
    (s.load.state = .invalid → t.retard.mass = s.param .gvmMax) ∧
    (s.load.state ≠ .invalid → t.retard.mass = s.param .emptyMass + s.load.value) ∧
    (∀ g, currentSegment s = some g → t.retard.slope =
      -(if (s.segs.heading = .along ↔ s.torque.direction = .forward) then g.grade else -g.grade) -
        g.rr) ∧
    (currentSegment s = none →
      t.retard.slope = (s.param .gradeWorst : Int) - s.param .rrDefault) ∧
    (t.retard.slope ≤ 0 → t.retard.grade = none ∧ t.retard.gradeShort = false ∧
      t.retard.vraw = 0 ∧ t.retard.vm = 0 ∧
      t.gov.gradeSpeed = { s.gov.gradeSpeed with active := false }) ∧
    (∀ slope : Nat, t.retard.slope = slope → 0 < slope →
      t.retard.vraw = t.retard.pcap * 36000000 / (t.retard.mass * 981 * slope) ∧
      t.retard.vm = t.retard.vraw * (1000 - s.param .gradeMargin) / 1000 ∧
      t.retard.grade = some (max 30 (min t.retard.vm (s.param .speedRated))) ∧
      t.gov.gradeSpeed = ⟨true, max 30 (min t.retard.vm (s.param .speedRated)), true⟩ ∧
      (t.retard.gradeShort = true ↔ t.retard.vraw < 30)) ∧
    t.gov = { s.gov with gradeSpeed := t.gov.gradeSpeed, linkVoltage := t.gov.linkVoltage } ∧
    (t.gov = s.gov → t.env = s.env) ∧ (t.gov ≠ s.gov → ResolvedFrom s.env.applied t) ∧
    t = { s with
      retard := t.retard, gov := t.gov, env := t.env, ports := t.ports, drive := t.drive
      torque := t.torque } ∧
    t.retard.sweep = s.retard.sweep

/-- The step that makes a grid FAULT (R121), and CLEAR_GRID_FAULT (R122). The model's choices: GRID_FAULT is
the whole capacity step, and nothing where the grid does not become FAULT (log entry 1), a measured power above 4000 is taken as 4000 (log entry 22), and the
figures of the fault step are kept (log entry 20). -/
def Obligations.GridFaultAndClear : Prop :=
  (∀ (n : GridNo) (i : CapacityIn) (s : State) (g : Grid), g = s.retard.grids.get n →
    g.state = .ready → 100 ≤ g.alloc → 4 ≤ g.faults →
    (min 4000 (i.grids.get n).power < g.alloc * 500 / 1000 ∨
      g.alloc * 1500 / 1000 < min 4000 (i.grids.get n).power) →
    ∃ t : State, exec (.gridFault n i) s = .next t ∧ exec (.capacityStep i) s = .next t ∧
      (t.retard.grids.get n).state = .fault ∧ (t.retard.grids.get n).faults = 5 ∧
      (t.retard.grids.get n).cap = 0 ∧ (t.retard.grids.get n).alloc = 0 ∧
      (t.retard.grids.get n).duty = 0 ∧ PendingOnBoth .gridFault t ∧
      (t.retard.grids.get n).faultAlloc = g.alloc ∧
      (t.retard.grids.get n).faultPower = min 4000 (i.grids.get n).power) ∧
  (∀ (n : GridNo) (i : CapacityIn) (s : State), ∃ t : State, exec (.capacityStep i) s = .next t ∧
    ((s.retard.grids.get n).state ≠ .ready ∨ (t.retard.grids.get n).state ≠ .fault →
      exec (.gridFault n i) s = .next s)) ∧
  (∀ (h : Hdr) (s : State), authorityOf h ≠ none →
    (s.drive.state = .parked →
      ∃ u : State, exec (.clearGridFault h 0) s = .next (u.exchanged h.link
          (doneAnswer h 0x50 (u8 ([GridNo.g1, .g2, .g3, .g4].countP
            (fun n => (s.retard.grids.get n).state == .fault))))) ∧
        (∀ n : GridNo, u.retard.grids.get n =
          if (s.retard.grids.get n).state = .fault
            then { s.retard.grids.get n with state := .ready, faults := 0 }
            else s.retard.grids.get n) ∧
        u = { s with retard := { s.retard with grids := u.retard.grids } }) ∧
    (∀ (grid : Byte) (n : GridNo), grid.toNat = n.num → (s.retard.grids.get n).state ≠ .off →
      s.drive.state = .parked →
      ∃ u : State, exec (.clearGridFault h grid) s = .next (u.exchanged h.link
          (doneAnswer h 0x50 (u8 ((s.retard.grids.get n).state == .fault).toNat))) ∧
        (u.retard.grids.get n = if (s.retard.grids.get n).state = .fault
            then { s.retard.grids.get n with state := .ready, faults := 0 }
            else s.retard.grids.get n) ∧
        (∀ m : GridNo, m ≠ n → u.retard.grids.get m = s.retard.grids.get m) ∧
        u = { s with retard := { s.retard with grids := u.retard.grids } }) ∧
    (∀ grid : Byte, (4 < grid.toNat ∨
        ∃ n : GridNo, grid.toNat = n.num ∧ (s.retard.grids.get n).state = .off) →
      exec (.clearGridFault h grid) s =
        .next (s.exchanged h.link (refusal h 0x50 .badValue))) ∧
    (∀ grid : Byte, grid.toNat ≤ 4 →
      (∀ n : GridNo, grid.toNat = n.num → (s.retard.grids.get n).state ≠ .off) →
      s.drive.state ≠ .parked →
      exec (.clearGridFault h grid) s = .next (s.exchanged h.link (refusal h 0x50 .state))))

/-- LINK_VOLTAGE at a capacity step: its four rows (R127), and the step at which it clears. The model's
choices: LINK_VOLTAGE_CLEAR is the whole step, and nothing where it is not due (log entry 1); a link voltage
above 4000 is taken as 4000 (log entry 22). -/
def Obligations.LinkVoltage : Prop :=
  ∀ (i : CapacityIn) (s : State), ∃ t : State, exec (.capacityStep i) s = .next t ∧
    ∀ volts high : Nat, volts = min 4000 i.volts → high = s.param .linkHigh → 50 ≤ high →
      t.retard.volts = volts ∧
      (s.gov.linkVoltage.active = false → high < volts →
        t.gov.linkVoltage = ⟨true, s.param .retardRated / 2, true⟩ ∧ t.retard.lowCount = 0) ∧
      (s.gov.linkVoltage.active = false → volts ≤ high →
        t.gov.linkVoltage = s.gov.linkVoltage ∧ exec (.linkVoltageClear i) s = .next s) ∧
      (s.gov.linkVoltage.active = true → high - 50 ≤ volts →
        t.gov.linkVoltage = ⟨true, s.param .retardRated / 2, true⟩ ∧ t.retard.lowCount = 0 ∧
        exec (.linkVoltageClear i) s = .next s) ∧
      (s.gov.linkVoltage.active = true → volts < high - 50 →
        (s.retard.lowCount < 9 →
          t.gov.linkVoltage = ⟨true, s.param .retardRated / 2, true⟩ ∧
          t.retard.lowCount = s.retard.lowCount + 1 ∧ exec (.linkVoltageClear i) s = .next s) ∧
        (9 ≤ s.retard.lowCount →
          exec (.linkVoltageClear i) s = .next t ∧ t.retard.lowCount = 0 ∧
          t.gov.linkVoltage = { s.gov.linkVoltage with active := false } ∧
          ResolvedFrom s.env.applied t))

/-- The overvoltage test: the trip cause is handed once per rise of the link above P_LINK_TRIP (R128,
R173). A link voltage above 4000 is taken as 4000: the model's choice (log entry 22). -/
def Obligations.Overvoltage : Prop :=
  ∀ (i : CapacityIn) (s : State), ∃ t : State, exec (.capacityStep i) s = .next t ∧
    ∀ volts : Nat, volts = min 4000 i.volts →
      (volts ≤ s.param .linkTrip → t.retard.overvolt = false ∧ t.drive = s.drive ∧
        t.torque = s.torque) ∧
      (s.param .linkTrip < volts → s.retard.overvolt = true → t.retard.overvolt = true ∧
        t.drive = s.drive ∧ t.torque = s.torque) ∧
      (s.param .linkTrip < volts → s.retard.overvolt = false → t.retard.overvolt = true ∧
        (s.drive.state ≠ .tripped →
          t.drive.state = .tripped ∧ t.drive.trip = some .linkOvervolt ∧
          t.drive.later = .empty ∧ t.drive.hold = .empty ∧ t.drive.timer = none ∧
          t.drive.applyCount = 0 ∧ t.retard.assist = 1000 ∧ PendingOnBoth .tripped t ∧
          (∀ w : Wheel, (t.wheel w).tprev = 0 ∧ (t.wheel w).sent.torque = 0)) ∧
        (s.drive.state = .tripped → s.drive.trip ≠ some .linkOvervolt →
          t.drive = { s.drive with later := { s.drive.later with linkOvervolt := true } } ∧
          t.torque = s.torque) ∧
        (s.drive.state = .tripped → s.drive.trip = some .linkOvervolt →
          t.drive = s.drive ∧ t.torque = s.torque))

/-- START_SWEEP (R132): AUTHORITY for OPERATOR and a claim that passes no check (R185), its checks and the
snapshot it takes; a sweep entry (R131, R133), the entry that
completes the sweep, and READ_SWEEP (R134). The model's choices: SWEEP_READY is that entry, and nothing where
it is not due (log entry 1); the rolling resistance of the answer has two bytes (log entry 6). -/
def Obligations.CapacitySweep : Prop :=
  (∀ (h : Hdr) (g0 gstep m0 mstep : Half) (s : State),
    authorityOf h = none ∨ authorityOf h = some .operator →
    exec (.startSweep h g0 gstep m0 mstep) s =
      .next (s.exchanged h.link (refusal h 0x51 .authority))) ∧
  (∀ (h : Hdr) (g0 gstep m0 mstep : Half) (a : Owner) (s : State) (good : Prop),
    authorityOf h = some a → a ≠ .operator →
    (good ↔ ∀ i : Fin 8,
      1 ≤ g0.toInt + i.val * gstep.toInt ∧ g0.toInt + i.val * gstep.toInt ≤ 200 ∧
      (s.param .emptyMass : Int) ≤ m0.toInt + i.val * mstep.toInt ∧
      m0.toInt + i.val * mstep.toInt ≤ s.param .gvmMax) →
    (¬good → exec (.startSweep h g0 gstep m0 mstep) s =
      .next (s.exchanged h.link (refusal h 0x51 .badValue))) ∧
    (good → (∃ j t, s.retard.sweep = .running j t) →
      exec (.startSweep h g0 gstep m0 mstep) s =
        .next (s.exchanged h.link (refusal h 0x51 .busy))) ∧
    (good → (∀ j t, s.retard.sweep ≠ .running j t) →
      ∃ rr : Nat, (∀ g, currentSegment s = some g → rr = g.rr) ∧
        (currentSegment s = none → rr = s.param .rrDefault) ∧
        exec (.startSweep h g0 gstep m0 mstep) s = .next
          ({ s with retard := { s.retard with
               sweep := .running ⟨s.retard.pcap, rr, s.param .gradeMargin, s.param .speedRated,
                 g0.toInt, gstep.toInt, m0.toInt, mstep.toInt, h.link⟩ [] } }.exchanged h.link
            (doneAnswer h 0x51 (u16 s.retard.pcap ++ u16 rr))))) ∧
  (∀ (j : SweepJob) (table : List SweepEntry) (s : State) (k : Nat),
    s.retard.sweep = .running j table → k = table.length →
    ∃ (e : SweepEntry) (t : State), exec .sweepEntry s = .next t ∧
      e.grade = j.g0 + (k / 8 : Nat) * j.gstep ∧ e.mass = j.m0 + (k % 8 : Nat) * j.mstep ∧
      (e.grade ≤ j.rr → e.vraw = 0 ∧ e.value = 0 ∧ e.marker = .noSlope) ∧
      (∀ slope mass : Nat, e.grade - j.rr = slope → 0 < slope → e.mass = mass →
        e.vraw = j.pcap * 36000000 / (mass * 981 * slope) ∧
        e.value = max 30 (min (e.vraw * (1000 - j.margin) / 1000) j.speedRated) ∧
        e.marker = if e.vraw < 30 then .short else .none) ∧
      (k < 63 → t = { s with retard := { s.retard with sweep := .running j (table ++ [e]) } } ∧
        exec .sweepReady s = .next s) ∧
      (63 ≤ k → t.retard.sweep = .ready j (table ++ [e]) 0 ∧
        (t.port j.link).pending &&& Attention.sweepReady.bit = Attention.sweepReady.bit ∧
        t = { s with
          retard := { s.retard with sweep := t.retard.sweep }
          ports := s.ports.set j.link { s.port j.link with
            pending := (s.port j.link).pending ||| Attention.sweepReady.bit } } ∧
        exec .sweepReady s = .next t)) ∧
  (∀ s : State, (∀ j table, s.retard.sweep ≠ .running j table) →
    exec .sweepEntry s = .next s ∧ exec .sweepReady s = .next s) ∧
  (∀ (h : Hdr) (s : State), authorityOf h ≠ none →
    (∀ (j : SweepJob) (table : List SweepEntry) (k : Nat) (e : SweepEntry),
      s.retard.sweep = .ready j table k → table[k]? = some e →
      exec (.readSweep h) s = .next
        ({ s with retard := { s.retard with sweep := .ready j table ((k + 1) % 64) } }.exchanged
          h.link (doneAnswer h 0x52
            (u8 k ++ s16 e.grade ++ s16 e.mass ++ u16 e.value ++ u8 e.marker.code)))) ∧
    ((∀ j table k, s.retard.sweep ≠ .ready j table k) →
      exec (.readSweep h) s = .next (s.exchanged h.link (refusal h 0x52 .notReady))))

/-! ### Steering (Chapter 8) -/

/-- The samples, limits and command of a steer step (R140, R142 to R144): each command differs from the
one before by at most the rate step, exceeds the angle limit only below the one before, and moves toward
the target of R143's table; the first is the measured angle, and it becomes the freeze angle of a
STEER_FAULT that has none. A step that moves nothing has no target: the
model's reading (log entry 28). -/
def Obligations.SteerCommand : Prop :=
  ∀ (i : SteerIn) (s : State), ∃ t : State, exec (.steerStep i) s = .next t ∧
    (i.angleLineGood = true ∧ -500 ≤ i.angle ∧ i.angle ≤ 500 → t.steer.measured = some i.angle) ∧
    (¬(i.angleLineGood = true ∧ -500 ≤ i.angle ∧ i.angle ≤ 500) → t.steer.measured = none) ∧
    (i.pressureLineGood = true ∧ 0 ≤ i.pressure ∧ i.pressure ≤ 3500 →
      t.steer.pressure = some i.pressure.toNat) ∧
    (¬(i.pressureLineGood = true ∧ 0 ≤ i.pressure ∧ i.pressure ≤ 3500) →
      t.steer.pressure = none) ∧
    t.steer.alim = min (s.eff .left .steerAngle) (curveAt s.steer.curve s.speed.v) ∧
    t.steer.rateStep = s.eff .left .steerRate / 20 ∧ t.steer.curve = s.steer.curve ∧
    (∀ (δ aim : Int), s.steer.command = some δ →
      (aim =
        if s.drive.state = .parked ∨ s.drive.state = .starting ∨ s.drive.state = .tripped then δ
        else if t.steer.fault = true then t.steer.freeze.getD δ
        else s.torque.steerDemand.getD δ) →
      ∃ δ' target : Int, t.steer.command = some δ' ∧ t.steer.target = some target ∧
        target = max (-(t.steer.alim : Int)) (min aim t.steer.alim) ∧
        δ' = δ + max (-(t.steer.rateStep : Int)) (min (target - δ) t.steer.rateStep) ∧
        (δ' - δ).natAbs ≤ t.steer.rateStep ∧
        (20 ≤ s.eff .left .steerRate → t.steer.alim < δ'.natAbs → δ'.natAbs < δ.natAbs)) ∧
    (s.steer.command = none → t.steer.target = none ∧ t.steer.command = t.steer.measured ∧
      (t.steer.fault = true → s.steer.fault = true → s.steer.freeze = none →
        t.steer.freeze = t.steer.measured)) ∧
    t = { s with
      steer := t.steer, env := t.env, drive := t.drive, torque := t.torque, ports := t.ports
      gov := { s.gov with steerReserve := t.gov.steerReserve, steerCurve := t.gov.steerCurve }
      retard := { s.retard with assist := t.retard.assist, causes := t.retard.causes } } ∧
    (t.gov = s.gov → t.env = s.env) ∧ (t.gov ≠ s.gov → ResolvedFrom s.env.applied t)

/-- The tracking fault is found (R147) and clears (R148); its freeze angle, set where the fault is found or
at the seeding step (R144), stands while the fault does; the flags and record of the accumulator
reserve (R149, R150); the conditions and the hold they bring (R172). That STEER_FAULT and STEER_FAULT_CLEAR
are the whole step, and nothing where they are not due, is the model's choice (log entry 1). -/
def Obligations.SteerFaultsAndReserve : Prop :=
  ∀ (i : SteerIn) (s : State) (within : Prop) (found clears : Prop) (p : Nat),
    (within ↔ i.angleLineGood = true ∧ -500 ≤ i.angle ∧ i.angle ≤ 500) →
    (found ↔ s.steer.fault = false ∧ (¬within ∨ (9 ≤ s.steer.errors ∧
      ∃ δ, s.steer.command = some δ ∧ s.param .steerTrackErr < (i.angle - δ).natAbs))) →
    (clears ↔ s.steer.fault = true ∧ within ∧ 9 ≤ s.steer.recovery ∧
      ∃ δ, s.steer.command = some δ ∧ (i.angle - δ).natAbs ≤ s.param .steerTrackErr) →
    (p = if i.pressureLineGood = true ∧ 0 ≤ i.pressure ∧ i.pressure ≤ 3500 then i.pressure.toNat
      else 0) →
    ∃ t : State, exec (.steerStep i) s = .next t ∧
      (found → exec (.steerFault i) s = .next t ∧ t.steer.fault = true ∧ t.steer.errors = 0 ∧
        t.steer.recovery = 0 ∧ t.drive.conditions.steerFault = true ∧
        (∀ δ, s.steer.command = some δ →
          (within → t.steer.freeze = some i.angle) ∧ (¬within → t.steer.freeze = some δ)) ∧
        (s.steer.command = none → t.steer.freeze = none) ∧
        (s.drive.state = .ready ∨ s.drive.state = .hold →
          t.drive.state = .hold ∧ t.drive.hold.steerFault = true) ∧
        (s.drive.state = .ready → PendingOnBoth .holdEntered t)) ∧
      (clears → exec (.steerFaultClear i) s = .next t ∧ t.steer.fault = false ∧
        t.steer.recovery = 0 ∧ t.steer.freeze = none ∧ t.drive.conditions.steerFault = false ∧
        (s.drive.state = .hold → t.drive.state = .hold ∧
          (s.drive.hold.steerFault = true → t.drive.hold.steerFault = true))) ∧
      (¬found → s.steer.fault = false → t.steer.fault = false ∧
        exec (.steerFault i) s = .next s ∧
        (∀ δ, s.steer.command = some δ → s.param .steerTrackErr < (i.angle - δ).natAbs →
          t.steer.errors = s.steer.errors + 1) ∧
        (∀ δ, s.steer.command = some δ → (i.angle - δ).natAbs ≤ s.param .steerTrackErr →
          t.steer.errors = 0) ∧
        (within → s.steer.command = none → t.steer.errors = 0) ∧
        t.steer.recovery = s.steer.recovery ∧ t.steer.freeze = s.steer.freeze) ∧
      (s.steer.fault = true → exec (.steerFault i) s = .next s) ∧
      (s.steer.fault = false → exec (.steerFaultClear i) s = .next s) ∧
      (¬clears → s.steer.fault = true → t.steer.fault = true ∧
        exec (.steerFaultClear i) s = .next s ∧
        (∀ δ, s.steer.command = some δ → within →
          (i.angle - δ).natAbs ≤ s.param .steerTrackErr → t.steer.recovery = s.steer.recovery + 1) ∧
        (¬within ∨ s.steer.command = none ∨
            (∃ δ, s.steer.command = some δ ∧ s.param .steerTrackErr < (i.angle - δ).natAbs) →
          t.steer.recovery = 0) ∧
        t.steer.errors = s.steer.errors ∧
        (∀ f, s.steer.freeze = some f → t.steer.freeze = some f) ∧
        (s.steer.freeze = none →
          (s.steer.command = none → within → t.steer.freeze = some i.angle) ∧
          (s.steer.command ≠ none ∨ ¬within → t.steer.freeze = none))) ∧
      (t.steer.low = true ↔ p < s.param .steerLow ∨
        (s.steer.low = true ∧ p < s.param .steerLow + 50)) ∧
      (t.steer.crit = true ↔ p < s.param .steerCrit ∨
        (s.steer.crit = true ∧ p < s.param .steerCrit + 50)) ∧
      t.gov.steerReserve = (if t.steer.low = true then ⟨true, s.param .steerReserveSpeed, true⟩
        else { s.gov.steerReserve with active := false }) ∧
      (s.steer.crit = false → t.steer.crit = true → t.drive.conditions.steerCrit = true ∧
        (s.drive.state = .ready ∨ s.drive.state = .hold →
          t.drive.state = .hold ∧ t.drive.hold.steerCrit = true)) ∧
      (s.steer.crit = true → t.steer.crit = false → t.drive.conditions.steerCrit = false) ∧
      (s.steer.crit = t.steer.crit → s.steer.fault = t.steer.fault →
        t.drive = s.drive ∧ t.torque = s.torque ∧ t.ports = s.ports)

/-- The steer curve between its points (R141), STEER_CURVE from the command (R146), and
SET_STEER_POINT (R151), AUTHORITY for all but DISPATCH and SAFETY (R185). That a point's present figures are BAD_VALUE when its angle is above a lowered
P_STEER_ANGLE_RATED is the model's reading (log entry 27). -/
def Obligations.SteerCurveAndPoints : Prop :=
  (∀ (curve : Vector CurvePoint 8) (v : Nat), CurveInOrder curve →
    (∀ k : Fin 7, (curve.get k.castSucc).speed ≤ v → v ≤ (curve.get k.succ).speed →
      curveAt curve v = (curve.get k.castSucc).angle - (v - (curve.get k.castSucc).speed) *
        ((curve.get k.castSucc).angle - (curve.get k.succ).angle) /
          ((curve.get k.succ).speed - (curve.get k.castSucc).speed)) ∧
    ((curve.get 7).speed ≤ v → curveAt curve v = (curve.get 7).angle)) ∧
  (∀ (i : SteerIn) (s : State), CurveInOrder s.steer.curve → ∃ t : State,
    exec (.steerStep i) s = .next t ∧
    (t.steer.command = none → t.gov.steerCurve = { s.gov.steerCurve with active := false }) ∧
    ∀ (δ : Int) (d : Nat), t.steer.command = some δ → d = δ.natAbs →
      (d ≤ (s.steer.curve.get 7).angle →
        t.gov.steerCurve = { s.gov.steerCurve with active := false }) ∧
      ((s.steer.curve.get 0).angle < d → t.gov.steerCurve = ⟨true, 0, true⟩) ∧
      ((s.steer.curve.get 7).angle < d → ∀ (k : Fin 7) (p q : CurvePoint),
        p = s.steer.curve.get k.castSucc → q = s.steer.curve.get k.succ → d ≤ p.angle →
        q.angle ≤ d → (∀ j : Fin 7, k < j → (s.steer.curve.get j.castSucc).angle < d) →
        t.gov.steerCurve = ⟨true, if p.angle = q.angle then q.speed
          else p.speed + (p.angle - d) * (q.speed - p.speed) / (p.angle - q.angle), true⟩)) ∧
  (∀ (h : Hdr) (k : Byte) (speed angle : Half) (s : State), authorityOf h ≠ some .dispatch →
    authorityOf h ≠ some .safety → exec (.setSteerPoint h k speed angle) s =
      .next (s.exchanged h.link (refusal h 0x58 .authority))) ∧
  (∀ (h : Hdr) (k : Byte) (speed angle : Half) (a : Owner) (s : State), authorityOf h = some a →
    (a = .dispatch ∨ a = .safety) →
    (7 < k.toNat ∨ 640 < speed.toNat ∨ 450 < angle.toNat →
      exec (.setSteerPoint h k speed angle) s =
        .next (s.exchanged h.link (refusal h 0x58 .badValue))) ∧
    (∀ (n : Fin 8) (good : Prop), k.toNat = n.val → speed.toNat ≤ 640 → angle.toNat ≤ 450 →
      (good ↔ (n = 0 → speed = 0) ∧ angle.toNat ≤ s.param .steerAngleRated ∧
        (∀ m : Fin 8, m.val + 1 = n.val → (s.steer.curve.get m).speed < speed.toNat ∧
          angle.toNat ≤ (s.steer.curve.get m).angle) ∧
        (∀ m : Fin 8, n.val + 1 = m.val → speed.toNat < (s.steer.curve.get m).speed ∧
          (s.steer.curve.get m).angle ≤ angle.toNat)) →
      (s.drive.state ≠ .parked → exec (.setSteerPoint h k speed angle) s =
        .next (s.exchanged h.link (refusal h 0x58 .state))) ∧
      (s.drive.state = .parked → ¬good → exec (.setSteerPoint h k speed angle) s =
        .next (s.exchanged h.link (refusal h 0x58 .badValue))) ∧
      (s.drive.state = .parked → good → exec (.setSteerPoint h k speed angle) s =
        .next ({ s with steer := { s.steer with
            curve := s.steer.curve.set n.val ⟨speed.toNat, angle.toNat⟩ } }.exchanged h.link
          (doneAnswer h 0x58 (u8 n.val ++ u16 speed.toNat ++ u16 angle.toNat))))))

/-! ### Load and heat (Chapter 9) -/

/-- The payload states at a load window (R158 to R162), and the window at which a latch ends. The model's
choices: LATCH_END is the whole window, and nothing where it is not due (log entry 1); a figure of R158
above R156's 30 000 gives the sample 30 000 (log entry 21). -/
def Obligations.PayloadStates : Prop :=
  ∀ (p : Four Nat) (s : State) (stand good : Prop) (x : Nat),
    (stand ↔ s.speed.current.isSome = true ∧ s.speed.v < 50) →
    (good ↔ ∀ n : GridNo, 1 ≤ p.get n ∧ p.get n ≤ 3999) →
    x = min 30000
      ((p.get .g1 + p.get .g2 + p.get .g3 + p.get .g4) * s.param .strutArea / 981) →
    ∃ (t : State) (takes : List Nat → Prop) (kept : Prop), exec (.loadWindow p) s = .next t ∧
      (∀ l, takes l ↔ t.load.samples = (if 16 ≤ l.length then l.drop 1 else l) ++ [x] ∧
        t.load.value = min 4000 (t.load.samples.sum / t.load.samples.length - s.load.tare) ∧
        ∀ r, r = t.load.value * 1000 / s.param .ratedPayload →
          t.load.cls = (if r ≤ 1000 then .normal else if r ≤ 1100 then .over1
            else if r ≤ 1200 then .over2 else .over3)) ∧
      (kept ↔ t.load.value = s.load.value ∧ t.load.cls = s.load.cls) ∧
      t.load.struts = p ∧ t.load.tare = s.load.tare ∧
      (¬good → t.load.strutFault = true) ∧
      (s.load.state ≠ .latched → exec (.latchEnd p) s = .next s) ∧
      (s.load.state = .measuring →
        (good → t.load.strutFault = s.load.strutFault) ∧
        (¬stand → t.load.state = .latched ∧ t.load.lowSpeed = 0 ∧
          t.load.samples = s.load.samples ∧ kept) ∧
        (stand → good → t.load.state = .measuring ∧ takes s.load.samples) ∧
        (stand → ¬good → t.load.state = .invalid ∧ t.load.samples = [] ∧ kept)) ∧
      (s.load.state = .latched →
        (good → t.load.strutFault = s.load.strutFault) ∧
        (¬stand → t.load.state = .latched ∧ t.load.lowSpeed = 0 ∧
          t.load.samples = s.load.samples ∧ kept ∧ exec (.latchEnd p) s = .next s) ∧
        (stand → s.load.lowSpeed < 29 → t.load.state = .latched ∧
          t.load.lowSpeed = s.load.lowSpeed + 1 ∧ t.load.samples = s.load.samples ∧ kept ∧
          exec (.latchEnd p) s = .next s) ∧
        (stand → 29 ≤ s.load.lowSpeed → exec (.latchEnd p) s = .next t ∧
          (t.load.strutFault = true → t.load.state = .invalid ∧ t.load.samples = [] ∧ kept) ∧
          (t.load.strutFault = false → t.load.state = .measuring ∧ takes []))) ∧
      (s.load.state = .invalid →
        (stand → good → t.load.state = .measuring ∧ t.load.strutFault = false ∧
          takes s.load.samples) ∧
        (¬stand ∨ ¬good → t.load.state = .invalid ∧ t.load.samples = s.load.samples ∧ kept) ∧
        (¬stand → good → t.load.strutFault = s.load.strutFault)) ∧
      (t.load.cls ≠ s.load.cls →
        (t.load.cls = .over1 ∨ t.load.cls = .over2 ∨ t.load.cls = .over3) →
        PendingOnBoth .payloadClass t) ∧
      ((t.load.cls = s.load.cls ∨ t.load.cls = .normal) → t.ports = s.ports)

/-- The four records of a load window (R163, R166), the heat index (R165), the window's frame, and TARE
(R164), AUTHORITY for all but DISPATCH and SAFETY (R185). That the DORMANT rows of the payload records also
take in a class NONE outside INVALID, which no run reaches, is the model's reading (log entry 32). -/
def Obligations.PayloadRecordsHeatAndTare : Prop :=
  (∀ (p : Four Nat) (s : State), ∃ t : State, exec (.loadWindow p) s = .next t ∧
    t.gov.payloadSpeed =
      (if t.load.state = .invalid then ⟨true, 300, true⟩
        else if t.load.cls = .over2 then ⟨true, 160, true⟩
        else if t.load.cls = .over3 then ⟨true, 50, true⟩
        else { s.gov.payloadSpeed with active := false }) ∧
    t.gov.payloadTorque =
      (if t.load.state ≠ .invalid ∧ t.load.cls = .over3
        then ⟨true, s.param .propelRated * 300 / 1000, true⟩
        else { s.gov.payloadTorque with active := false }) ∧
    (∀ (w : Wheel) (tm x hot : Nat) (g : Gov),
      tm = ((s.wheel w).history.toList.map Int.natAbs).sum / 10 →
      x = tm * tm * 1000 / (s.param .motorCont * s.param .motorCont) →
      hot = t.load.heat.get w → g = (match w with | .left => .motorLeft | .right => .motorRight) →
      (hot : Int) = max 0 (min ((s.load.heat.get w : Int) +
        Int.tdiv (((x : Int) - 1000) * s.param .motorHeatGain) 1000) 12000) ∧
      (10000 ≤ hot → t.gov.get g = ⟨true, s.param .motorCont * 9 / 10, true⟩) ∧
      (8000 ≤ hot → hot < 10000 → (t.gov.get g).active = true ∧
        ((t.gov.get g).value : Int) = max 0 (min ((s.param .wheelRated : Int) -
          Int.tdiv (((s.param .wheelRated : Int) - s.param .motorCont) * ((hot : Int) - 8000))
            2000) 900)) ∧
      (7500 ≤ hot → hot < 8000 → (s.gov.get g).active = true →
        t.gov.get g = ⟨true, s.param .wheelRated, true⟩) ∧
      ((hot < 7500 ∨ ((s.gov.get g).active = false ∧ hot < 8000)) →
        t.gov.get g = { s.gov.get g with active := false })) ∧
    (t.gov = s.gov → t.env = s.env) ∧ (t.gov ≠ s.gov → ResolvedFrom s.env.applied t) ∧
    t = { s with
      load := t.load, env := t.env, ports := t.ports
      gov := { s.gov with
        payloadSpeed := t.gov.payloadSpeed, payloadTorque := t.gov.payloadTorque
        motorLeft := t.gov.motorLeft, motorRight := t.gov.motorRight } }) ∧
  (∀ (h : Hdr) (s : State), authorityOf h ≠ some .dispatch → authorityOf h ≠ some .safety →
    exec (.tare h) s = .next (s.exchanged h.link (refusal h 0x5C .authority))) ∧
  (∀ (h : Hdr) (a : Owner) (s : State), authorityOf h = some a → (a = .dispatch ∨ a = .safety) →
    (s.drive.state ≠ .parked →
      exec (.tare h) s = .next (s.exchanged h.link (refusal h 0x5C .state))) ∧
    (s.drive.state = .parked → (s.load.state ≠ .measuring ∨ s.load.samples = []) →
      exec (.tare h) s = .next (s.exchanged h.link (refusal h 0x5C .notReady))) ∧
    (∀ mean : Nat, s.drive.state = .parked → s.load.state = .measuring → s.load.samples ≠ [] →
      mean = s.load.samples.sum / s.load.samples.length →
      exec (.tare h) s = .next ({ s with load := { s.load with tare := mean } }.exchanged h.link
        (doneAnswer h 0x5C (u16 mean ++ u8 s.load.samples.length)))))

/-! ### Drive states (Chapter 10) -/

/-- PARK (R174) and CLEAR_HOLD (R177): their checks and what they leave, with the wheels returned by
R92. -/
def Obligations.ParkAndClearHold : Prop :=
  ∀ (h : Hdr) (a : Owner) (s : State) (mine : Prop), authorityOf h = some a →
    (mine ↔ a = .safety ∨ (s.drive.mode = .manned ∧ a = .operator) ∨
      (s.drive.mode = .autonomous ∧ a = .autonomy)) →
    (¬mine → exec (.park h) s = .next (s.exchanged h.link (refusal h 0x41 .notOwner)) ∧
      exec (.clearHold h) s = .next (s.exchanged h.link (refusal h 0x43 .notOwner))) ∧
    (mine →
      ((s.drive.state = .tripped ∨ s.drive.state = .starting) →
        exec (.park h) s = .next (s.exchanged h.link (refusal h 0x41 .state))) ∧
      (s.drive.state ≠ .tripped → s.drive.state ≠ .starting → 5 ≤ s.speed.v →
        exec (.park h) s = .next (s.exchanged h.link (refusal h 0x41 .moving))) ∧
      (s.drive.state = .parked → s.speed.v < 5 →
        exec (.park h) s = .next (s.exchanged h.link (doneAnswer h 0x41 (u8 1)))) ∧
      ((s.drive.state = .ready ∨ s.drive.state = .hold ∨ s.drive.state = .releasing) →
        s.speed.v < 5 → ∃ u : State,
          exec (.park h) s = .next (u.exchanged h.link (doneAnswer h 0x41 (u8 1))) ∧
          u.drive = { s.drive with
            state := .parked, hold := .empty, brakeApply := true
            timer := if s.drive.state = .releasing then none else s.drive.timer
            outcome := if s.drive.state = .releasing then .aborted else s.drive.outcome } ∧
          u.torque.demand = none ∧ u.torque.lease = none ∧
          (∀ w : Wheel, (u.wheel w).tprev = 0 ∧ (u.wheel w).sent = ⟨0, s.torque.direction⟩ ∧
            (u.wheel w).mode = (if (s.wheel w).link = .up then .governed else (s.wheel w).mode)) ∧
          u = { s with
            drive := u.drive, ports := u.ports
            torque := { s.torque with demand := none, lease := none, wheels := u.torque.wheels }
            retard := { s.retard with assist := u.retard.assist, causes := u.retard.causes } }) ∧
      (s.drive.state ≠ .hold →
        exec (.clearHold h) s = .next (s.exchanged h.link (refusal h 0x43 .state))) ∧
      (s.drive.state = .hold → 5 ≤ s.speed.v →
        exec (.clearHold h) s = .next (s.exchanged h.link (refusal h 0x43 .moving))) ∧
      (∀ stands : Prop, (stands ↔ s.drive.conditions.steerFault = true ∨
          s.drive.conditions.steerCrit = true ∨
          (∃ w : Wheel, (s.wheel w).mode ≠ .governed ∧ (s.wheel w).link ≠ .up) ∨
          (s.drive.hold.safetyHold = true ∧ a ≠ .safety)) →
        s.drive.state = .hold → s.speed.v < 5 →
        (stands → exec (.clearHold h) s = .next (s.exchanged h.link (refusal h 0x43 .state))) ∧
        (¬stands → ∃ u : State,
          exec (.clearHold h) s = .next (u.exchanged h.link (doneAnswer h 0x43 (u8 3))) ∧
          u.drive = { s.drive with state := .ready, hold := .empty, brakeApply := false } ∧
          (∀ w : Wheel, u.wheel w = if (s.wheel w).mode = .governed then s.wheel w
            else { s.wheel w with mode := .governed, tprev := 0 }) ∧
          u = { s with
            drive := u.drive, ports := u.ports
            torque := { s.torque with
              demand := none, lease := some 25, wheels := u.torque.wheels }
            retard := { s.retard with assist := u.retard.assist, causes := u.retard.causes } })))

/-- UNPARK (R175) and the ways RELEASING ends by the input and by the timer (R176), with the wheel-loss
cause of the entry (R93). The model's choices: RELEASE_TIMEOUT acts in RELEASING at whatever count and is
nothing elsewhere (log entry 2); an input without a change does nothing (log entry 36). -/
def Obligations.UnparkAndRelease : Prop :=
  (∀ (h : Hdr) (a : Owner) (s : State), authorityOf h = some a → a ≠ .safety →
    ¬(s.drive.mode = .manned ∧ a = .operator) → ¬(s.drive.mode = .autonomous ∧ a = .autonomy) →
    exec (.unpark h) s = .next (s.exchanged h.link (refusal h 0x42 .notOwner))) ∧
  (∀ (h : Hdr) (a : Owner) (s : State), authorityOf h = some a →
    (a = .safety ∨ (s.drive.mode = .manned ∧ a = .operator) ∨
      (s.drive.mode = .autonomous ∧ a = .autonomy)) →
    (s.drive.state = .releasing →
      exec (.unpark h) s = .next (s.exchanged h.link (refusal h 0x42 .busy))) ∧
    (s.drive.state ≠ .releasing → s.drive.state ≠ .parked →
      exec (.unpark h) s = .next (s.exchanged h.link (refusal h 0x42 .state))) ∧
    (s.drive.state = .parked → (s.speed.current = none ∨ s.drive.conditions.steerCrit = true) →
      exec (.unpark h) s = .next (s.exchanged h.link (refusal h 0x42 .notReady))) ∧
    (s.drive.state = .parked → s.speed.current ≠ none → s.drive.conditions.steerCrit = false →
      ∃ u : State, exec (.unpark h) s = .next (u.exchanged h.link (doneAnswer h 0x42 (u8 2))) ∧
        u.drive = { s.drive with
          state := .releasing, timer := some 2000, outcome := .none, brakeApply := false } ∧
        (∀ w : Wheel, u.wheel w = { s.wheel w with
          tprev := 0, sent := ⟨0, s.torque.direction⟩ }) ∧
        u = { s with
          drive := u.drive, ports := u.ports
          torque := { s.torque with demand := none, lease := none, wheels := u.torque.wheels }
          retard := { s.retard with assist := u.retard.assist, causes := u.retard.causes } })) ∧
  (∀ (released : Bool) (s : State),
    (s.drive.brakeReleased = released → exec (.brakeReleasedInput released) s = .next s) ∧
    (s.drive.brakeReleased ≠ released → (released = false ∨ s.drive.state ≠ .releasing) →
      exec (.brakeReleasedInput released) s =
        .next { s with drive := { s.drive with brakeReleased := released } })) ∧
  (∀ s : State, s.drive.state = .releasing → s.drive.brakeReleased = false →
    ∃ t : State, exec (.brakeReleasedInput true) s = .next t ∧ t.drive.timer = none ∧
      t.drive.brakeReleased = true ∧
      ((∀ w : Wheel, (s.wheel w).mode = .governed) → s.drive.conditions = ⟨false, false⟩ →
        t.drive.state = .ready ∧ t.drive.outcome = .released ∧ t.drive.hold = s.drive.hold ∧
        t.drive.brakeApply = false ∧ t.torque.demand = none ∧ t.torque.lease = some 25) ∧
      ((∀ w : Wheel, (s.wheel w).mode = .governed) → s.drive.conditions ≠ ⟨false, false⟩ →
        t.drive.state = .hold ∧ t.drive.outcome = .released ∧
        t.drive.hold = { HoldSet.empty with
          steerFault := s.drive.conditions.steerFault
          steerCrit := s.drive.conditions.steerCrit } ∧ PendingOnBoth .holdEntered t) ∧
      (∀ w : Wheel, (s.wheel w).mode ≠ .governed → (s.wheel w.other).mode = .governed →
        t.drive.state = .hold ∧ t.drive.outcome = .released ∧
        t.drive.hold = { HoldSet.empty with
          wheelLost := true
          steerFault := s.drive.conditions.steerFault
          steerCrit := s.drive.conditions.steerCrit } ∧ PendingOnBoth .holdEntered t) ∧
      ((∀ w : Wheel, (s.wheel w).mode ≠ .governed) →
        t.drive.state = .tripped ∧ t.drive.trip = some .bothWheelsLost ∧
        PendingOnBoth .tripped t)) ∧
  (∀ s : State, (s.drive.state ≠ .releasing → exec .releaseTimeout s = .next s) ∧
    (s.drive.state = .releasing → ∃ t : State, exec .releaseTimeout s = .next t ∧
      t.drive = { s.drive with
        state := .parked, hold := .empty, timer := none, outcome := .releaseTimeout
        brakeApply := true } ∧
      t.torque.demand = none ∧ t.torque.lease = none ∧
      (∀ w : Wheel, (t.wheel w).tprev = 0 ∧
        (t.wheel w).mode = (if (s.wheel w).link = .up then .governed else (s.wheel w).mode)) ∧
      t = { s with
        drive := t.drive, torque := t.torque, ports := t.ports
        retard := { s.retard with assist := t.retard.assist, causes := t.retard.causes } }))

/-- SAFETY_HOLD and TRIP (R178, R173), RESET_TRIP (R179) and SET_CONTROL_MODE (R180), each AUTHORITY for the
senders that R185 does not list. The model's choices:
the 0 message at an entry to HOLD goes by Tprev (log entry 35), an entry to TRIPPED from STARTING clears the
restart trip mark (log entry 39), and SET_CONTROL_MODE answers drive state and mode (log entry 9). -/
def Obligations.SafetyRequestsAndMode : Prop :=
  (∀ (h : Hdr) (s : State), authorityOf h = some .safety →
    (s.drive.state ≠ .ready → s.drive.state ≠ .hold →
      exec (.safetyHold h) s = .next (s.exchanged h.link (refusal h 0x44 .state))) ∧
    (s.drive.state = .hold → exec (.safetyHold h) s =
      .next ({ s with drive := { s.drive with
          hold := { s.drive.hold with safetyHold := true } } }.exchanged h.link
        (doneAnswer h 0x44 (u8 4)))) ∧
    (s.drive.state = .ready → ∃ u : State,
      exec (.safetyHold h) s = .next (u.exchanged h.link (doneAnswer h 0x44 (u8 4))) ∧
      u.drive = { s.drive with
        state := .hold, hold := { HoldSet.empty with safetyHold := true }, brakeApply := false } ∧
      u.torque.demand = none ∧ u.torque.lease = none ∧
      (∀ w : Wheel, u.wheel w = if 0 < (s.wheel w).tprev
        then { s.wheel w with tprev := 0, sent := ⟨0, s.torque.direction⟩ } else s.wheel w) ∧
      PendingOnBoth .holdEntered u ∧
      (s.speed.v < 5 → u.retard.assist = 1000)) ∧
    (s.drive.state ≠ .tripped → ∃ u : State,
      exec (.trip h) s = .next (u.exchanged h.link (doneAnswer h 0x45 (u8 5))) ∧
      u.drive = { s.drive with
        state := .tripped, trip := some TripCause.trip, later := .empty, hold := .empty, timer := none
        outcome := if s.drive.state = .releasing then .aborted else s.drive.outcome
        applyCount := 0, brakeApply := decide (s.speed.v < 5)
        tripMark := s.drive.tripMark && s.drive.state != .starting } ∧
      u.torque.demand = none ∧ u.torque.lease = none ∧ u.retard.assist = 1000 ∧
      PendingOnBoth .tripped u ∧
      (∀ w : Wheel, u.wheel w = { s.wheel w with
        tprev := 0, sent := ⟨0, s.torque.direction⟩ })) ∧
    (s.drive.state = .tripped → exec (.trip h) s = .next
      ({ s with drive := { s.drive with
          later := if s.drive.trip = some TripCause.trip then s.drive.later
            else { s.drive.later with trip := true } } }.exchanged h.link
        (doneAnswer h 0x45 (u8 5)))) ∧
    (s.drive.state ≠ .tripped →
      exec (.resetTrip h) s = .next (s.exchanged h.link (refusal h 0x46 .state))) ∧
    (s.drive.state = .tripped → 5 ≤ s.speed.v →
      exec (.resetTrip h) s = .next (s.exchanged h.link (refusal h 0x46 .moving))) ∧
    (s.drive.state = .tripped → s.speed.v < 5 → s.retard.overvolt = true →
      exec (.resetTrip h) s = .next (s.exchanged h.link (refusal h 0x46 .notReady))) ∧
    (s.drive.state = .tripped → s.speed.v < 5 → s.retard.overvolt = false → ∃ u : State,
      exec (.resetTrip h) s = .next (u.exchanged h.link (doneAnswer h 0x46 (u8 1))) ∧
      u.drive = { s.drive with state := .parked, hold := .empty, brakeApply := true } ∧
      u.torque.demand = none ∧ u.torque.lease = none ∧
      (∀ w : Wheel, (u.wheel w).tprev = 0 ∧
        (u.wheel w).mode = (if (s.wheel w).link = .up then .governed else (s.wheel w).mode)))) ∧
  (∀ (h : Hdr) (a : Owner) (s : State), authorityOf h = some a → a ≠ .safety →
    exec (.safetyHold h) s = .next (s.exchanged h.link (refusal h 0x44 .authority)) ∧
    exec (.trip h) s = .next (s.exchanged h.link (refusal h 0x45 .authority)) ∧
    exec (.resetTrip h) s = .next (s.exchanged h.link (refusal h 0x46 .authority))) ∧
  (∀ (h : Hdr) (mode : Byte) (s : State), authorityOf h ≠ some .operator →
    authorityOf h ≠ some .safety → exec (.setControlMode h mode) s =
      .next (s.exchanged h.link (refusal h 0x47 .authority))) ∧
  (∀ (h : Hdr) (mode : Byte) (a : Owner) (s : State), authorityOf h = some a →
    (a = .operator ∨ a = .safety) →
    (modeOfCode mode = none → exec (.setControlMode h mode) s =
      .next (s.exchanged h.link (refusal h 0x47 .badValue))) ∧
    (∀ m, modeOfCode mode = some m →
      (s.drive.state ≠ .parked → exec (.setControlMode h mode) s =
        .next (s.exchanged h.link (refusal h 0x47 .state))) ∧
      (s.drive.state = .parked → exec (.setControlMode h mode) s =
        .next ({ s with drive := { s.drive with mode := m } }.exchanged h.link
          (doneAnswer h 0x47 [1, mode])))))

/-! ### The whole machine -/

/-- What changes only where the rules let it: the queue never, restarts included (the model's choice, log
entry 33); parameters, control mode and steer curve in PARKED or at a cold restart (R151, R180, R190);
READY is entered by the input in RELEASING or by
CLEAR_HOLD alone (R172, R176, R177); TRIPPED is left by RESET_TRIP or a restart alone (R179, R181);
the payload stands at 5 km/h and above (R159). -/
def Obligations.WhatChangesWhere : Prop :=
  ∀ (i : Instr) (s t : State), exec i s = .next t →
    t.pending = s.pending ∧
    ((t.params ≠ s.params ∨ t.drive.mode ≠ s.drive.mode ∨ t.steer.curve ≠ s.steer.curve) →
      s.drive.state = .parked ∨ ColdRestartBy i) ∧
    (t.straps ≠ s.straps → ColdRestartBy i) ∧
    (s.drive.state ≠ .ready → t.drive.state = .ready →
      (s.drive.state = .releasing ∧ i = .brakeReleasedInput true) ∨
        (s.drive.state = .hold ∧ s.speed.v < 5 ∧ ∃ h, i = .clearHold h)) ∧
    (s.drive.state = .tripped → t.drive.state ≠ .tripped →
      RestartBy s i ∨ (s.speed.v < 5 ∧ s.retard.overvolt = false ∧
        ∃ h, i = .resetTrip h ∧ authorityOf h = some .safety)) ∧
    (t.drive.state = .starting → s.drive.state ≠ .starting → RestartBy s i) ∧
    (50 ≤ s.speed.v → (t.load.value ≠ s.load.value ∨ t.load.cls ≠ s.load.cls) →
      ColdRestartBy i)

/-- Every step keeps the envelope equal to the resolution of the Limit Table as it stands, and A no lower
than E(SPEED_MAX) (R31 to R33). -/
def Obligations.EnvelopeInvariant : Prop :=
  ∀ s t : State, step s = .next t → EnvelopeResolved s → EnvelopeResolved t

/-- Every step keeps the Limit Table and the Segment Table in order (R3 to R8, R11, R39, R40). -/
def Obligations.TablesInvariant : Prop :=
  ∀ s t : State, step s = .next t → TableInOrder s → SegmentsInOrder s →
    TableInOrder t ∧ SegmentsInOrder t

/-- Every step keeps the torque command zero in the zero-torque drive states and on a MUTED wheel, and
none positive in HOLD (R87); and the links and modes of the wheels agreeing with each other and with the
drive state (R89 to R93). -/
def Obligations.TorqueAndWheelsInvariant : Prop :=
  ∀ s t : State, step s = .next t →
    (TorqueAtRest s → TorqueAtRest t) ∧ (WheelsInOrder s → WheelsInOrder t)

/-- Every step keeps each adhesion ceiling between its floor bound and P_WHEEL_RATED (R98). -/
def Obligations.CeilingsInvariant : Prop :=
  ∀ s t : State, step s = .next t → CeilingsBounded s → CeilingsBounded t

/-- Every step keeps the current source TRACKING, present in RELEASING, READY and HOLD, and the reference
state with it (R57, R59, R170); and the park brake, the release timer, the hold set, the demand and its
lease with the drive state (R77, R170, R171, R175). That the restart trip mark is set only in STARTING is the
model's choice: a trip cause taken in STARTING clears it, of which R170 and R182 do not speak (log entry 39).
That the release timer never stands at 0 follows from its tick on the empty queue, the model's choice too
(log entry 2). -/
def Obligations.DriveAndSourceInvariant : Prop :=
  ∀ s t : State, step s = .next t →
    (SourceInForce s → SourceInForce t) ∧ (DriveInOrder s → DriveInOrder t)

/-- Every step keeps the stored conditions equal to the Steering Governor's fault state and critical flag
(R172), the grids in order with allocations within demand and capacity (R111, R117), and parameters, steer
curve, sweep and payload monitor within their ranges (R131, R141, R156, R190). Samples and tare stay in
R156's range because a figure of R158 above it is held at 30 000, and a warm restart keeps the capacities of
the grids with P_cap: the model's choices (log entries 21 and 45). That P_cap is the sum of the capacities
(R115) holds over POWER_UP and RESTART COLD too because a cold restart sets each capacity to 0, for which
R137 names no value: the model's choice (log entry 19). -/
def Obligations.HoldingsInvariant : Prop :=
  ∀ s t : State, step s = .next t →
    (ConditionsFollow s → ConditionsFollow t) ∧ (GridsInOrder s → GridsInOrder t) ∧
      (HoldingsInRange s → HoldingsInRange t)
end

