-- ==== Sys2Proof/Laws/State.lean ====
section
/-! SUPPORT. What each named update leaves alone: one lemma for each field of State that it does not
write, so that no later proof unfolds an update to read another field. -/

namespace Sys2Proof.Machine

variable (s : State)

@[simp] theorem setPort_table (l : Link) (p : Port) : (s.setPort l p).table = s.table := rfl
@[simp] theorem setPort_gov (l : Link) (p : Port) : (s.setPort l p).gov = s.gov := rfl
@[simp] theorem setPort_env (l : Link) (p : Port) : (s.setPort l p).env = s.env := rfl
@[simp] theorem setPort_params (l : Link) (p : Port) : (s.setPort l p).params = s.params := rfl
@[simp] theorem setPort_segs (l : Link) (p : Port) : (s.setPort l p).segs = s.segs := rfl
@[simp] theorem setPort_speed (l : Link) (p : Port) : (s.setPort l p).speed = s.speed := rfl
@[simp] theorem setPort_torque (l : Link) (p : Port) : (s.setPort l p).torque = s.torque := rfl
@[simp] theorem setPort_grip (l : Link) (p : Port) : (s.setPort l p).grip = s.grip := rfl
@[simp] theorem setPort_retard (l : Link) (p : Port) : (s.setPort l p).retard = s.retard := rfl
@[simp] theorem setPort_steer (l : Link) (p : Port) : (s.setPort l p).steer = s.steer := rfl
@[simp] theorem setPort_load (l : Link) (p : Port) : (s.setPort l p).load = s.load := rfl
@[simp] theorem setPort_drive (l : Link) (p : Port) : (s.setPort l p).drive = s.drive := rfl
@[simp] theorem setPort_straps (l : Link) (p : Port) : (s.setPort l p).straps = s.straps := rfl
@[simp] theorem setPort_pins (l : Link) (p : Port) : (s.setPort l p).pins = s.pins := rfl
@[simp] theorem setPort_free (l : Link) (p : Port) : (s.setPort l p).free = s.free := rfl
@[simp] theorem setPort_pending (l : Link) (p : Port) : (s.setPort l p).pending = s.pending := rfl

@[simp] theorem formAnswer_table (l : Link) (a : Answer) : (formAnswer l a s).table = s.table := rfl
@[simp] theorem formAnswer_gov (l : Link) (a : Answer) : (formAnswer l a s).gov = s.gov := rfl
@[simp] theorem formAnswer_env (l : Link) (a : Answer) : (formAnswer l a s).env = s.env := rfl
@[simp] theorem formAnswer_params (l : Link) (a : Answer) :
    (formAnswer l a s).params = s.params := rfl
@[simp] theorem formAnswer_segs (l : Link) (a : Answer) : (formAnswer l a s).segs = s.segs := rfl
@[simp] theorem formAnswer_speed (l : Link) (a : Answer) : (formAnswer l a s).speed = s.speed := rfl
@[simp] theorem formAnswer_torque (l : Link) (a : Answer) :
    (formAnswer l a s).torque = s.torque := rfl
@[simp] theorem formAnswer_grip (l : Link) (a : Answer) : (formAnswer l a s).grip = s.grip := rfl
@[simp] theorem formAnswer_retard (l : Link) (a : Answer) :
    (formAnswer l a s).retard = s.retard := rfl
@[simp] theorem formAnswer_steer (l : Link) (a : Answer) : (formAnswer l a s).steer = s.steer := rfl
@[simp] theorem formAnswer_load (l : Link) (a : Answer) : (formAnswer l a s).load = s.load := rfl
@[simp] theorem formAnswer_drive (l : Link) (a : Answer) : (formAnswer l a s).drive = s.drive := rfl
@[simp] theorem formAnswer_straps (l : Link) (a : Answer) :
    (formAnswer l a s).straps = s.straps := rfl
@[simp] theorem formAnswer_pins (l : Link) (a : Answer) : (formAnswer l a s).pins = s.pins := rfl
@[simp] theorem formAnswer_free (l : Link) (a : Answer) : (formAnswer l a s).free = s.free := rfl
@[simp] theorem formAnswer_pending (l : Link) (a : Answer) :
    (formAnswer l a s).pending = s.pending := rfl

@[simp] theorem raiseOn_table (l : Link) (c : Attention) : (raiseOn l c s).table = s.table := rfl
@[simp] theorem raiseOn_gov (l : Link) (c : Attention) : (raiseOn l c s).gov = s.gov := rfl
@[simp] theorem raiseOn_env (l : Link) (c : Attention) : (raiseOn l c s).env = s.env := rfl
@[simp] theorem raiseOn_params (l : Link) (c : Attention) : (raiseOn l c s).params = s.params := rfl
@[simp] theorem raiseOn_segs (l : Link) (c : Attention) : (raiseOn l c s).segs = s.segs := rfl
@[simp] theorem raiseOn_speed (l : Link) (c : Attention) : (raiseOn l c s).speed = s.speed := rfl
@[simp] theorem raiseOn_torque (l : Link) (c : Attention) : (raiseOn l c s).torque = s.torque := rfl
@[simp] theorem raiseOn_grip (l : Link) (c : Attention) : (raiseOn l c s).grip = s.grip := rfl
@[simp] theorem raiseOn_retard (l : Link) (c : Attention) : (raiseOn l c s).retard = s.retard := rfl
@[simp] theorem raiseOn_steer (l : Link) (c : Attention) : (raiseOn l c s).steer = s.steer := rfl
@[simp] theorem raiseOn_load (l : Link) (c : Attention) : (raiseOn l c s).load = s.load := rfl
@[simp] theorem raiseOn_drive (l : Link) (c : Attention) : (raiseOn l c s).drive = s.drive := rfl
@[simp] theorem raiseOn_straps (l : Link) (c : Attention) : (raiseOn l c s).straps = s.straps := rfl
@[simp] theorem raiseOn_pins (l : Link) (c : Attention) : (raiseOn l c s).pins = s.pins := rfl
@[simp] theorem raiseOn_free (l : Link) (c : Attention) : (raiseOn l c s).free = s.free := rfl
@[simp] theorem raiseOn_pending (l : Link) (c : Attention) :
    (raiseOn l c s).pending = s.pending := rfl

@[simp] theorem raise_table (c : Attention) : (raise c s).table = s.table := rfl
@[simp] theorem raise_gov (c : Attention) : (raise c s).gov = s.gov := rfl
@[simp] theorem raise_env (c : Attention) : (raise c s).env = s.env := rfl
@[simp] theorem raise_params (c : Attention) : (raise c s).params = s.params := rfl
@[simp] theorem raise_segs (c : Attention) : (raise c s).segs = s.segs := rfl
@[simp] theorem raise_speed (c : Attention) : (raise c s).speed = s.speed := rfl
@[simp] theorem raise_torque (c : Attention) : (raise c s).torque = s.torque := rfl
@[simp] theorem raise_grip (c : Attention) : (raise c s).grip = s.grip := rfl
@[simp] theorem raise_retard (c : Attention) : (raise c s).retard = s.retard := rfl
@[simp] theorem raise_steer (c : Attention) : (raise c s).steer = s.steer := rfl
@[simp] theorem raise_load (c : Attention) : (raise c s).load = s.load := rfl
@[simp] theorem raise_drive (c : Attention) : (raise c s).drive = s.drive := rfl
@[simp] theorem raise_straps (c : Attention) : (raise c s).straps = s.straps := rfl
@[simp] theorem raise_pins (c : Attention) : (raise c s).pins = s.pins := rfl
@[simp] theorem raise_free (c : Attention) : (raise c s).free = s.free := rfl
@[simp] theorem raise_pending (c : Attention) : (raise c s).pending = s.pending := rfl

@[simp] theorem raiseIf_table (b : Bool) (c : Attention) :
    (raiseIf b c s).table = s.table := by cases b <;> rfl
@[simp] theorem raiseIf_gov (b : Bool) (c : Attention) :
    (raiseIf b c s).gov = s.gov := by cases b <;> rfl
@[simp] theorem raiseIf_env (b : Bool) (c : Attention) :
    (raiseIf b c s).env = s.env := by cases b <;> rfl
@[simp] theorem raiseIf_params (b : Bool) (c : Attention) :
    (raiseIf b c s).params = s.params := by cases b <;> rfl
@[simp] theorem raiseIf_segs (b : Bool) (c : Attention) :
    (raiseIf b c s).segs = s.segs := by cases b <;> rfl
@[simp] theorem raiseIf_speed (b : Bool) (c : Attention) :
    (raiseIf b c s).speed = s.speed := by cases b <;> rfl
@[simp] theorem raiseIf_torque (b : Bool) (c : Attention) :
    (raiseIf b c s).torque = s.torque := by cases b <;> rfl
@[simp] theorem raiseIf_grip (b : Bool) (c : Attention) :
    (raiseIf b c s).grip = s.grip := by cases b <;> rfl
@[simp] theorem raiseIf_retard (b : Bool) (c : Attention) :
    (raiseIf b c s).retard = s.retard := by cases b <;> rfl
@[simp] theorem raiseIf_steer (b : Bool) (c : Attention) :
    (raiseIf b c s).steer = s.steer := by cases b <;> rfl
@[simp] theorem raiseIf_load (b : Bool) (c : Attention) :
    (raiseIf b c s).load = s.load := by cases b <;> rfl
@[simp] theorem raiseIf_drive (b : Bool) (c : Attention) :
    (raiseIf b c s).drive = s.drive := by cases b <;> rfl
@[simp] theorem raiseIf_straps (b : Bool) (c : Attention) :
    (raiseIf b c s).straps = s.straps := by cases b <;> rfl
@[simp] theorem raiseIf_pins (b : Bool) (c : Attention) :
    (raiseIf b c s).pins = s.pins := by cases b <;> rfl
@[simp] theorem raiseIf_free (b : Bool) (c : Attention) :
    (raiseIf b c s).free = s.free := by cases b <;> rfl
@[simp] theorem raiseIf_pending (b : Bool) (c : Attention) :
    (raiseIf b c s).pending = s.pending := by cases b <;> rfl

@[simp] theorem setParamValue_ports (p : Param) (v : Nat) :
    (s.setParamValue p v).ports = s.ports := rfl
@[simp] theorem setParamValue_table (p : Param) (v : Nat) :
    (s.setParamValue p v).table = s.table := rfl
@[simp] theorem setParamValue_gov (p : Param) (v : Nat) : (s.setParamValue p v).gov = s.gov := rfl
@[simp] theorem setParamValue_env (p : Param) (v : Nat) : (s.setParamValue p v).env = s.env := rfl
@[simp] theorem setParamValue_segs (p : Param) (v : Nat) :
    (s.setParamValue p v).segs = s.segs := rfl
@[simp] theorem setParamValue_speed (p : Param) (v : Nat) :
    (s.setParamValue p v).speed = s.speed := rfl
@[simp] theorem setParamValue_torque (p : Param) (v : Nat) :
    (s.setParamValue p v).torque = s.torque := rfl
@[simp] theorem setParamValue_grip (p : Param) (v : Nat) :
    (s.setParamValue p v).grip = s.grip := rfl
@[simp] theorem setParamValue_retard (p : Param) (v : Nat) :
    (s.setParamValue p v).retard = s.retard := rfl
@[simp] theorem setParamValue_steer (p : Param) (v : Nat) :
    (s.setParamValue p v).steer = s.steer := rfl
@[simp] theorem setParamValue_load (p : Param) (v : Nat) :
    (s.setParamValue p v).load = s.load := rfl
@[simp] theorem setParamValue_drive (p : Param) (v : Nat) :
    (s.setParamValue p v).drive = s.drive := rfl
@[simp] theorem setParamValue_straps (p : Param) (v : Nat) :
    (s.setParamValue p v).straps = s.straps := rfl
@[simp] theorem setParamValue_pins (p : Param) (v : Nat) :
    (s.setParamValue p v).pins = s.pins := rfl
@[simp] theorem setParamValue_free (p : Param) (v : Nat) :
    (s.setParamValue p v).free = s.free := rfl
@[simp] theorem setParamValue_pending (p : Param) (v : Nat) :
    (s.setParamValue p v).pending = s.pending := rfl

@[simp] theorem setWheel_ports (w : Wheel) (x : WheelState) :
    (s.setWheel w x).ports = s.ports := rfl
@[simp] theorem setWheel_table (w : Wheel) (x : WheelState) :
    (s.setWheel w x).table = s.table := rfl
@[simp] theorem setWheel_gov (w : Wheel) (x : WheelState) : (s.setWheel w x).gov = s.gov := rfl
@[simp] theorem setWheel_env (w : Wheel) (x : WheelState) : (s.setWheel w x).env = s.env := rfl
@[simp] theorem setWheel_params (w : Wheel) (x : WheelState) :
    (s.setWheel w x).params = s.params := rfl
@[simp] theorem setWheel_segs (w : Wheel) (x : WheelState) : (s.setWheel w x).segs = s.segs := rfl
@[simp] theorem setWheel_speed (w : Wheel) (x : WheelState) :
    (s.setWheel w x).speed = s.speed := rfl
@[simp] theorem setWheel_grip (w : Wheel) (x : WheelState) : (s.setWheel w x).grip = s.grip := rfl
@[simp] theorem setWheel_retard (w : Wheel) (x : WheelState) :
    (s.setWheel w x).retard = s.retard := rfl
@[simp] theorem setWheel_steer (w : Wheel) (x : WheelState) :
    (s.setWheel w x).steer = s.steer := rfl
@[simp] theorem setWheel_load (w : Wheel) (x : WheelState) : (s.setWheel w x).load = s.load := rfl
@[simp] theorem setWheel_drive (w : Wheel) (x : WheelState) :
    (s.setWheel w x).drive = s.drive := rfl
@[simp] theorem setWheel_straps (w : Wheel) (x : WheelState) :
    (s.setWheel w x).straps = s.straps := rfl
@[simp] theorem setWheel_pins (w : Wheel) (x : WheelState) : (s.setWheel w x).pins = s.pins := rfl
@[simp] theorem setWheel_free (w : Wheel) (x : WheelState) : (s.setWheel w x).free = s.free := rfl
@[simp] theorem setWheel_pending (w : Wheel) (x : WheelState) :
    (s.setWheel w x).pending = s.pending := rfl

@[simp] theorem setRecord_ports (i : Fin 39) (r : Rec) : (setRecord i r s).ports = s.ports := rfl
@[simp] theorem setRecord_gov (i : Fin 39) (r : Rec) : (setRecord i r s).gov = s.gov := rfl
@[simp] theorem setRecord_env (i : Fin 39) (r : Rec) : (setRecord i r s).env = s.env := rfl
@[simp] theorem setRecord_params (i : Fin 39) (r : Rec) : (setRecord i r s).params = s.params := rfl
@[simp] theorem setRecord_segs (i : Fin 39) (r : Rec) : (setRecord i r s).segs = s.segs := rfl
@[simp] theorem setRecord_speed (i : Fin 39) (r : Rec) : (setRecord i r s).speed = s.speed := rfl
@[simp] theorem setRecord_torque (i : Fin 39) (r : Rec) : (setRecord i r s).torque = s.torque := rfl
@[simp] theorem setRecord_grip (i : Fin 39) (r : Rec) : (setRecord i r s).grip = s.grip := rfl
@[simp] theorem setRecord_retard (i : Fin 39) (r : Rec) : (setRecord i r s).retard = s.retard := rfl
@[simp] theorem setRecord_steer (i : Fin 39) (r : Rec) : (setRecord i r s).steer = s.steer := rfl
@[simp] theorem setRecord_load (i : Fin 39) (r : Rec) : (setRecord i r s).load = s.load := rfl
@[simp] theorem setRecord_drive (i : Fin 39) (r : Rec) : (setRecord i r s).drive = s.drive := rfl
@[simp] theorem setRecord_straps (i : Fin 39) (r : Rec) : (setRecord i r s).straps = s.straps := rfl
@[simp] theorem setRecord_pins (i : Fin 39) (r : Rec) : (setRecord i r s).pins = s.pins := rfl
@[simp] theorem setRecord_free (i : Fin 39) (r : Rec) : (setRecord i r s).free = s.free := rfl
@[simp] theorem setRecord_pending (i : Fin 39) (r : Rec) :
    (setRecord i r s).pending = s.pending := rfl

@[simp] theorem retireSlot_ports (i : Fin 39) : (retireSlot i s).ports = s.ports := rfl
@[simp] theorem retireSlot_gov (i : Fin 39) : (retireSlot i s).gov = s.gov := rfl
@[simp] theorem retireSlot_env (i : Fin 39) : (retireSlot i s).env = s.env := rfl
@[simp] theorem retireSlot_params (i : Fin 39) : (retireSlot i s).params = s.params := rfl
@[simp] theorem retireSlot_segs (i : Fin 39) : (retireSlot i s).segs = s.segs := rfl
@[simp] theorem retireSlot_speed (i : Fin 39) : (retireSlot i s).speed = s.speed := rfl
@[simp] theorem retireSlot_torque (i : Fin 39) : (retireSlot i s).torque = s.torque := rfl
@[simp] theorem retireSlot_grip (i : Fin 39) : (retireSlot i s).grip = s.grip := rfl
@[simp] theorem retireSlot_retard (i : Fin 39) : (retireSlot i s).retard = s.retard := rfl
@[simp] theorem retireSlot_steer (i : Fin 39) : (retireSlot i s).steer = s.steer := rfl
@[simp] theorem retireSlot_load (i : Fin 39) : (retireSlot i s).load = s.load := rfl
@[simp] theorem retireSlot_drive (i : Fin 39) : (retireSlot i s).drive = s.drive := rfl
@[simp] theorem retireSlot_straps (i : Fin 39) : (retireSlot i s).straps = s.straps := rfl
@[simp] theorem retireSlot_pins (i : Fin 39) : (retireSlot i s).pins = s.pins := rfl
@[simp] theorem retireSlot_free (i : Fin 39) : (retireSlot i s).free = s.free := rfl
@[simp] theorem retireSlot_pending (i : Fin 39) : (retireSlot i s).pending = s.pending := rfl

@[simp] theorem retireWhere_ports (pick : Slot → Bool) : (retireWhere pick s).ports = s.ports := rfl
@[simp] theorem retireWhere_gov (pick : Slot → Bool) : (retireWhere pick s).gov = s.gov := rfl
@[simp] theorem retireWhere_env (pick : Slot → Bool) : (retireWhere pick s).env = s.env := rfl
@[simp] theorem retireWhere_params (pick : Slot → Bool) :
    (retireWhere pick s).params = s.params := rfl
@[simp] theorem retireWhere_segs (pick : Slot → Bool) : (retireWhere pick s).segs = s.segs := rfl
@[simp] theorem retireWhere_speed (pick : Slot → Bool) : (retireWhere pick s).speed = s.speed := rfl
@[simp] theorem retireWhere_torque (pick : Slot → Bool) :
    (retireWhere pick s).torque = s.torque := rfl
@[simp] theorem retireWhere_grip (pick : Slot → Bool) : (retireWhere pick s).grip = s.grip := rfl
@[simp] theorem retireWhere_retard (pick : Slot → Bool) :
    (retireWhere pick s).retard = s.retard := rfl
@[simp] theorem retireWhere_steer (pick : Slot → Bool) : (retireWhere pick s).steer = s.steer := rfl
@[simp] theorem retireWhere_load (pick : Slot → Bool) : (retireWhere pick s).load = s.load := rfl
@[simp] theorem retireWhere_drive (pick : Slot → Bool) : (retireWhere pick s).drive = s.drive := rfl
@[simp] theorem retireWhere_straps (pick : Slot → Bool) :
    (retireWhere pick s).straps = s.straps := rfl
@[simp] theorem retireWhere_pins (pick : Slot → Bool) : (retireWhere pick s).pins = s.pins := rfl
@[simp] theorem retireWhere_free (pick : Slot → Bool) : (retireWhere pick s).free = s.free := rfl
@[simp] theorem retireWhere_pending (pick : Slot → Bool) :
    (retireWhere pick s).pending = s.pending := rfl

@[simp] theorem resolve_ports : (resolve s).ports = s.ports := rfl
@[simp] theorem resolve_table : (resolve s).table = s.table := rfl
@[simp] theorem resolve_gov : (resolve s).gov = s.gov := rfl
@[simp] theorem resolve_params : (resolve s).params = s.params := rfl
@[simp] theorem resolve_segs : (resolve s).segs = s.segs := rfl
@[simp] theorem resolve_speed : (resolve s).speed = s.speed := rfl
@[simp] theorem resolve_torque : (resolve s).torque = s.torque := rfl
@[simp] theorem resolve_grip : (resolve s).grip = s.grip := rfl
@[simp] theorem resolve_retard : (resolve s).retard = s.retard := rfl
@[simp] theorem resolve_steer : (resolve s).steer = s.steer := rfl
@[simp] theorem resolve_load : (resolve s).load = s.load := rfl
@[simp] theorem resolve_drive : (resolve s).drive = s.drive := rfl
@[simp] theorem resolve_straps : (resolve s).straps = s.straps := rfl
@[simp] theorem resolve_pins : (resolve s).pins = s.pins := rfl
@[simp] theorem resolve_free : (resolve s).free = s.free := rfl
@[simp] theorem resolve_pending : (resolve s).pending = s.pending := rfl

@[simp] theorem updateGov_ports (us : List (Gov × Option Nat)) :
    (updateGov us s).ports = s.ports := by unfold updateGov; dsimp only; split <;> rfl
@[simp] theorem updateGov_table (us : List (Gov × Option Nat)) :
    (updateGov us s).table = s.table := by unfold updateGov; dsimp only; split <;> rfl
@[simp] theorem updateGov_params (us : List (Gov × Option Nat)) :
    (updateGov us s).params = s.params := by unfold updateGov; dsimp only; split <;> rfl
@[simp] theorem updateGov_segs (us : List (Gov × Option Nat)) :
    (updateGov us s).segs = s.segs := by unfold updateGov; dsimp only; split <;> rfl
@[simp] theorem updateGov_speed (us : List (Gov × Option Nat)) :
    (updateGov us s).speed = s.speed := by unfold updateGov; dsimp only; split <;> rfl
@[simp] theorem updateGov_torque (us : List (Gov × Option Nat)) :
    (updateGov us s).torque = s.torque := by unfold updateGov; dsimp only; split <;> rfl
@[simp] theorem updateGov_grip (us : List (Gov × Option Nat)) :
    (updateGov us s).grip = s.grip := by unfold updateGov; dsimp only; split <;> rfl
@[simp] theorem updateGov_retard (us : List (Gov × Option Nat)) :
    (updateGov us s).retard = s.retard := by unfold updateGov; dsimp only; split <;> rfl
@[simp] theorem updateGov_steer (us : List (Gov × Option Nat)) :
    (updateGov us s).steer = s.steer := by unfold updateGov; dsimp only; split <;> rfl
@[simp] theorem updateGov_load (us : List (Gov × Option Nat)) :
    (updateGov us s).load = s.load := by unfold updateGov; dsimp only; split <;> rfl
@[simp] theorem updateGov_drive (us : List (Gov × Option Nat)) :
    (updateGov us s).drive = s.drive := by unfold updateGov; dsimp only; split <;> rfl
@[simp] theorem updateGov_straps (us : List (Gov × Option Nat)) :
    (updateGov us s).straps = s.straps := by unfold updateGov; dsimp only; split <;> rfl
@[simp] theorem updateGov_pins (us : List (Gov × Option Nat)) :
    (updateGov us s).pins = s.pins := by unfold updateGov; dsimp only; split <;> rfl
@[simp] theorem updateGov_free (us : List (Gov × Option Nat)) :
    (updateGov us s).free = s.free := by unfold updateGov; dsimp only; split <;> rfl
@[simp] theorem updateGov_pending (us : List (Gov × Option Nat)) :
    (updateGov us s).pending = s.pending := by unfold updateGov; dsimp only; split <;> rfl

@[simp] theorem withSegments_ports (g : List Segment) : (withSegments g s).ports = s.ports := rfl
@[simp] theorem withSegments_table (g : List Segment) : (withSegments g s).table = s.table := rfl
@[simp] theorem withSegments_gov (g : List Segment) : (withSegments g s).gov = s.gov := rfl
@[simp] theorem withSegments_env (g : List Segment) : (withSegments g s).env = s.env := rfl
@[simp] theorem withSegments_params (g : List Segment) : (withSegments g s).params = s.params := rfl
@[simp] theorem withSegments_speed (g : List Segment) : (withSegments g s).speed = s.speed := rfl
@[simp] theorem withSegments_torque (g : List Segment) : (withSegments g s).torque = s.torque := rfl
@[simp] theorem withSegments_grip (g : List Segment) : (withSegments g s).grip = s.grip := rfl
@[simp] theorem withSegments_retard (g : List Segment) : (withSegments g s).retard = s.retard := rfl
@[simp] theorem withSegments_steer (g : List Segment) : (withSegments g s).steer = s.steer := rfl
@[simp] theorem withSegments_load (g : List Segment) : (withSegments g s).load = s.load := rfl
@[simp] theorem withSegments_drive (g : List Segment) : (withSegments g s).drive = s.drive := rfl
@[simp] theorem withSegments_straps (g : List Segment) : (withSegments g s).straps = s.straps := rfl
@[simp] theorem withSegments_pins (g : List Segment) : (withSegments g s).pins = s.pins := rfl
@[simp] theorem withSegments_free (g : List Segment) : (withSegments g s).free = s.free := rfl
@[simp] theorem withSegments_pending (g : List Segment) :
    (withSegments g s).pending = s.pending := rfl

@[simp] theorem changeSegment_ports (n : Option Nat) (h : Heading) :
    (changeSegment n h s).ports = s.ports := rfl
@[simp] theorem changeSegment_gov (n : Option Nat) (h : Heading) :
    (changeSegment n h s).gov = s.gov := rfl
@[simp] theorem changeSegment_params (n : Option Nat) (h : Heading) :
    (changeSegment n h s).params = s.params := rfl
@[simp] theorem changeSegment_speed (n : Option Nat) (h : Heading) :
    (changeSegment n h s).speed = s.speed := rfl
@[simp] theorem changeSegment_torque (n : Option Nat) (h : Heading) :
    (changeSegment n h s).torque = s.torque := rfl
@[simp] theorem changeSegment_grip (n : Option Nat) (h : Heading) :
    (changeSegment n h s).grip = s.grip := rfl
@[simp] theorem changeSegment_retard (n : Option Nat) (h : Heading) :
    (changeSegment n h s).retard = s.retard := rfl
@[simp] theorem changeSegment_steer (n : Option Nat) (h : Heading) :
    (changeSegment n h s).steer = s.steer := rfl
@[simp] theorem changeSegment_load (n : Option Nat) (h : Heading) :
    (changeSegment n h s).load = s.load := rfl
@[simp] theorem changeSegment_drive (n : Option Nat) (h : Heading) :
    (changeSegment n h s).drive = s.drive := rfl
@[simp] theorem changeSegment_straps (n : Option Nat) (h : Heading) :
    (changeSegment n h s).straps = s.straps := rfl
@[simp] theorem changeSegment_pins (n : Option Nat) (h : Heading) :
    (changeSegment n h s).pins = s.pins := rfl
@[simp] theorem changeSegment_free (n : Option Nat) (h : Heading) :
    (changeSegment n h s).free = s.free := rfl
@[simp] theorem changeSegment_pending (n : Option Nat) (h : Heading) :
    (changeSegment n h s).pending = s.pending := rfl

@[simp] theorem applyPreset_ports (c : AdhesionClass) : (applyPreset c s).ports = s.ports := rfl
@[simp] theorem applyPreset_table (c : AdhesionClass) : (applyPreset c s).table = s.table := rfl
@[simp] theorem applyPreset_gov (c : AdhesionClass) : (applyPreset c s).gov = s.gov := rfl
@[simp] theorem applyPreset_env (c : AdhesionClass) : (applyPreset c s).env = s.env := rfl
@[simp] theorem applyPreset_params (c : AdhesionClass) : (applyPreset c s).params = s.params := rfl
@[simp] theorem applyPreset_segs (c : AdhesionClass) : (applyPreset c s).segs = s.segs := rfl
@[simp] theorem applyPreset_speed (c : AdhesionClass) : (applyPreset c s).speed = s.speed := rfl
@[simp] theorem applyPreset_torque (c : AdhesionClass) : (applyPreset c s).torque = s.torque := rfl
@[simp] theorem applyPreset_retard (c : AdhesionClass) : (applyPreset c s).retard = s.retard := rfl
@[simp] theorem applyPreset_steer (c : AdhesionClass) : (applyPreset c s).steer = s.steer := rfl
@[simp] theorem applyPreset_load (c : AdhesionClass) : (applyPreset c s).load = s.load := rfl
@[simp] theorem applyPreset_drive (c : AdhesionClass) : (applyPreset c s).drive = s.drive := rfl
@[simp] theorem applyPreset_straps (c : AdhesionClass) : (applyPreset c s).straps = s.straps := rfl
@[simp] theorem applyPreset_pins (c : AdhesionClass) : (applyPreset c s).pins = s.pins := rfl
@[simp] theorem applyPreset_free (c : AdhesionClass) : (applyPreset c s).free = s.free := rfl
@[simp] theorem applyPreset_pending (c : AdhesionClass) :
    (applyPreset c s).pending = s.pending := rfl

@[simp] theorem reclamp_ports : (reclamp s).ports = s.ports := rfl
@[simp] theorem reclamp_table : (reclamp s).table = s.table := rfl
@[simp] theorem reclamp_gov : (reclamp s).gov = s.gov := rfl
@[simp] theorem reclamp_env : (reclamp s).env = s.env := rfl
@[simp] theorem reclamp_params : (reclamp s).params = s.params := rfl
@[simp] theorem reclamp_segs : (reclamp s).segs = s.segs := rfl
@[simp] theorem reclamp_speed : (reclamp s).speed = s.speed := rfl
@[simp] theorem reclamp_torque : (reclamp s).torque = s.torque := rfl
@[simp] theorem reclamp_retard : (reclamp s).retard = s.retard := rfl
@[simp] theorem reclamp_steer : (reclamp s).steer = s.steer := rfl
@[simp] theorem reclamp_load : (reclamp s).load = s.load := rfl
@[simp] theorem reclamp_drive : (reclamp s).drive = s.drive := rfl
@[simp] theorem reclamp_straps : (reclamp s).straps = s.straps := rfl
@[simp] theorem reclamp_pins : (reclamp s).pins = s.pins := rfl
@[simp] theorem reclamp_free : (reclamp s).free = s.free := rfl
@[simp] theorem reclamp_pending : (reclamp s).pending = s.pending := rfl

@[simp] theorem withSpeed_ports (u : SpeedUnit) : (withSpeed u s).ports = s.ports := rfl
@[simp] theorem withSpeed_table (u : SpeedUnit) : (withSpeed u s).table = s.table := rfl
@[simp] theorem withSpeed_gov (u : SpeedUnit) : (withSpeed u s).gov = s.gov := rfl
@[simp] theorem withSpeed_env (u : SpeedUnit) : (withSpeed u s).env = s.env := rfl
@[simp] theorem withSpeed_params (u : SpeedUnit) : (withSpeed u s).params = s.params := rfl
@[simp] theorem withSpeed_segs (u : SpeedUnit) : (withSpeed u s).segs = s.segs := rfl
@[simp] theorem withSpeed_torque (u : SpeedUnit) : (withSpeed u s).torque = s.torque := rfl
@[simp] theorem withSpeed_grip (u : SpeedUnit) : (withSpeed u s).grip = s.grip := rfl
@[simp] theorem withSpeed_retard (u : SpeedUnit) : (withSpeed u s).retard = s.retard := rfl
@[simp] theorem withSpeed_steer (u : SpeedUnit) : (withSpeed u s).steer = s.steer := rfl
@[simp] theorem withSpeed_load (u : SpeedUnit) : (withSpeed u s).load = s.load := rfl
@[simp] theorem withSpeed_drive (u : SpeedUnit) : (withSpeed u s).drive = s.drive := rfl
@[simp] theorem withSpeed_straps (u : SpeedUnit) : (withSpeed u s).straps = s.straps := rfl
@[simp] theorem withSpeed_pins (u : SpeedUnit) : (withSpeed u s).pins = s.pins := rfl
@[simp] theorem withSpeed_free (u : SpeedUnit) : (withSpeed u s).free = s.free := rfl
@[simp] theorem withSpeed_pending (u : SpeedUnit) : (withSpeed u s).pending = s.pending := rfl

@[simp] theorem slipWindow_ports (p : PerWheel Nat) : (slipWindow p s).ports = s.ports := rfl
@[simp] theorem slipWindow_table (p : PerWheel Nat) : (slipWindow p s).table = s.table := rfl
@[simp] theorem slipWindow_gov (p : PerWheel Nat) : (slipWindow p s).gov = s.gov := rfl
@[simp] theorem slipWindow_env (p : PerWheel Nat) : (slipWindow p s).env = s.env := rfl
@[simp] theorem slipWindow_params (p : PerWheel Nat) : (slipWindow p s).params = s.params := rfl
@[simp] theorem slipWindow_segs (p : PerWheel Nat) : (slipWindow p s).segs = s.segs := rfl
@[simp] theorem slipWindow_speed (p : PerWheel Nat) : (slipWindow p s).speed = s.speed := rfl
@[simp] theorem slipWindow_torque (p : PerWheel Nat) : (slipWindow p s).torque = s.torque := rfl
@[simp] theorem slipWindow_retard (p : PerWheel Nat) : (slipWindow p s).retard = s.retard := rfl
@[simp] theorem slipWindow_steer (p : PerWheel Nat) : (slipWindow p s).steer = s.steer := rfl
@[simp] theorem slipWindow_load (p : PerWheel Nat) : (slipWindow p s).load = s.load := rfl
@[simp] theorem slipWindow_drive (p : PerWheel Nat) : (slipWindow p s).drive = s.drive := rfl
@[simp] theorem slipWindow_straps (p : PerWheel Nat) : (slipWindow p s).straps = s.straps := rfl
@[simp] theorem slipWindow_pins (p : PerWheel Nat) : (slipWindow p s).pins = s.pins := rfl
@[simp] theorem slipWindow_free (p : PerWheel Nat) : (slipWindow p s).free = s.free := rfl
@[simp] theorem slipWindow_pending (p : PerWheel Nat) : (slipWindow p s).pending = s.pending := rfl

@[simp] theorem trippedWindow_ports : (trippedWindow s).ports = s.ports := rfl
@[simp] theorem trippedWindow_table : (trippedWindow s).table = s.table := rfl
@[simp] theorem trippedWindow_gov : (trippedWindow s).gov = s.gov := rfl
@[simp] theorem trippedWindow_env : (trippedWindow s).env = s.env := rfl
@[simp] theorem trippedWindow_params : (trippedWindow s).params = s.params := rfl
@[simp] theorem trippedWindow_segs : (trippedWindow s).segs = s.segs := rfl
@[simp] theorem trippedWindow_speed : (trippedWindow s).speed = s.speed := rfl
@[simp] theorem trippedWindow_torque : (trippedWindow s).torque = s.torque := rfl
@[simp] theorem trippedWindow_grip : (trippedWindow s).grip = s.grip := rfl
@[simp] theorem trippedWindow_retard : (trippedWindow s).retard = s.retard := rfl
@[simp] theorem trippedWindow_steer : (trippedWindow s).steer = s.steer := rfl
@[simp] theorem trippedWindow_load : (trippedWindow s).load = s.load := rfl
@[simp] theorem trippedWindow_straps : (trippedWindow s).straps = s.straps := rfl
@[simp] theorem trippedWindow_pins : (trippedWindow s).pins = s.pins := rfl
@[simp] theorem trippedWindow_free : (trippedWindow s).free = s.free := rfl
@[simp] theorem trippedWindow_pending : (trippedWindow s).pending = s.pending := rfl

@[simp] theorem withTorque_ports (t : TorqueGov) : (withTorque t s).ports = s.ports := rfl
@[simp] theorem withTorque_table (t : TorqueGov) : (withTorque t s).table = s.table := rfl
@[simp] theorem withTorque_gov (t : TorqueGov) : (withTorque t s).gov = s.gov := rfl
@[simp] theorem withTorque_env (t : TorqueGov) : (withTorque t s).env = s.env := rfl
@[simp] theorem withTorque_params (t : TorqueGov) : (withTorque t s).params = s.params := rfl
@[simp] theorem withTorque_segs (t : TorqueGov) : (withTorque t s).segs = s.segs := rfl
@[simp] theorem withTorque_speed (t : TorqueGov) : (withTorque t s).speed = s.speed := rfl
@[simp] theorem withTorque_grip (t : TorqueGov) : (withTorque t s).grip = s.grip := rfl
@[simp] theorem withTorque_retard (t : TorqueGov) : (withTorque t s).retard = s.retard := rfl
@[simp] theorem withTorque_steer (t : TorqueGov) : (withTorque t s).steer = s.steer := rfl
@[simp] theorem withTorque_load (t : TorqueGov) : (withTorque t s).load = s.load := rfl
@[simp] theorem withTorque_drive (t : TorqueGov) : (withTorque t s).drive = s.drive := rfl
@[simp] theorem withTorque_straps (t : TorqueGov) : (withTorque t s).straps = s.straps := rfl
@[simp] theorem withTorque_pins (t : TorqueGov) : (withTorque t s).pins = s.pins := rfl
@[simp] theorem withTorque_free (t : TorqueGov) : (withTorque t s).free = s.free := rfl
@[simp] theorem withTorque_pending (t : TorqueGov) : (withTorque t s).pending = s.pending := rfl

@[simp] theorem withSweep_ports (x : Sweep) : (withSweep x s).ports = s.ports := rfl
@[simp] theorem withSweep_table (x : Sweep) : (withSweep x s).table = s.table := rfl
@[simp] theorem withSweep_gov (x : Sweep) : (withSweep x s).gov = s.gov := rfl
@[simp] theorem withSweep_env (x : Sweep) : (withSweep x s).env = s.env := rfl
@[simp] theorem withSweep_params (x : Sweep) : (withSweep x s).params = s.params := rfl
@[simp] theorem withSweep_segs (x : Sweep) : (withSweep x s).segs = s.segs := rfl
@[simp] theorem withSweep_speed (x : Sweep) : (withSweep x s).speed = s.speed := rfl
@[simp] theorem withSweep_torque (x : Sweep) : (withSweep x s).torque = s.torque := rfl
@[simp] theorem withSweep_grip (x : Sweep) : (withSweep x s).grip = s.grip := rfl
@[simp] theorem withSweep_steer (x : Sweep) : (withSweep x s).steer = s.steer := rfl
@[simp] theorem withSweep_load (x : Sweep) : (withSweep x s).load = s.load := rfl
@[simp] theorem withSweep_drive (x : Sweep) : (withSweep x s).drive = s.drive := rfl
@[simp] theorem withSweep_straps (x : Sweep) : (withSweep x s).straps = s.straps := rfl
@[simp] theorem withSweep_pins (x : Sweep) : (withSweep x s).pins = s.pins := rfl
@[simp] theorem withSweep_free (x : Sweep) : (withSweep x s).free = s.free := rfl
@[simp] theorem withSweep_pending (x : Sweep) : (withSweep x s).pending = s.pending := rfl

@[simp] theorem setAssist_ports : (setAssist s).ports = s.ports := rfl
@[simp] theorem setAssist_table : (setAssist s).table = s.table := rfl
@[simp] theorem setAssist_gov : (setAssist s).gov = s.gov := rfl
@[simp] theorem setAssist_env : (setAssist s).env = s.env := rfl
@[simp] theorem setAssist_params : (setAssist s).params = s.params := rfl
@[simp] theorem setAssist_segs : (setAssist s).segs = s.segs := rfl
@[simp] theorem setAssist_speed : (setAssist s).speed = s.speed := rfl
@[simp] theorem setAssist_torque : (setAssist s).torque = s.torque := rfl
@[simp] theorem setAssist_grip : (setAssist s).grip = s.grip := rfl
@[simp] theorem setAssist_steer : (setAssist s).steer = s.steer := rfl
@[simp] theorem setAssist_load : (setAssist s).load = s.load := rfl
@[simp] theorem setAssist_drive : (setAssist s).drive = s.drive := rfl
@[simp] theorem setAssist_straps : (setAssist s).straps = s.straps := rfl
@[simp] theorem setAssist_pins : (setAssist s).pins = s.pins := rfl
@[simp] theorem setAssist_free : (setAssist s).free = s.free := rfl
@[simp] theorem setAssist_pending : (setAssist s).pending = s.pending := rfl

@[simp] theorem evaluateAssist_table :
    (evaluateAssist s).table = s.table := by unfold evaluateAssist; dsimp only; simp
@[simp] theorem evaluateAssist_gov :
    (evaluateAssist s).gov = s.gov := by unfold evaluateAssist; dsimp only; simp
@[simp] theorem evaluateAssist_env :
    (evaluateAssist s).env = s.env := by unfold evaluateAssist; dsimp only; simp
@[simp] theorem evaluateAssist_params :
    (evaluateAssist s).params = s.params := by unfold evaluateAssist; dsimp only; simp
@[simp] theorem evaluateAssist_segs :
    (evaluateAssist s).segs = s.segs := by unfold evaluateAssist; dsimp only; simp
@[simp] theorem evaluateAssist_speed :
    (evaluateAssist s).speed = s.speed := by unfold evaluateAssist; dsimp only; simp
@[simp] theorem evaluateAssist_torque :
    (evaluateAssist s).torque = s.torque := by unfold evaluateAssist; dsimp only; simp
@[simp] theorem evaluateAssist_grip :
    (evaluateAssist s).grip = s.grip := by unfold evaluateAssist; dsimp only; simp
@[simp] theorem evaluateAssist_steer :
    (evaluateAssist s).steer = s.steer := by unfold evaluateAssist; dsimp only; simp
@[simp] theorem evaluateAssist_load :
    (evaluateAssist s).load = s.load := by unfold evaluateAssist; dsimp only; simp
@[simp] theorem evaluateAssist_drive :
    (evaluateAssist s).drive = s.drive := by unfold evaluateAssist; dsimp only; simp
@[simp] theorem evaluateAssist_straps :
    (evaluateAssist s).straps = s.straps := by unfold evaluateAssist; dsimp only; simp
@[simp] theorem evaluateAssist_pins :
    (evaluateAssist s).pins = s.pins := by unfold evaluateAssist; dsimp only; simp
@[simp] theorem evaluateAssist_free :
    (evaluateAssist s).free = s.free := by unfold evaluateAssist; dsimp only; simp
@[simp] theorem evaluateAssist_pending :
    (evaluateAssist s).pending = s.pending := by unfold evaluateAssist; dsimp only; simp

@[simp] theorem endRelease_ports (o : ReleaseOutcome) : (endRelease o s).ports = s.ports := rfl
@[simp] theorem endRelease_table (o : ReleaseOutcome) : (endRelease o s).table = s.table := rfl
@[simp] theorem endRelease_gov (o : ReleaseOutcome) : (endRelease o s).gov = s.gov := rfl
@[simp] theorem endRelease_env (o : ReleaseOutcome) : (endRelease o s).env = s.env := rfl
@[simp] theorem endRelease_params (o : ReleaseOutcome) : (endRelease o s).params = s.params := rfl
@[simp] theorem endRelease_segs (o : ReleaseOutcome) : (endRelease o s).segs = s.segs := rfl
@[simp] theorem endRelease_speed (o : ReleaseOutcome) : (endRelease o s).speed = s.speed := rfl
@[simp] theorem endRelease_torque (o : ReleaseOutcome) : (endRelease o s).torque = s.torque := rfl
@[simp] theorem endRelease_grip (o : ReleaseOutcome) : (endRelease o s).grip = s.grip := rfl
@[simp] theorem endRelease_retard (o : ReleaseOutcome) : (endRelease o s).retard = s.retard := rfl
@[simp] theorem endRelease_steer (o : ReleaseOutcome) : (endRelease o s).steer = s.steer := rfl
@[simp] theorem endRelease_load (o : ReleaseOutcome) : (endRelease o s).load = s.load := rfl
@[simp] theorem endRelease_straps (o : ReleaseOutcome) : (endRelease o s).straps = s.straps := rfl
@[simp] theorem endRelease_pins (o : ReleaseOutcome) : (endRelease o s).pins = s.pins := rfl
@[simp] theorem endRelease_free (o : ReleaseOutcome) : (endRelease o s).free = s.free := rfl
@[simp] theorem endRelease_pending (o : ReleaseOutcome) :
    (endRelease o s).pending = s.pending := rfl

@[simp] theorem enter_table (d : Drive) : (enter d s).table = s.table := by unfold enter; simp
@[simp] theorem enter_gov (d : Drive) : (enter d s).gov = s.gov := by unfold enter; simp
@[simp] theorem enter_env (d : Drive) : (enter d s).env = s.env := by unfold enter; simp
@[simp] theorem enter_params (d : Drive) : (enter d s).params = s.params := by unfold enter; simp
@[simp] theorem enter_segs (d : Drive) : (enter d s).segs = s.segs := by unfold enter; simp
@[simp] theorem enter_speed (d : Drive) : (enter d s).speed = s.speed := by unfold enter; simp
@[simp] theorem enter_grip (d : Drive) : (enter d s).grip = s.grip := by unfold enter; simp
@[simp] theorem enter_steer (d : Drive) : (enter d s).steer = s.steer := by unfold enter; simp
@[simp] theorem enter_load (d : Drive) : (enter d s).load = s.load := by unfold enter; simp
@[simp] theorem enter_straps (d : Drive) : (enter d s).straps = s.straps := by unfold enter; simp
@[simp] theorem enter_pins (d : Drive) : (enter d s).pins = s.pins := by unfold enter; simp
@[simp] theorem enter_free (d : Drive) : (enter d s).free = s.free := by unfold enter; simp
@[simp] theorem enter_pending (d : Drive) : (enter d s).pending = s.pending := by unfold enter; simp

@[simp] theorem enterHold_table (h : HoldSet) :
    (enterHold h s).table = s.table := by unfold enterHold; simp
@[simp] theorem enterHold_gov (h : HoldSet) :
    (enterHold h s).gov = s.gov := by unfold enterHold; simp
@[simp] theorem enterHold_env (h : HoldSet) :
    (enterHold h s).env = s.env := by unfold enterHold; simp
@[simp] theorem enterHold_params (h : HoldSet) :
    (enterHold h s).params = s.params := by unfold enterHold; simp
@[simp] theorem enterHold_segs (h : HoldSet) :
    (enterHold h s).segs = s.segs := by unfold enterHold; simp
@[simp] theorem enterHold_speed (h : HoldSet) :
    (enterHold h s).speed = s.speed := by unfold enterHold; simp
@[simp] theorem enterHold_grip (h : HoldSet) :
    (enterHold h s).grip = s.grip := by unfold enterHold; simp
@[simp] theorem enterHold_steer (h : HoldSet) :
    (enterHold h s).steer = s.steer := by unfold enterHold; simp
@[simp] theorem enterHold_load (h : HoldSet) :
    (enterHold h s).load = s.load := by unfold enterHold; simp
@[simp] theorem enterHold_straps (h : HoldSet) :
    (enterHold h s).straps = s.straps := by unfold enterHold; simp
@[simp] theorem enterHold_pins (h : HoldSet) :
    (enterHold h s).pins = s.pins := by unfold enterHold; simp
@[simp] theorem enterHold_free (h : HoldSet) :
    (enterHold h s).free = s.free := by unfold enterHold; simp
@[simp] theorem enterHold_pending (h : HoldSet) :
    (enterHold h s).pending = s.pending := by unfold enterHold; simp

@[simp] theorem enterParked_table : (enterParked s).table = s.table := by unfold enterParked; simp
@[simp] theorem enterParked_gov : (enterParked s).gov = s.gov := by unfold enterParked; simp
@[simp] theorem enterParked_env : (enterParked s).env = s.env := by unfold enterParked; simp
@[simp] theorem enterParked_params :
    (enterParked s).params = s.params := by unfold enterParked; simp
@[simp] theorem enterParked_segs : (enterParked s).segs = s.segs := by unfold enterParked; simp
@[simp] theorem enterParked_speed : (enterParked s).speed = s.speed := by unfold enterParked; simp
@[simp] theorem enterParked_grip : (enterParked s).grip = s.grip := by unfold enterParked; simp
@[simp] theorem enterParked_steer : (enterParked s).steer = s.steer := by unfold enterParked; simp
@[simp] theorem enterParked_load : (enterParked s).load = s.load := by unfold enterParked; simp
@[simp] theorem enterParked_straps :
    (enterParked s).straps = s.straps := by unfold enterParked; simp
@[simp] theorem enterParked_pins : (enterParked s).pins = s.pins := by unfold enterParked; simp
@[simp] theorem enterParked_free : (enterParked s).free = s.free := by unfold enterParked; simp
@[simp] theorem enterParked_pending :
    (enterParked s).pending = s.pending := by unfold enterParked; simp

@[simp] theorem handHold_table (c : HoldCause) :
    (handHold c s).table = s.table := by unfold handHold; dsimp only; split <;> simp
@[simp] theorem handHold_gov (c : HoldCause) :
    (handHold c s).gov = s.gov := by unfold handHold; dsimp only; split <;> simp
@[simp] theorem handHold_env (c : HoldCause) :
    (handHold c s).env = s.env := by unfold handHold; dsimp only; split <;> simp
@[simp] theorem handHold_params (c : HoldCause) :
    (handHold c s).params = s.params := by unfold handHold; dsimp only; split <;> simp
@[simp] theorem handHold_segs (c : HoldCause) :
    (handHold c s).segs = s.segs := by unfold handHold; dsimp only; split <;> simp
@[simp] theorem handHold_speed (c : HoldCause) :
    (handHold c s).speed = s.speed := by unfold handHold; dsimp only; split <;> simp
@[simp] theorem handHold_grip (c : HoldCause) :
    (handHold c s).grip = s.grip := by unfold handHold; dsimp only; split <;> simp
@[simp] theorem handHold_steer (c : HoldCause) :
    (handHold c s).steer = s.steer := by unfold handHold; dsimp only; split <;> simp
@[simp] theorem handHold_load (c : HoldCause) :
    (handHold c s).load = s.load := by unfold handHold; dsimp only; split <;> simp
@[simp] theorem handHold_straps (c : HoldCause) :
    (handHold c s).straps = s.straps := by unfold handHold; dsimp only; split <;> simp
@[simp] theorem handHold_pins (c : HoldCause) :
    (handHold c s).pins = s.pins := by unfold handHold; dsimp only; split <;> simp
@[simp] theorem handHold_free (c : HoldCause) :
    (handHold c s).free = s.free := by unfold handHold; dsimp only; split <;> simp
@[simp] theorem handHold_pending (c : HoldCause) :
    (handHold c s).pending = s.pending := by unfold handHold; dsimp only; split <;> simp

@[simp] theorem handTrip_table (c : TripCause) :
    (handTrip c s).table = s.table := by unfold handTrip; split; (split <;> rfl); simp
@[simp] theorem handTrip_gov (c : TripCause) :
    (handTrip c s).gov = s.gov := by unfold handTrip; split; (split <;> rfl); simp
@[simp] theorem handTrip_env (c : TripCause) :
    (handTrip c s).env = s.env := by unfold handTrip; split; (split <;> rfl); simp
@[simp] theorem handTrip_params (c : TripCause) :
    (handTrip c s).params = s.params := by unfold handTrip; split; (split <;> rfl); simp
@[simp] theorem handTrip_segs (c : TripCause) :
    (handTrip c s).segs = s.segs := by unfold handTrip; split; (split <;> rfl); simp
@[simp] theorem handTrip_speed (c : TripCause) :
    (handTrip c s).speed = s.speed := by unfold handTrip; split; (split <;> rfl); simp
@[simp] theorem handTrip_grip (c : TripCause) :
    (handTrip c s).grip = s.grip := by unfold handTrip; split; (split <;> rfl); simp
@[simp] theorem handTrip_steer (c : TripCause) :
    (handTrip c s).steer = s.steer := by unfold handTrip; split; (split <;> rfl); simp
@[simp] theorem handTrip_load (c : TripCause) :
    (handTrip c s).load = s.load := by unfold handTrip; split; (split <;> rfl); simp
@[simp] theorem handTrip_straps (c : TripCause) :
    (handTrip c s).straps = s.straps := by unfold handTrip; split; (split <;> rfl); simp
@[simp] theorem handTrip_pins (c : TripCause) :
    (handTrip c s).pins = s.pins := by unfold handTrip; split; (split <;> rfl); simp
@[simp] theorem handTrip_free (c : TripCause) :
    (handTrip c s).free = s.free := by unfold handTrip; split; (split <;> rfl); simp
@[simp] theorem handTrip_pending (c : TripCause) :
    (handTrip c s).pending = s.pending := by unfold handTrip; split; (split <;> rfl); simp

@[simp] theorem handWheelLoss_table :
    (handWheelLoss s).table = s.table := by unfold handWheelLoss; split; (split; simp; split <;> simp); rfl
@[simp] theorem handWheelLoss_gov :
    (handWheelLoss s).gov = s.gov := by unfold handWheelLoss; split; (split; simp; split <;> simp); rfl
@[simp] theorem handWheelLoss_env :
    (handWheelLoss s).env = s.env := by unfold handWheelLoss; split; (split; simp; split <;> simp); rfl
@[simp] theorem handWheelLoss_params :
    (handWheelLoss s).params = s.params := by unfold handWheelLoss; split; (split; simp; split <;> simp); rfl
@[simp] theorem handWheelLoss_segs :
    (handWheelLoss s).segs = s.segs := by unfold handWheelLoss; split; (split; simp; split <;> simp); rfl
@[simp] theorem handWheelLoss_speed :
    (handWheelLoss s).speed = s.speed := by unfold handWheelLoss; split; (split; simp; split <;> simp); rfl
@[simp] theorem handWheelLoss_grip :
    (handWheelLoss s).grip = s.grip := by unfold handWheelLoss; split; (split; simp; split <;> simp); rfl
@[simp] theorem handWheelLoss_steer :
    (handWheelLoss s).steer = s.steer := by unfold handWheelLoss; split; (split; simp; split <;> simp); rfl
@[simp] theorem handWheelLoss_load :
    (handWheelLoss s).load = s.load := by unfold handWheelLoss; split; (split; simp; split <;> simp); rfl
@[simp] theorem handWheelLoss_straps :
    (handWheelLoss s).straps = s.straps := by unfold handWheelLoss; split; (split; simp; split <;> simp); rfl
@[simp] theorem handWheelLoss_pins :
    (handWheelLoss s).pins = s.pins := by unfold handWheelLoss; split; (split; simp; split <;> simp); rfl
@[simp] theorem handWheelLoss_free :
    (handWheelLoss s).free = s.free := by unfold handWheelLoss; split; (split; simp; split <;> simp); rfl
@[simp] theorem handWheelLoss_pending :
    (handWheelLoss s).pending = s.pending := by unfold handWheelLoss; split; (split; simp; split <;> simp); rfl

@[simp] theorem endStarting_table :
    (endStarting s).table = s.table := by unfold endStarting; split; simp; split; simp; split <;> simp
@[simp] theorem endStarting_gov :
    (endStarting s).gov = s.gov := by unfold endStarting; split; simp; split; simp; split <;> simp
@[simp] theorem endStarting_env :
    (endStarting s).env = s.env := by unfold endStarting; split; simp; split; simp; split <;> simp
@[simp] theorem endStarting_params :
    (endStarting s).params = s.params := by unfold endStarting; split; simp; split; simp; split <;> simp
@[simp] theorem endStarting_segs :
    (endStarting s).segs = s.segs := by unfold endStarting; split; simp; split; simp; split <;> simp
@[simp] theorem endStarting_speed :
    (endStarting s).speed = s.speed := by unfold endStarting; split; simp; split; simp; split <;> simp
@[simp] theorem endStarting_grip :
    (endStarting s).grip = s.grip := by unfold endStarting; split; simp; split; simp; split <;> simp
@[simp] theorem endStarting_steer :
    (endStarting s).steer = s.steer := by unfold endStarting; split; simp; split; simp; split <;> simp
@[simp] theorem endStarting_load :
    (endStarting s).load = s.load := by unfold endStarting; split; simp; split; simp; split <;> simp
@[simp] theorem endStarting_straps :
    (endStarting s).straps = s.straps := by unfold endStarting; split; simp; split; simp; split <;> simp
@[simp] theorem endStarting_pins :
    (endStarting s).pins = s.pins := by unfold endStarting; split; simp; split; simp; split <;> simp
@[simp] theorem endStarting_free :
    (endStarting s).free = s.free := by unfold endStarting; split; simp; split; simp; split <;> simp
@[simp] theorem endStarting_pending :
    (endStarting s).pending = s.pending := by unfold endStarting; split; simp; split; simp; split <;> simp

@[simp] theorem driveAtWindow_table (d : Drive) :
    (driveAtWindow d s).table = s.table := by unfold driveAtWindow; split <;> (try split) <;> simp
@[simp] theorem driveAtWindow_gov (d : Drive) :
    (driveAtWindow d s).gov = s.gov := by unfold driveAtWindow; split <;> (try split) <;> simp
@[simp] theorem driveAtWindow_env (d : Drive) :
    (driveAtWindow d s).env = s.env := by unfold driveAtWindow; split <;> (try split) <;> simp
@[simp] theorem driveAtWindow_params (d : Drive) :
    (driveAtWindow d s).params = s.params := by unfold driveAtWindow; split <;> (try split) <;> simp
@[simp] theorem driveAtWindow_segs (d : Drive) :
    (driveAtWindow d s).segs = s.segs := by unfold driveAtWindow; split <;> (try split) <;> simp
@[simp] theorem driveAtWindow_speed (d : Drive) :
    (driveAtWindow d s).speed = s.speed := by unfold driveAtWindow; split <;> (try split) <;> simp
@[simp] theorem driveAtWindow_grip (d : Drive) :
    (driveAtWindow d s).grip = s.grip := by unfold driveAtWindow; split <;> (try split) <;> simp
@[simp] theorem driveAtWindow_steer (d : Drive) :
    (driveAtWindow d s).steer = s.steer := by unfold driveAtWindow; split <;> (try split) <;> simp
@[simp] theorem driveAtWindow_load (d : Drive) :
    (driveAtWindow d s).load = s.load := by unfold driveAtWindow; split <;> (try split) <;> simp
@[simp] theorem driveAtWindow_straps (d : Drive) :
    (driveAtWindow d s).straps = s.straps := by unfold driveAtWindow; split <;> (try split) <;> simp
@[simp] theorem driveAtWindow_pins (d : Drive) :
    (driveAtWindow d s).pins = s.pins := by unfold driveAtWindow; split <;> (try split) <;> simp
@[simp] theorem driveAtWindow_free (d : Drive) :
    (driveAtWindow d s).free = s.free := by unfold driveAtWindow; split <;> (try split) <;> simp
@[simp] theorem driveAtWindow_pending (d : Drive) :
    (driveAtWindow d s).pending = s.pending := by unfold driveAtWindow; split <;> (try split) <;> simp

@[simp] theorem handOver_ports : (handOver s).ports = s.ports := rfl
@[simp] theorem handOver_table : (handOver s).table = s.table := rfl
@[simp] theorem handOver_gov : (handOver s).gov = s.gov := rfl
@[simp] theorem handOver_env : (handOver s).env = s.env := rfl
@[simp] theorem handOver_params : (handOver s).params = s.params := rfl
@[simp] theorem handOver_segs : (handOver s).segs = s.segs := rfl
@[simp] theorem handOver_speed : (handOver s).speed = s.speed := rfl
@[simp] theorem handOver_retard : (handOver s).retard = s.retard := rfl
@[simp] theorem handOver_steer : (handOver s).steer = s.steer := rfl
@[simp] theorem handOver_load : (handOver s).load = s.load := rfl
@[simp] theorem handOver_drive : (handOver s).drive = s.drive := rfl
@[simp] theorem handOver_straps : (handOver s).straps = s.straps := rfl
@[simp] theorem handOver_pins : (handOver s).pins = s.pins := rfl
@[simp] theorem handOver_free : (handOver s).free = s.free := rfl
@[simp] theorem handOver_pending : (handOver s).pending = s.pending := rfl

@[simp] theorem handCondition_table (c : HoldCause) (a b : Bool) :
    (handCondition c a b s).table = s.table := by unfold handCondition; split; rfl; split <;> simp
@[simp] theorem handCondition_gov (c : HoldCause) (a b : Bool) :
    (handCondition c a b s).gov = s.gov := by unfold handCondition; split; rfl; split <;> simp
@[simp] theorem handCondition_env (c : HoldCause) (a b : Bool) :
    (handCondition c a b s).env = s.env := by unfold handCondition; split; rfl; split <;> simp
@[simp] theorem handCondition_params (c : HoldCause) (a b : Bool) :
    (handCondition c a b s).params = s.params := by unfold handCondition; split; rfl; split <;> simp
@[simp] theorem handCondition_segs (c : HoldCause) (a b : Bool) :
    (handCondition c a b s).segs = s.segs := by unfold handCondition; split; rfl; split <;> simp
@[simp] theorem handCondition_speed (c : HoldCause) (a b : Bool) :
    (handCondition c a b s).speed = s.speed := by unfold handCondition; split; rfl; split <;> simp
@[simp] theorem handCondition_grip (c : HoldCause) (a b : Bool) :
    (handCondition c a b s).grip = s.grip := by unfold handCondition; split; rfl; split <;> simp
@[simp] theorem handCondition_steer (c : HoldCause) (a b : Bool) :
    (handCondition c a b s).steer = s.steer := by unfold handCondition; split; rfl; split <;> simp
@[simp] theorem handCondition_load (c : HoldCause) (a b : Bool) :
    (handCondition c a b s).load = s.load := by unfold handCondition; split; rfl; split <;> simp
@[simp] theorem handCondition_straps (c : HoldCause) (a b : Bool) :
    (handCondition c a b s).straps = s.straps := by unfold handCondition; split; rfl; split <;> simp
@[simp] theorem handCondition_pins (c : HoldCause) (a b : Bool) :
    (handCondition c a b s).pins = s.pins := by unfold handCondition; split; rfl; split <;> simp
@[simp] theorem handCondition_free (c : HoldCause) (a b : Bool) :
    (handCondition c a b s).free = s.free := by unfold handCondition; split; rfl; split <;> simp
@[simp] theorem handCondition_pending (c : HoldCause) (a b : Bool) :
    (handCondition c a b s).pending = s.pending := by unfold handCondition; split; rfl; split <;> simp

@[simp] theorem leaseCounted_table :
    (leaseCounted s).table = s.table := by unfold leaseCounted; split; simp; split <;> simp
@[simp] theorem leaseCounted_gov :
    (leaseCounted s).gov = s.gov := by unfold leaseCounted; split; simp; split <;> simp
@[simp] theorem leaseCounted_env :
    (leaseCounted s).env = s.env := by unfold leaseCounted; split; simp; split <;> simp
@[simp] theorem leaseCounted_params :
    (leaseCounted s).params = s.params := by unfold leaseCounted; split; simp; split <;> simp
@[simp] theorem leaseCounted_segs :
    (leaseCounted s).segs = s.segs := by unfold leaseCounted; split; simp; split <;> simp
@[simp] theorem leaseCounted_speed :
    (leaseCounted s).speed = s.speed := by unfold leaseCounted; split; simp; split <;> simp
@[simp] theorem leaseCounted_grip :
    (leaseCounted s).grip = s.grip := by unfold leaseCounted; split; simp; split <;> simp
@[simp] theorem leaseCounted_steer :
    (leaseCounted s).steer = s.steer := by unfold leaseCounted; split; simp; split <;> simp
@[simp] theorem leaseCounted_load :
    (leaseCounted s).load = s.load := by unfold leaseCounted; split; simp; split <;> simp
@[simp] theorem leaseCounted_straps :
    (leaseCounted s).straps = s.straps := by unfold leaseCounted; split; simp; split <;> simp
@[simp] theorem leaseCounted_pins :
    (leaseCounted s).pins = s.pins := by unfold leaseCounted; split; simp; split <;> simp
@[simp] theorem leaseCounted_free :
    (leaseCounted s).free = s.free := by unfold leaseCounted; split; simp; split <;> simp
@[simp] theorem leaseCounted_pending :
    (leaseCounted s).pending = s.pending := by unfold leaseCounted; split; simp; split <;> simp

@[simp] theorem silenceCounted_table :
    (silenceCounted s).table = s.table := by unfold silenceCounted; dsimp only; split <;> simp
@[simp] theorem silenceCounted_gov :
    (silenceCounted s).gov = s.gov := by unfold silenceCounted; dsimp only; split <;> simp
@[simp] theorem silenceCounted_env :
    (silenceCounted s).env = s.env := by unfold silenceCounted; dsimp only; split <;> simp
@[simp] theorem silenceCounted_params :
    (silenceCounted s).params = s.params := by unfold silenceCounted; dsimp only; split <;> simp
@[simp] theorem silenceCounted_segs :
    (silenceCounted s).segs = s.segs := by unfold silenceCounted; dsimp only; split <;> simp
@[simp] theorem silenceCounted_speed :
    (silenceCounted s).speed = s.speed := by unfold silenceCounted; dsimp only; split <;> simp
@[simp] theorem silenceCounted_grip :
    (silenceCounted s).grip = s.grip := by unfold silenceCounted; dsimp only; split <;> simp
@[simp] theorem silenceCounted_steer :
    (silenceCounted s).steer = s.steer := by unfold silenceCounted; dsimp only; split <;> simp
@[simp] theorem silenceCounted_load :
    (silenceCounted s).load = s.load := by unfold silenceCounted; dsimp only; split <;> simp
@[simp] theorem silenceCounted_straps :
    (silenceCounted s).straps = s.straps := by unfold silenceCounted; dsimp only; split <;> simp
@[simp] theorem silenceCounted_pins :
    (silenceCounted s).pins = s.pins := by unfold silenceCounted; dsimp only; split <;> simp
@[simp] theorem silenceCounted_free :
    (silenceCounted s).free = s.free := by unfold silenceCounted; dsimp only; split <;> simp
@[simp] theorem silenceCounted_pending :
    (silenceCounted s).pending = s.pending := by unfold silenceCounted; dsimp only; split <;> simp

end Sys2Proof.Machine
end

