-- ==== Sys2Proof/Laws/Requests.lean ====
section
/-! SUPPORT. What taking a request and taking an event inside a periodic step can do, said once. -/

namespace Sys2Proof.Machine

/-! ### Requests (R183 to R186) -/

/-- A request whose sender may send it: its work, and its answer on its link. -/
theorem takeRequest_of {h : Hdr} {a : Owner} {code : Byte} {allowed : Owner → Bool}
    {work : Owner → State → State × Reply} {s : State} (ha : authorityOf h = some a)
    (hw : allowed a = true) :
    takeRequest h code allowed work s =
      (work a s).1.exchanged h.link (answerOf h code (work a s).2) := by
  simp [takeRequest, requestEffect, ha, hw]; rfl

/-- A request whose sender may not send it is refused AUTHORITY. -/
theorem takeRequest_refused {h : Hdr} {code : Byte} {allowed : Owner → Bool}
    {work : Owner → State → State × Reply} {s : State}
    (hr : ∀ a, authorityOf h = some a → allowed a = false) :
    takeRequest h code allowed work s = s.exchanged h.link (refusal h code .authority) := by
  unfold takeRequest requestEffect
  cases ha : authorityOf h with
  | none => rfl
  | some a => simp [hr a ha]; rfl

/-- All that taking a request can do: a refusal that changes the answer buffer alone, or the request's
work. -/
theorem takeRequest_cases (h : Hdr) (code : Byte) (allowed : Owner → Bool)
    (work : Owner → State → State × Reply) (s : State) :
    takeRequest h code allowed work s = s.exchanged h.link (refusal h code .authority) ∨
      ∃ a, authorityOf h = some a ∧ allowed a = true ∧ takeRequest h code allowed work s =
        (work a s).1.exchanged h.link (answerOf h code (work a s).2) := by
  cases ha : authorityOf h with
  | none => exact .inl (takeRequest_refused (by simp [ha]))
  | some a =>
    by_cases hw : allowed a = true
    · exact .inr ⟨a, rfl, hw, takeRequest_of ha hw⟩
    · exact .inl (takeRequest_refused (by simpa [ha] using hw))

/-- A request that any authority may send and that only reads. -/
theorem takeRequest_reading {h : Hdr} {code : Byte} {f : State → Reply} {s : State}
    (ha : authorityOf h ≠ none) :
    takeRequest h code anyAuthority (reading f) s = s.exchanged h.link (answerOf h code (f s)) := by
  obtain ⟨a, ha⟩ := Option.ne_none_iff_exists'.1 ha
  rw [takeRequest_of ha rfl]; rfl

@[simp] theorem answerOf_ok (h : Hdr) (code : Byte) (f : List Byte) :
    answerOf h code (.ok f) = doneAnswer h code f := rfl

@[simp] theorem answerOf_refuse (h : Hdr) (code : Byte) (o : ReplyCode) :
    answerOf h code (.refuse o) = refusal h code o := rfl

/-- The authority of a request is never GOVERNOR (R6). -/
theorem authorityOf_ne_governor {h : Hdr} : authorityOf h ≠ some .governor := by
  unfold authorityOf
  split
  · simp
  · split <;> simp

/-! ### The answer frame (R184, R191) -/

/-- An answer with eight body bytes makes a frame of 12 bytes that passes the frame test. -/
theorem Answer.frame_ok {a : Answer} (h : a.body.length = 8) :
    a.frame.length = 12 ∧ frameOk a.frame = true := by
  simp [Answer.frame, sealFrame, frameOk, u8, h]

/-- Where an answer's parts stand in its frame. -/
theorem Answer.frame_fields {a : Answer} (h : a.body.length = 8) :
    a.frame.take 3 = [a.code, a.tag, BitVec.ofNat 8 a.outcome.value] ∧
      (a.frame.drop 3).take 8 = a.body := by
  simp [Answer.frame, sealFrame, u8, h]

/-- A padded body has eight bytes (R186). -/
@[simp] theorem padBody_length (fields : List Byte) : (padBody fields).length = 8 := by
  simp [padBody]

/-! ### Events inside a periodic step -/

/-- What a command that names such an event can do: nothing, or the step. -/
theorem whenItComesAbout_cases (event : State → State → Bool) (f : State → State) (s : State) :
    (whenItComesAbout event f s = s ∧ event s (f s) = false) ∨
      (whenItComesAbout event f s = f s ∧ event s (f s) = true) := by
  unfold whenItComesAbout
  split <;> simp_all

/-- When the event comes about, the command is the step. -/
theorem whenItComesAbout_of {event : State → State → Bool} {f : State → State} {s : State}
    (h : event s (f s) = true) : whenItComesAbout event f s = f s := by
  simp [whenItComesAbout, h]

/-- A property that a periodic step keeps, each command that names an event of it keeps. -/
theorem whenItComesAbout_keeps {event : State → State → Bool} {f : State → State} {s : State}
    {P : State → Prop} (hs : P s) (hf : P (f s)) : P (whenItComesAbout event f s) := by
  unfold whenItComesAbout; split <;> assumption

/-! ### Answers leave the state alone -/

variable (s : State) (l : Link) (a : Answer)

@[simp] theorem exchanged_table : (s.exchanged l a).table = s.table := rfl
@[simp] theorem exchanged_gov : (s.exchanged l a).gov = s.gov := rfl
@[simp] theorem exchanged_env : (s.exchanged l a).env = s.env := rfl
@[simp] theorem exchanged_params : (s.exchanged l a).params = s.params := rfl
@[simp] theorem exchanged_segs : (s.exchanged l a).segs = s.segs := rfl
@[simp] theorem exchanged_speed : (s.exchanged l a).speed = s.speed := rfl
@[simp] theorem exchanged_torque : (s.exchanged l a).torque = s.torque := rfl
@[simp] theorem exchanged_grip : (s.exchanged l a).grip = s.grip := rfl
@[simp] theorem exchanged_retard : (s.exchanged l a).retard = s.retard := rfl
@[simp] theorem exchanged_steer : (s.exchanged l a).steer = s.steer := rfl
@[simp] theorem exchanged_load : (s.exchanged l a).load = s.load := rfl
@[simp] theorem exchanged_drive : (s.exchanged l a).drive = s.drive := rfl
@[simp] theorem exchanged_straps : (s.exchanged l a).straps = s.straps := rfl
@[simp] theorem exchanged_pins : (s.exchanged l a).pins = s.pins := rfl
@[simp] theorem exchanged_free : (s.exchanged l a).free = s.free := rfl
@[simp] theorem exchanged_pending : (s.exchanged l a).pending = s.pending := rfl

/-- The link of an exchange gives out the answer it held and holds the new one. -/
@[simp] theorem exchanged_port_answer : ((s.exchanged l a).port l).answer = a := by
  cases l <;> rfl
@[simp] theorem exchanged_port_given : ((s.exchanged l a).port l).given = (s.port l).answer := by
  cases l <;> rfl

end Sys2Proof.Machine
end

