-- ==== Sys2Proof/Laws/Drive.lean ====
section
/-! SUPPORT. What a brake assist evaluation, an entry to a drive state and a handed cause can do, said
once. -/

namespace Sys2Proof.Machine

/-! ### Attention and the brake assist evaluation (R129, R130, R187) -/

/-- The ports after a cause is made pending on both links. -/
def raisedPorts (c : Attention) (p : Ports) : Ports := ⟨p.operations.raised c, p.safety.raised c⟩

theorem raiseIf_eq (b : Bool) (c : Attention) (s : State) :
    raiseIf b c s = { s with ports := if b then raisedPorts c s.ports else s.ports } := by
  cases b <;> rfl

/-- A raised cause is pending. -/
theorem raised_pending (c : Attention) (p : Port) : (p.raised c).pending &&& c.bit = c.bit := by
  simp only [Port.raised]
  ext i hi
  cases h : c.bit[i] <;> simp [h]

/-- A cause that is pending stays pending when another is raised. -/
theorem raised_keeps {c d : Attention} {p : Port} (h : p.pending &&& c.bit = c.bit) :
    (p.raised d).pending &&& c.bit = c.bit := by
  simp only [Port.raised]
  ext i hi
  have := congrArg (fun x : BitVec 9 => x[i]) h
  simp only [BitVec.getElem_and, BitVec.getElem_or] at this ⊢
  cases hc : c.bit[i] <;> simp_all

theorem raisedPorts_pending (c : Attention) (p : Ports) (l : Link) :
    ((raisedPorts c p).get l).pending &&& c.bit = c.bit := by
  cases l <;> exact raised_pending _ _

theorem raisedPorts_keeps {c d : Attention} {p : Ports}
    (h : ∀ l, (p.get l).pending &&& c.bit = c.bit) (l : Link) :
    ((raisedPorts d p).get l).pending &&& c.bit = c.bit := by
  cases l
  · exact raised_keeps (h .operations)
  · exact raised_keeps (h .safety)

/-- All that a brake assist evaluation does. -/
theorem evaluateAssist_eq (s : State) :
    evaluateAssist s = { setAssist s with
      ports := if s.retard.assist = 0 ∧ (setAssist s).retard.assist ≠ 0
        then raisedPorts .brakeAssistOn s.ports else s.ports } := by
  unfold evaluateAssist
  rw [raiseIf_eq]
  have : (setAssist s).ports = s.ports := rfl
  simp only [this]
  by_cases h1 : s.retard.assist = 0 <;> by_cases h2 : (setAssist s).retard.assist = 0 <;> simp [h1, h2]

/-- A cause pending before an evaluation is pending after it. -/
theorem evaluateAssist_keeps {c : Attention} {s : State} (h : PendingOnBoth c s) :
    PendingOnBoth c (evaluateAssist s) := by
  intro l
  rw [evaluateAssist_eq]
  show (Ports.get (if _ then _ else _) l).pending &&& _ = _
  split
  · exact raisedPorts_keeps h l
  · exact h l

theorem raiseIf_keeps {c d : Attention} {b : Bool} {s : State} (h : PendingOnBoth c s) :
    PendingOnBoth c (raiseIf b d s) := by
  intro l
  rw [raiseIf_eq]
  show (Ports.get (if _ then _ else _) l).pending &&& _ = _
  split
  · exact raisedPorts_keeps h l
  · exact h l

theorem raiseIf_raises {c : Attention} {b : Bool} {s : State} (h : b = true) :
    PendingOnBoth c (raiseIf b c s) := by
  subst h
  exact fun l => raisedPorts_pending c s.ports l

/-! ### Entering a drive state (R77, R87, R170, R171) -/

/-- The state at the entry, before the causes of attention and the brake assist level. -/
def entered (d : Drive) (s : State) : State :=
  { s with
    drive := { s.drive with
      state := d
      brakeApply := brakeOnEntry d s.speed.v
      tripMark := s.drive.tripMark && s.drive.state != .starting }
    torque := torqueOnEntry d s.torque }

/-- All that an entry to a drive state does. -/
theorem enter_eq (d : Drive) (s : State) : ∃ p : Ports,
    enter d s = { entered d s with
      ports := p
      retard := { s.retard with
        causes := assistCauses (entered d s)
        assist := assistLevel (assistCauses (entered d s))
          (retardShortLevel s.speed.v s.torque.vmax (s.param .assistGain)) } } := by
  refine ⟨(enter d s).ports, ?_⟩
  unfold enter
  rw [evaluateAssist_eq, raiseIf_eq, raiseIf_eq]
  rfl

/-- An entry to HOLD or TRIPPED makes its cause pending on both links (R170). -/
theorem enter_raises (d : Drive) (s : State) :
    (d = .hold → PendingOnBoth .holdEntered (enter d s)) ∧
      (d = .tripped → PendingOnBoth .tripped (enter d s)) := by
  refine ⟨fun h => ?_, fun h => ?_⟩ <;> subst h <;> unfold enter
  · exact evaluateAssist_keeps (raiseIf_keeps (raiseIf_raises rfl))
  · exact evaluateAssist_keeps (raiseIf_raises rfl)

/-- A cause pending before an entry is pending after it. -/
theorem enter_keeps {c : Attention} {s : State} (d : Drive) (h : PendingOnBoth c s) :
    PendingOnBoth c (enter d s) := by
  unfold enter
  exact evaluateAssist_keeps (raiseIf_keeps (raiseIf_keeps (s := { s with
    drive := _, torque := _ }) h))

@[simp] theorem enter_state (d : Drive) (s : State) : (enter d s).drive.state = d := by
  obtain ⟨p, h⟩ := enter_eq d s
  rw [h]; rfl

theorem enter_drive (d : Drive) (s : State) : (enter d s).drive = { s.drive with
    state := d
    brakeApply := brakeOnEntry d s.speed.v
    tripMark := s.drive.tripMark && s.drive.state != .starting } := by
  obtain ⟨p, h⟩ := enter_eq d s
  rw [h]; rfl

theorem enter_torque (d : Drive) (s : State) : (enter d s).torque = torqueOnEntry d s.torque := by
  obtain ⟨p, h⟩ := enter_eq d s
  rw [h]; rfl

theorem enter_wheel (d : Drive) (s : State) (w : Wheel) : (enter d s).wheel w =
    wheelOnEntry d (if d = .starting then .forward else s.torque.direction) (s.wheel w) := by
  simp only [State.wheel, enter_torque, torqueOnEntry]
  cases w <;> cases d <;> rfl

/-- The brake assist level is at most 1000, and 1000 under TRIP (R129). -/
theorem assistLevel_le (c : AssistCauses) {r : Nat} (hr : r ≤ 1000) :
    assistLevel c r ≤ 1000 ∧ (c.trip = true → assistLevel c r = 1000) := by
  have key : assistLevel c r ≤ 1000 := by
    unfold assistLevel
    repeat' refine Nat.max_le.2 ⟨?_, ?_⟩
    all_goals (split <;> omega)
  refine ⟨key, fun h => Nat.le_antisymm key ?_⟩
  unfold assistLevel
  rw [if_pos h]
  exact Nat.le_max_left _ _

theorem retardShortLevel_le (v vmax gain : Nat) : retardShortLevel v vmax gain ≤ 1000 :=
  Nat.min_le_left _ _

/-- The brake assist level in TRIPPED is 1000 (R129). -/
theorem enter_tripped_assist (s : State) : (enter .tripped s).retard.assist = 1000 := by
  obtain ⟨p, h⟩ := enter_eq .tripped s
  rw [h]
  exact (assistLevel_le _ (retardShortLevel_le _ _ _)).2 rfl

/-- The modes of the wheels change at the entry to PARKED alone (R92). -/
theorem enter_mode {d : Drive} (h : d ≠ .parked) (s : State) (w : Wheel) :
    ((enter d s).wheel w).mode = (s.wheel w).mode := by
  rw [enter_wheel]
  cases d <;> simp_all [wheelOnEntry, WheelState.zeroed]
  split <;> rfl

/-! ### Handed causes (R172, R173, R93) -/

/-- A hold cause acts by the drive state (R172). -/
theorem handHold_ready {c : HoldCause} {s : State} (h : s.drive.state = .ready) :
    handHold c s = enterHold (HoldSet.empty.add c)
      { s with drive := { s.drive with conditions := s.drive.conditions.add c } } := by
  simp [handHold, h]

theorem handHold_hold {c : HoldCause} {s : State} (h : s.drive.state = .hold) :
    handHold c s = { s with drive := { s.drive with
      conditions := s.drive.conditions.add c, hold := s.drive.hold.add c } } := by
  simp [handHold, h]

theorem handHold_other {c : HoldCause} {s : State} (h1 : s.drive.state ≠ .ready)
    (h2 : s.drive.state ≠ .hold) : handHold c s =
      { s with drive := { s.drive with conditions := s.drive.conditions.add c } } := by
  unfold handHold
  cases h : s.drive.state <;> simp_all

/-- A trip cause in TRIPPED joins the later ones (R173). -/
theorem handTrip_tripped {c : TripCause} {s : State} (h : s.drive.state = .tripped) :
    handTrip c s = { s with drive := { s.drive with
      later := if s.drive.trip = some c then s.drive.later else s.drive.later.add c } } := by
  unfold handTrip
  rw [if_pos h]
  split <;> rfl

/-- A trip cause outside TRIPPED enters it (R173). -/
theorem handTrip_other {c : TripCause} {s : State} (h : s.drive.state ≠ .tripped) :
    handTrip c s = enter .tripped { s with drive := { s.drive with
      trip := some c, later := .empty, hold := .empty, timer := none
      outcome := if s.drive.state = .releasing then .aborted else s.drive.outcome
      applyCount := 0 } } := by
  unfold handTrip
  rw [if_neg h]

/-- After a trip cause the drive is TRIPPED. -/
@[simp] theorem handTrip_state (c : TripCause) (s : State) : (handTrip c s).drive.state = .tripped := by
  by_cases h : s.drive.state = .tripped
  · rw [handTrip_tripped h]; exact h
  · rw [handTrip_other h]; simp

theorem isMuted_iff (x : WheelState) : x.isMuted = true ↔ x.mode ≠ .governed := by
  simp [WheelState.isMuted]

/-- The wheel-loss cause by the number of MUTED wheels (R93). -/
theorem handWheelLoss_cases (s : State) :
    (¬(s.drive.state = .ready ∨ s.drive.state = .hold) → handWheelLoss s = s) ∧
    ((s.drive.state = .ready ∨ s.drive.state = .hold) →
      ((∀ w, (s.wheel w).mode = .governed) → handWheelLoss s = s) ∧
      (∀ w, (s.wheel w).mode ≠ .governed → (s.wheel w.other).mode = .governed →
        handWheelLoss s = handHold .wheelLost s) ∧
      ((∀ w, (s.wheel w).mode ≠ .governed) →
        handWheelLoss s = handTrip .bothWheelsLost s)) := by
  refine ⟨fun h => by simp [handWheelLoss, h], fun h => ⟨fun hw => ?_, fun w h1 h2 => ?_, fun hw => ?_⟩⟩
  · have l := hw .left; have r := hw .right
    simp [State.wheel, PerWheel.get] at l r
    simp [handWheelLoss, h, WheelState.isMuted, l, r]
  · cases w <;> simp [State.wheel, PerWheel.get, Wheel.other] at h1 h2 <;>
      simp [handWheelLoss, h, WheelState.isMuted, h1, h2]
  · have l := hw .left; have r := hw .right
    simp [State.wheel, PerWheel.get] at l r
    simp [handWheelLoss, h, WheelState.isMuted, l, r]

end Sys2Proof.Machine
end

