-- ==== Sys2Proof/Laws/Load.lean ====
section
/-! SUPPORT. The bounds of R156 on what a load window stores: samples, their list, their mean. -/

namespace Sys2Proof.Machine

/-- Every sprung sample lies within R156's range. -/
theorem sprungOf_le (p : Four Nat) (area : Nat) : sprungOf p area ≤ 30000 :=
  Nat.min_le_left _ _

/-- The sprung sample is R158's figure wherever that lies within R156's range. -/
theorem sprungOf_eq {p : Four Nat} {area : Nat} (h : sprungFigure p area ≤ 30000) :
    sprungOf p area = sprungFigure p area := Nat.min_eq_right h

/-- A sample list never grows past sixteen (R156). -/
theorem joined_length_le {l : List Nat} {x : Nat} (h : l.length ≤ 16) : (joined l x).length ≤ 16 := by
  unfold joined; split <;> simp <;> omega

/-- What a joined list holds: the sample, and nothing that the list did not hold. -/
theorem mem_joined {l : List Nat} {x y : Nat} (h : y ∈ joined l x) : y ∈ l ∨ y = x := by
  unfold joined at h
  split at h <;> simp at h
  · exact h.imp List.mem_of_mem_tail id
  · exact h

/-- The mean of samples within a bound is within it. -/
theorem meanOf_le {l : List Nat} {b : Nat} (h : ∀ x, x ∈ l → x ≤ b) : meanOf l ≤ b := by
  have hs : l.sum ≤ l.length * b := by
    simpa using List.sum_le_card_nsmul l b h
  exact Nat.div_le_of_le_mul hs

end Sys2Proof.Machine
end

