-- ==== Sys2Proof/Laws/Speed.lean ====
section
/-! SUPPORT. What stage 1 of a window works out and its ground speed and selection leave standing, said
once. -/

namespace Sys2Proof.Machine

/-- The unit with all that stages 2 and 4 of a window write blanked. -/
def SpeedUnit.readings (u : SpeedUnit) : SpeedUnit :=
  { u with v := 0, current := none, pending := none, reference := .seeking, sourceFail := false }

@[simp] theorem SpeedUnit.readings_measured (u : SpeedUnit) : u.measured.readings = u.readings := by
  unfold measured; split <;> rfl

@[simp] theorem SpeedUnit.readings_fallback (u : SpeedUnit) : u.fallback.readings = u.readings := by
  unfold fallback; (repeat' split) <;> rfl

@[simp] theorem SpeedUnit.readings_switched (u : SpeedUnit) : u.switched.readings = u.readings := by
  unfold switched; (repeat' split) <;> rfl

@[simp] theorem SpeedUnit.readings_started (p : Source) (u : SpeedUnit) :
    (u.started p).readings = u.readings := by
  unfold started; (repeat' split) <;> rfl

/-- A window's selection leaves the trackers and readings of stage 3 as they are. -/
theorem unitSelected_readings (i : WindowIn) (s : State) :
    (unitSelected i s).readings = (unitTracked i s).readings := by
  simp [unitSelected]

/-- After its selection a window's counts and front sensors' speeds are those of stage 1 (R53). -/
theorem unitSelected_front (i : WindowIn) (s : State) :
    (unitSelected i s).pulses = (readSources i s).pulses ∧
      (unitSelected i s).sensors = (readSources i s).sensors := by
  have h : (unitSelected i s).readings = (readSources i s).measured.tracked.readings :=
    unitSelected_readings i s
  have g := (readSources i s).readings_measured
  exact ⟨(congrArg SpeedUnit.pulses h).trans (congrArg (fun u : SpeedUnit => u.pulses) g :),
    (congrArg SpeedUnit.sensors h).trans (congrArg (fun u : SpeedUnit => u.sensors) g :)⟩

/-- Each front sensor's speed of a window is worked out from the counts kept, whatever its line monitor
found (R53). -/
theorem readSources_sensors (i : WindowIn) (s : State) :
    (readSources i s).sensors =
      ⟨sensorSpeed s (readSources i s).pulses.left, sensorSpeed s (readSources i s).pulses.right⟩ := rfl

end Sys2Proof.Machine
end

