-- ==== Sys2Proof/Laws/Table.lean ====
section
/-! SUPPORT. What slot updates, searches of the Limit Table, governor updates and a resolution do, said
once. -/

namespace Sys2Proof.Machine

/-! ### Slots (R2, R3) -/

/-- What a function applied to every slot leaves in one. -/
theorem mapSlots_get (f : Slot → Slot) (t : Vector Slot 39) (i : Fin 39) :
    (mapSlots f t)[i.val] = f t[i.val] := by
  simp [mapSlots]

/-- A function that leaves every slot as it is leaves the table as it is. -/
theorem mapSlots_id {f : Slot → Slot} {t : Vector Slot 39} (h : ∀ i : Fin 39, f t[i.val] = t[i.val]) :
    mapSlots f t = t := by
  ext n hn
  all_goals
    have := h ⟨n, hn⟩
    have e := mapSlots_get f t ⟨n, hn⟩
    simp only at e this
    simp [e, this]

/-- A slot that is not written keeps its contents. -/
theorem setSlot_other {t : Vector Slot 39} {i j : Fin 39} {x : Slot} (h : j ≠ i) :
    (t.set i.val x)[j.val] = t[j.val] := by
  rw [Vector.getElem_set_ne]
  exact fun e => h (Fin.ext e.symm)

/-- No slot is picked exactly when the count is 0. -/
theorem countSlots_zero {s : State} {p : Slot → Bool} :
    countSlots p s = 0 ↔ ∀ i : Fin 39, p s.table[i.val] = false := by
  unfold countSlots
  rw [List.length_eq_zero_iff, List.filter_eq_nil_iff]
  constructor
  · intro h i
    simpa using h s.table[i.val] (by simp [Vector.mem_toList_iff])
  · intro h x hx
    rw [Vector.mem_toList_iff, Vector.mem_iff_getElem] at hx
    obtain ⟨n, hn, rfl⟩ := hx
    simpa using h ⟨n, hn⟩

/-! ### Searches (R3, R7, R14, R20, R21) -/

/-- A search that exactly one slot passes finds it. -/
theorem findSlot_unique {i : Fin 39} {p : Fin 39 → Bool} (hi : p i = true)
    (hu : ∀ j, p j = true → j = i) : extSlots.find? p = some i := by
  rw [List.find?_eq_some_iff_append]
  obtain ⟨as, bs, h⟩ := List.append_of_mem (List.mem_finRange i)
  refine ⟨hi, as, bs, h, fun a ha => ?_⟩
  have nd : (List.finRange 39).Nodup := List.nodup_finRange 39
  rw [h] at nd
  by_contra hc
  have : a = i := hu a (by simpa using hc)
  subst this
  exact (List.nodup_append.1 nd).2.2 a ha a (by simp) rfl

/-- A search finds the lowest slot that passes. -/
theorem findSlot_least {i : Fin 39} {p : Fin 39 → Bool} (hi : p i = true)
    (hu : ∀ j, p j = true → i ≤ j) : extSlots.find? p = some i := by
  rw [List.find?_eq_some_iff_append]
  obtain ⟨as, bs, h⟩ := List.append_of_mem (List.mem_finRange i)
  refine ⟨hi, as, bs, h, fun a ha => ?_⟩
  by_contra hc
  have h1 : i ≤ a := hu a (by simpa using hc)
  have h2 : (List.finRange 39).Pairwise (· < ·) := List.pairwise_lt_finRange 39
  rw [h] at h2
  exact absurd ((List.pairwise_append.1 h2).2.2 a ha i (by simp)) (by omega)

/-- A search that no slot passes finds none. -/
theorem findSlot_none {p : Fin 39 → Bool} (hu : ∀ j, p j = false) : extSlots.find? p = none := by
  rw [List.find?_eq_none]
  intro x _
  simp [hu x]

/-- A handle with a slot's number and generation matches the record in it. -/
theorem matchHandle_ext {s : State} {slot gen : Byte} {i : Fin 39} {r : Rec} (hs : slot.toNat = i.val)
    (hg : gen.toNat = s.table[i.val].gen) (hr : s.table[i.val].record = some r) :
    matchHandle s slot.toNat gen.toNat = some (.ext i r) := by
  simp only [hs] at *
  simp [matchHandle, hr, hg]

/-- The handle field of a slot is the two bytes that named it. -/
theorem handleField_of {s : State} {slot gen : Byte} {i : Fin 39} (hs : slot.toNat = i.val)
    (hg : gen.toNat = s.table[i.val].gen) : handleField (handleOf s i) = [slot, gen] := by
  have e1 : BitVec.ofNat 8 i.val = slot := by rw [← hs]; simp
  have e2 : BitVec.ofNat 8 s.table[i.val].gen = gen := by rw [← hg]; simp
  simp only [handleField, handleOf, u8, e1, e2]
  rfl

/-! ### Resolution and governor updates (R9, R29 to R32) -/

/-- A resolution leaves the envelope resolved, with A kept against it. -/
theorem resolve_resolved (s : State) : ResolvedFrom s.env.applied (resolve s) := by
  refine ⟨rfl, rfl, ?_⟩
  show keepApplied (resolveWheel s .left).speedMax.value
      (immediateBinding s (resolveWheel s .left).speedMax.handle) s.env.applied =
    if s.env.applied ≤ (resolveWheel s .left).speedMax.value ∨
        immediateBinding s (resolveWheel s .left).speedMax.handle = true
      then (resolveWheel s .left).speedMax.value else s.env.applied
  unfold keepApplied
  split <;> [simp [*]; skip]
  split <;> simp [*]

/-- All that a hand-over of updates can do: nothing, or the new table, resolved. -/
theorem updateGov_cases (us : List (Gov × Option Nat)) (s : State) :
    (us.foldl applyGov s.gov = s.gov ∧ updateGov us s = s) ∨
      (us.foldl applyGov s.gov ≠ s.gov ∧
        updateGov us s = resolve { s with gov := us.foldl applyGov s.gov }) := by
  by_cases h : us.foldl applyGov s.gov = s.gov
  · exact .inl ⟨h, by simp [updateGov, h]⟩
  · exact .inr ⟨h, by simp [updateGov, h]⟩

/-- After a hand-over the table is the updated one. -/
theorem updateGov_gov (us : List (Gov × Option Nat)) (s : State) :
    (updateGov us s).gov = us.foldl applyGov s.gov := by
  rcases updateGov_cases us s with ⟨h, e⟩ | ⟨_, e⟩ <;> rw [e]
  · exact h.symm
  · rfl

/-- A hand-over that changes the table resolves it; one that does not leaves the envelope. -/
theorem updateGov_env (us : List (Gov × Option Nat)) (s : State) :
    ((updateGov us s).gov = s.gov → (updateGov us s).env = s.env) ∧
      ((updateGov us s).gov ≠ s.gov → ResolvedFrom s.env.applied (updateGov us s)) := by
  rcases updateGov_cases us s with ⟨_, e⟩ | ⟨h, e⟩ <;> rw [e]
  · exact ⟨fun _ => rfl, fun h => absurd rfl h⟩
  · exact ⟨fun h' => absurd h' h, fun _ => resolve_resolved _⟩

/-- A hand-over changes the governor records and the envelope alone. -/
theorem updateGov_keeps (us : List (Gov × Option Nat)) (s : State) :
    updateGov us s = { s with gov := (updateGov us s).gov, env := (updateGov us s).env } := by
  rcases updateGov_cases us s with ⟨_, e⟩ | ⟨_, e⟩ <;> rw [e] <;> rfl

/-! ### The least value (R29, R30) -/

/-- The least value is at most the default. -/
theorem leastValue_le_default (d : Nat) (rs : List ActiveRec) : leastValue d rs ≤ d := by
  induction rs generalizing d with
  | nil => exact Nat.le_refl _
  | cons r rs ih => exact Nat.le_trans (ih _) (Nat.min_le_left _ _)

/-- The least value is at most every record's. -/
theorem leastValue_le {d : Nat} {rs : List ActiveRec} {r : ActiveRec} (h : r ∈ rs) :
    leastValue d rs ≤ r.value := by
  induction rs generalizing d with
  | nil => simp at h
  | cons q rs ih =>
    rcases List.mem_cons.1 h with rfl | h
    · exact Nat.le_trans (leastValue_le_default _ rs) (Nat.min_le_right _ _)
    · exact ih h

/-- The least value is the default or a record's. -/
theorem leastValue_attained (d : Nat) (rs : List ActiveRec) :
    leastValue d rs = d ∨ ∃ r, r ∈ rs ∧ r.value = leastValue d rs := by
  induction rs generalizing d with
  | nil => exact .inl rfl
  | cons q rs ih =>
    rcases ih (min d q.value) with h | ⟨r, hr, h⟩
    · change leastValue (min d q.value) rs = _ at h
      by_cases hq : d ≤ q.value
      · exact .inl (by show leastValue (min d q.value) rs = d; rw [h]; omega)
      · refine .inr ⟨q, by simp, ?_⟩
        show q.value = leastValue (min d q.value) rs
        rw [h]; omega
    · exact .inr ⟨r, by simp [hr], h⟩

end Sys2Proof.Machine
end

