-- ==== Sys2Proof/Tests/Slice0.lean ====
section
/-! SUPPORT. The model's own tests: the well-formedness smoke test, single steps with figures from the
spec's worked sequences, and for every statement of Obligations.lean that has hypotheses a witness of
them, clause by clause. -/

namespace Sys2Proof.Tests

open Sys2Proof Sys2Proof.Machine

-- One theorem at a time: a hundred kernel evaluations at once ask for a hundred thread stacks.
set_option Elab.async false

/-! ### Helpers -/

def fromSafety : Hdr := ⟨.safety, 1, 0⟩
def fromOperator : Hdr := ⟨.operations, 2, 0⟩
def fromDispatch : Hdr := ⟨.operations, 3, 1⟩
def fromAutonomy : Hdr := ⟨.operations, 4, 2⟩
def fromNobody : Hdr := ⟨.operations, 5, 3⟩

/-- A check of the next state, if there is one. -/
def after (o : Host.Outcome State Fault Refusal) (p : State → Bool) : Bool :=
  match o with
  | .next t => p t
  | .fault _ => false
  | .refused _ => false

/-- The outcome and the leading body bytes of a link's answer. -/
def answers (l : Link) (o : ReplyCode) (fields : List Byte) (t : State) : Bool :=
  (t.port l).answer.outcome == o && (t.port l).answer.body == padBody fields

/-- A wheel GOVERNED with its link UP and this last command. -/
def upWheel (tprev : Int) : WheelState :=
  { WheelState.reset with
    tprev := tprev, link := .up, silence := 0, mode := .governed, stage := .none
    history := Vector.replicate 10 tprev }

/-- A truck in a drive state at a speed, FRONT current and TRACKING, both wheels GOVERNED. -/
def truck (d : Drive) (v : Nat) : State :=
  let s := State.reset
  { s with
    drive := { s.drive with
      state := d
      brakeApply := d == .parked || d == .tripped
      timer := if d == .releasing then some 2000 else none
      hold := if d == .hold then { HoldSet.empty with demandLost := true } else .empty
      trip := if d == .tripped then some .trip else none }
    speed := { s.speed with
      current := some .front, reference := .valid, v := v, windows := 100
      trackers := { s.speed.trackers with front := ⟨.tracking, 8, 0, v, true⟩ } }
    torque := { s.torque with
      lease := if d == .ready then some 25 else none
      wheels := ⟨upWheel 0, upWheel 0⟩ }
    retard := { s.retard with assist := if d == .tripped then 1000 else 0 } }

/-- A truck with other last commands on both wheels. -/
def pulling (t : Int) (s : State) : State :=
  { s with torque := { s.torque with wheels := ⟨upWheel t, upWheel t⟩ } }

def still : WindowIn := ⟨⟨0, 0⟩, ⟨true, true⟩⟩
def broken : WindowIn := ⟨⟨0, 0⟩, ⟨false, true⟩⟩
def wheelsAhead (a : Int) : SteerIn := ⟨a, true, 1500, true⟩
def gridsAt (kw volts : Nat) : CapacityIn :=
  ⟨⟨⟨true, kw⟩, ⟨true, kw⟩, ⟨true, kw⟩, ⟨true, kw⟩⟩, volts⟩
def emptyStruts : Four Nat := ⟨257, 257, 256, 256⟩
def laden : Four Nat := ⟨742, 738, 701, 709⟩

/-! ### Well-formedness: each check refuses an ill-formed command -/

theorem test_frame_error_needs_a_failing_frame :
    (Instr.frameError .operations (requestFrame fromSafety 0 [])).wellFormed = false ∧
      (Instr.frameError .operations []).wellFormed = true := by decide +kernel

theorem test_unknown_request_needs_an_unlisted_code :
    (Instr.unknownRequest fromSafety 0x10).wellFormed = false ∧
      (Instr.unknownRequest fromSafety 0x99).wellFormed = true := by decide +kernel

theorem test_capacity_readings_need_their_ranges :
    (Instr.capacityStep (gridsAt 4001 0)).wellFormed = false ∧
      (Instr.gridFault .g1 (gridsAt 4001 0)).wellFormed = false ∧
      (Instr.linkVoltageClear (gridsAt 0 4001)).wellFormed = false ∧
      (Instr.capacityStep (gridsAt 4000 4000)).wellFormed = true := by decide +kernel

theorem test_strut_readings_need_two_bytes :
    (Instr.loadWindow ⟨65536, 0, 0, 0⟩).wellFormed = false ∧
      (Instr.latchEnd ⟨0, 0, 0, 65536⟩).wellFormed = false ∧
      (Instr.loadWindow ⟨65535, 0, 0, 0⟩).wellFormed = true := by decide +kernel

/-! ### Single steps, with figures of the worked sequences -/

/-- The ramp of Chapter 5's first worked sequence. -/
def ramp : State :=
  let s := pulling (-400) (truck .ready 240)
  { s with
    env := { s.env with applied := 226 }
    retard := { s.retard with pcap := 2922 }
    steer := { s.steer with command := some 0 }
    torque := { s.torque with demand := some (-300) } }

/-- Worked sequence of Chapter 5, retarding on the ramp: −415 to each wheel, limiting stage RATE, flag
clear. -/
theorem test_command_step_on_the_ramp :
    after (exec .commandStep ramp) (fun t =>
      (t.wheel .left).tprev == -415 && (t.wheel .right).sent == ⟨-415, .forward⟩ &&
        (t.wheel .left).stage == .rate && (t.wheel .left).retardBound == false &&
        t.torque.vmax == 226) = true := by decide +kernel

/-- The same sequence's next step: −427 and the flag set. By R84 S6 gives −427, so POWER is the stage
(log entry 37). -/
theorem test_command_step_at_the_retard_bound :
    after (exec .commandStep (pulling (-415) ramp)) (fun t =>
      (t.wheel .left).tprev == -427 && (t.wheel .left).stage == .power &&
        (t.wheel .left).retardBound == true && t.retard.assist == 280) = true := by decide +kernel

/-- Worked sequence, propel in a turn, step 1: LEFT 365, RIGHT 405. -/
theorem test_command_step_in_a_turn :
    after (exec .commandStep
        { ramp with
          env := { ramp.env with applied := 200 }
          speed := { ramp.speed with v := 190 }
          steer := { ramp.steer with command := some 150 }
          torque := { ramp.torque with demand := some 800, wheels := ⟨upWheel 380, upWheel 420⟩ } })
      (fun t => (t.wheel .left).tprev == 365 && (t.wheel .right).tprev == 405) = true := by
  decide +kernel

/-- Worked sequence, losing a wheel on the ramp, events 1 and 2. -/
theorem test_wheel_lost_on_the_ramp :
    after (exec (.inverterMessage .left 500 true) (pulling (-427) ramp)) (fun t =>
      (t.wheel .left).tprev == 0 && (t.wheel .right).tprev == -427 && t.drive.state == .hold &&
        t.drive.hold.wheelLost &&
        after (exec .commandStep t) (fun u => (u.wheel .right).tprev == -442)) = true := by
  decide +kernel

/-- Worked sequence of Chapter 1, event 1: the placement takes slot 0 and reads back its handle. -/
theorem test_place_limit :
    after (exec (.placeLimit fromDispatch 0 0 300 0 0 0) State.reset) (fun t =>
      answers .operations .done [0, 1] t && t.env.left.speedMax == ⟨300, some ⟨0, 1⟩⟩ &&
        t.env.applied == 640 &&
        after (exec .envelopeStep t) (fun u => u.env.applied == 635)) = true := by decide +kernel

/-- Worked sequence of Chapter 3, events 1 and 9: a segment loaded and entered is IN_USE. -/
theorem test_segment_in_use :
    after (exec (.loadSegment fromDispatch 21 (-95) 22 0) State.reset) (fun t =>
      answers .operations .done [21, 1] t &&
        after (exec (.enterSegment fromAutonomy 21 0) t) (fun u =>
          answers .operations .done [21, 0, 0] u &&
            after (exec (.retireSegment fromDispatch 21) u) (answers .operations .inUse []))) = true := by
  decide +kernel

/-- Worked sequence of Chapter 4, the conversions: front 226 and 231, REAR 228 from 225 and 231. -/
theorem test_conversions :
    sensorSpeed State.reset [123] = 226 ∧ sensorSpeed State.reset [126] = 231 ∧
      frontPasses 4 ⟨true, true⟩ 226 231 = true ∧ surfaceSpeed State.reset 968 = 225 ∧
      surfaceSpeed State.reset 990 = 231 := by decide +kernel

/-- The truck of Chapter 7's worked sequence before its capacity step. -/
def onTheRamp : State :=
  let s := pulling (-427) (truck .ready 240)
  let g (theta alloc : Nat) : Grid := ⟨.ready, theta, true, 0, alloc, 0, 0, 0, 0, 0⟩
  { s with
    retard := { s.retard with grids := ⟨g 5200 810, g 5800 810, g 6300 567, g 6100 729⟩ }
    load := { s.load with state := .latched, value := 3420, cls := .over1 }
    segs := ⟨[⟨21, -95, 22, .dry⟩], some 21, .along⟩
    params := s.params.set 26 4200 }

/-- One capacity step on the ramp and grade speed on segment 21: P_cap 2922, P_req 2918, allocations,
temperatures, and GRADE_SPEED 226. -/
theorem test_capacity_step_on_the_ramp :
    after (exec (.capacityStep
        ⟨⟨⟨true, 810⟩, ⟨true, 810⟩, ⟨true, 567⟩, ⟨true, 729⟩⟩, 700⟩) onTheRamp) (fun t =>
      t.retard.pcap == 2922 && t.retard.preq == 2918 &&
        t.retard.grids.map Grid.alloc == ⟨810, 810, 567, 729⟩ &&
        t.retard.grids.map Grid.duty == ⟨578, 578, 405, 520⟩ &&
        t.retard.grids.map Grid.theta == ⟨5201, 5801, 6298, 6099⟩ &&
        t.retard.vraw == 252 && t.gov.gradeSpeed == ⟨true, 226, true⟩ &&
        t.env.left.speedMax == ⟨226, some ⟨39, 0⟩⟩) = true := by decide +kernel

/-- Worked sequence of Chapter 7, the sweep: event 1 refused, event 2 taken, event 4 not ready. -/
theorem test_sweep_requests :
    after (exec (.startSweep fromDispatch 20 20 4000 400) State.reset)
        (answers .operations .badValue []) = true ∧
      after (exec (.startSweep fromDispatch 20 20 4000 300) State.reset) (fun t =>
        after (exec (.readSweep fromDispatch) t) (answers .operations .notReady []) &&
          after (exec .sweepEntry t) (fun u =>
            match u.retard.sweep with
            | .running _ [e] => e.grade == 20 && e.mass == 4000 && e.marker == .noSlope
            | _ => false)) = true := by decide +kernel

/-- Worked sequence of Chapter 8, the bend: the command moves 7 a step toward 172, STEER_CURVE 205. -/
theorem test_steer_step_in_a_bend :
    after (exec (.steerStep (wheelsAhead 150))
        { truck .ready 190 with
          steer := { SteerGov.reset with command := some 150 }
          torque := { (truck .ready 190).torque with steerDemand := some 200 } })
      (fun t => t.steer.command == some 157 && t.steer.alim == 172 && t.steer.target == some 172 &&
        t.gov.steerCurve == ⟨true, 205, true⟩) = true := by decide +kernel

/-- A truck weighed at the shovel, its list full. -/
def shovel : State :=
  { truck .parked 0 with
    load := { LoadMon.reset with
      state := .measuring, samples := List.replicate 16 1882, cls := .normal } }

/-- Worked sequence of Chapter 9, event 1: TARE makes the tare 1882 from 16 samples. -/
theorem test_tare :
    after (exec (.tare fromDispatch) shovel) (fun t =>
      t.load.tare == 1882 && t.load.value == 0 && answers .operations .done [0x5A, 0x07, 16] t) =
      true := by decide +kernel

/-- The first laden sample: sprung 5302, one of sixteen. -/
theorem test_load_window_takes_a_sample :
    after (exec (.loadWindow laden) shovel) (fun t =>
      t.load.samples.getLast? == some 5302 && t.load.samples.length == 16 &&
        t.load.value == 195 && t.load.cls == .normal) = true := by decide +kernel

/-- Worked sequence of Chapter 9, the long climb, row 1: H 8000, MOTOR_RIGHT ACTIVE 750. -/
theorem test_motor_heat :
    after (exec (.loadWindow emptyStruts)
        { pulling 700 shovel with load := { shovel.load with heat := ⟨7998, 7998⟩ } })
      (fun t => t.load.heat == ⟨8000, 8000⟩ && t.gov.motorRight == ⟨true, 750, true⟩) = true := by
  decide +kernel

/-- Worked sequence of Chapter 10, leaving the shovel: events 1 to 3. -/
theorem test_unpark_and_release :
    after (exec (.unpark fromAutonomy) shovel) (answers .operations .notOwner []) = true ∧
      after (exec (.unpark fromOperator) shovel) (fun t =>
        t.drive.timer == some 2000 && t.drive.brakeApply == false &&
          after (exec (.brakeReleasedInput true) t) (fun u =>
            u.drive.state == .ready && u.drive.outcome == .released && u.torque.lease == some 25)) =
        true := by decide +kernel

/-- A governor record keeps its value over a warm restart, and its image shows 0 until it is ACTIVE again
(R9, R26). -/
theorem test_image_after_a_warm_restart :
    after (exec (.restart fromSafety 1)
        { State.reset with
          gov := { State.reset.gov with gradeSpeed := ⟨true, 226, true⟩ } }) (fun t =>
      t.gov.gradeSpeed == ⟨false, 226, false⟩ &&
        after (exec (.lookupLimit fromSafety 39 0 0) t)
          (answers .safety .done [39, 0, 128, 0, 0, 0, 0, 0])) = true := by decide +kernel

/-- An answer is given out by the next exchange on its link (R184). -/
theorem test_answer_is_given_out_next :
    after (exec (.nop fromOperator) State.reset) (fun t =>
      (t.port .operations).given.outcome == .none &&
        after (exec (.frameError .operations [0x10]) t) (fun u =>
          (u.port .operations).given.outcome == .done &&
            (u.port .operations).answer.outcome == .frameError &&
            (u.port .operations).answer.code == 0x10)) = true := by decide +kernel

/-- A step takes the front of the queue. -/
theorem test_step_takes_the_front :
    after (step { State.reset with pending := [.nop fromSafety, .commandStep] }) (fun t =>
      t.pending == [.commandStep] && (t.port .safety).answer.outcome == .done) = true := by
  decide +kernel

/-! ### Witnesses of the statements' hypotheses, in the order of Obligations.lean -/

def queued : State := { State.reset with pending := [.nop fromSafety, .envelopeStep] }

theorem test_witness_StepRunsTheFrontCommand :
    queued.pending = Instr.nop fromSafety :: [.envelopeStep] := rfl

/-- A truck in RELEASING with some milliseconds left. -/
def releasingFor (n : Nat) : State :=
  { truck .releasing 0 with drive := { (truck .releasing 0).drive with timer := some n } }

theorem test_witness_StepWithNothingWaiting :
    State.reset.pending = [] ∧ State.reset.drive.timer = none ∧
      (releasingFor 2).pending = [] ∧ (releasingFor 2).drive.timer = some 2 ∧ 1 < 2 ∧
      (releasingFor 1).drive.timer = some 1 ∧ 1 ≤ 1 := by decide +kernel

theorem test_witness_ExchangesRoundTrip :
    (Instr.park fromOperator).wellFormed = true ∧
      ∃ bytes, encodeExchange (.park fromOperator) = some (.operations, bytes) := ⟨rfl, _, rfl⟩

theorem test_witness_RefusedRequestChangesNothing :
    (Instr.park fromOperator).wellFormed = true ∧
      (encodeExchange (.park fromOperator)).isSome = true ∧
      after (exec (.park fromOperator) State.reset) (fun t =>
        (t.port .operations).answer.outcome != .done &&
          (t.port .operations).answer.outcome != .none) = true := by decide +kernel

theorem test_witness_ExchangeGivesThePreviousAnswer :
    (Instr.nop fromOperator).wellFormed = true ∧
      (encodeExchange (.nop fromOperator)).isSome = true ∧
      after (exec (.nop fromOperator) State.reset) (fun t =>
        (t.port .operations).answer.outcome != .none) = true := by decide +kernel

theorem test_witness_RefusalsOfTheLink :
    (∃ bytes, (Instr.park fromNobody).wellFormed = true ∧
      encodeExchange (.park fromNobody) = some (.operations, bytes) ∧ frameOk bytes = true ∧ knownCodes.contains (bytes.getD 0 0) = true ∧
      2 < (bytes.getD 2 0).toNat) ∧
    frameOk [] = false ∧ knownCodes.contains 0x99 = false := by
  refine ⟨⟨_, rfl, rfl, ?_⟩, ?_⟩ <;> decide +kernel

theorem test_witness_ColdRestart :
    authorityOf fromSafety = some .safety ∧ authorityOf fromOperator = some .operator ∧
      Owner.operator ≠ .safety ∧ 1 < (2#8).toNat := by decide +kernel

theorem test_witness_WarmRestart :
    authorityOf fromOperator ≠ none ∧ State.reset.pins.restart = false ∧
      ({ State.reset with pins := { State.reset.pins with restart := true } } : State).pins.restart =
        true := by decide +kernel

/-- A DISPATCH limit of 200 with this lease. -/
def dispatchLimit (lease : Option Lease) : Rec :=
  ⟨.dispatch, .speedMax, .both, 200, none, lease, false, true⟩

/-- A Limit Table with one record, in slot 38 with generation 255. -/
def oneLimit (lease : Option Lease) : State :=
  { State.reset with table := State.reset.table.set 38 ⟨255, some (dispatchLimit lease)⟩ }

/-- The slot and generation bytes of that record. -/
theorem test_one_limit_is_in_slot_38 :
    (38#8).toNat = (38 : Fin 39).val ∧ (oneLimit none).table[38].record = some (dispatchLimit none) ∧
      (255#8).toNat = (oneLimit none).table[38].gen := by decide +kernel

/-- Every record of that table is the one in slot 38. -/
theorem oneLimit_only (lease : Option Lease) (j : Fin 39) (q : Rec)
    (h : (oneLimit lease).table[j.val].record = some q) : j = 38 ∧ q = dispatchLimit lease := by
  by_cases hj : j = 38
  · subst hj
    exact ⟨rfl, (Option.some.inj (h.symm.trans (by simp [oneLimit]))) ⟩
  · have e : (oneLimit lease).table[j.val] = (⟨1, none⟩ : Slot) := by
      have hj' : 38 ≠ j.val := fun e => hj (Fin.ext e.symm)
      simp [oneLimit, Vector.getElem_set_ne, hj', State.reset, State.cold]
    rw [e] at h
    exact absurd h (by simp)

/-- No record of the reset table. -/
theorem noLimit (j : Fin 39) : State.reset.table[j.val].record = none := by
  simp [State.reset, State.cold]

theorem test_witness_LookupLimit :
    authorityOf fromSafety ≠ none ∧ (38#8).toNat = (38 : Fin 39).val ∧
      (oneLimit none).table[38].record = some (dispatchLimit none) ∧
      (255#8).toNat = (oneLimit none).table[38].gen ∧ 1 < (2#8).toNat ∧
      (39#8).toNat = Gov.gradeSpeed.slot ∧ (47#8).toNat = Gov.linkVoltage.slot ∧
      47 < (48#8).toNat ∧ (38 < (39#8).toNat ∧ (1#8).toNat ≠ 0) ∧
      (oneLimit none).table[0].record = none ∧ (1#8).toNat ≠ (oneLimit none).table[38].gen := by
  decide +kernel

/-- Half 1 of a governor record's image, and a third half number of its handle. -/
theorem test_witness_LookupLimit_governor :
    after (exec (.lookupLimit fromSafety 47 0 1) State.reset) (answers .safety .done [47, 0]) = true ∧
      1 < (2#8).toNat ∧
      after (exec (.lookupLimit fromSafety 47 0 2) State.reset) (answers .safety .badValue []) = true := by
  decide +kernel

theorem test_witness_FindAndNextLimit :
    authorityOf fromSafety ≠ none ∧ ownerOfCode 1 = some .dispatch ∧ kindOfCode 0 = some .speedMax ∧
      scopeOfCode 0 = some .both ∧ Owner.dispatch ≠ .governor ∧
      (oneLimit none).table[38].record = some (dispatchLimit none) ∧
      (dispatchLimit none).hasKey .dispatch .speedMax .both (bindingOf 0) = true ∧
      Gov.gradeSpeed.kind = .speedMax ∧ Gov.gradeSpeed.scope = .both ∧
      (∀ g' : Gov, Gov.gradeSpeed.slot ≤ g'.slot) ∧ 1#8 ≠ 0 ∧
      (∀ g : Gov, g.kind = .steerRate → g.scope ≠ .both) ∧
      (oneLimit none).table[38].record.isSome = true ∧ (38#8).toNat ≤ 38 ∧ (39#8).toNat ≤ 47 ∧
      47 < (48#8).toNat ∧ ownerOfCode 5 = none ∧ kindOfCode 7 = none ∧ scopeOfCode 3 = none := by
  refine ⟨by decide, rfl, rfl, rfl, by decide, rfl, rfl, rfl, rfl, fun g => ?_, by decide,
    fun g => ?_, rfl, ?_⟩
  · cases g <;> decide
  · cases g <;> decide
  · decide

/-- The searches' hypotheses on every slot: the one record is the only one with its key and the lowest
occupied, and the reset table has none. -/
theorem test_witness_FindAndNextLimit_slots :
    (∀ (j : Fin 39) (q : Rec), (oneLimit none).table[j.val].record = some q →
      q.hasKey .dispatch .speedMax .both (bindingOf 0) = true → j = 38) ∧
    (∀ j : Fin 39, (38#8).toNat ≤ j.val → (oneLimit none).table[j.val].record.isSome = true →
      (38 : Fin 39) ≤ j) ∧
    (∀ (j : Fin 39) (r : Rec), State.reset.table[j.val].record = some r →
      r.hasKey .dispatch .speedMax .both (bindingOf 0) = false) ∧
    (∀ j : Fin 39, (0#8).toNat ≤ j.val → State.reset.table[j.val].record = none) := by
  refine ⟨fun j q h _ => (oneLimit_only none j q h).1, fun j hj _ => hj, fun j r h => ?_,
    fun j _ => noLimit j⟩
  rw [noLimit j] at h
  exact absurd h (by simp)

/-- Segments 20 and 21, the second current. -/
def onSegment21 : State :=
  { State.reset with segs := ⟨[⟨20, -40, 25, .dry⟩, ⟨21, -95, 22, .wet⟩], some 21, .along⟩ }

theorem test_witness_PlainReadings :
    authorityOf fromSafety ≠ none ∧ kindOfCode 7 = none ∧ kindOfCode 6 = some .steerRate ∧
      wheelOfCode 0 = none ∧ wheelOfCode 2 = some .right ∧
      currentSegment onSegment21 = some ⟨21, -95, 22, .wet⟩ ∧
      findSegment onSegment21 20 = some ⟨20, -40, 25, .dry⟩ ∧
      [2, 4, 4, 4, 12, 6][(4#8).toNat]? = some 12 ∧ (11#8).toNat < 12 ∧ 12 ≤ (12#8).toNat ∧
      [2, 4, 4, 4, 12, 6][(6#8).toNat]? = (none : Option Nat) ∧
      Param.motorHeatGain.index.val = (45#8).toNat := by decide +kernel

/-- The restart trip mark is bit 3 of page 0's flags (R170, log entry 38). -/
theorem test_status_shows_the_trip_mark :
    let s := { truck .starting 0 with drive := { (truck .starting 0).drive with tripMark := true } }
    ((statusDrive s 0).map (·.getLastD 0)) = some 8#8 := by decide +kernel

theorem test_witness_PlainReadings_segments :
    1 < (2#8).toNat ∧ State.reset.segs.current = none ∧ findSegment onSegment21 22 = none ∧
      (∀ g, g ∈ onSegment21.segs.records → g.id < (22#8).toNat) ∧
      (onSegment21.segs.records.map Segment.id).Pairwise (· < ·) ∧
      (⟨21, -95, 22, .wet⟩ : Segment) ∈ onSegment21.segs.records ∧ (21#8).toNat ≤ 21 ∧
      (∀ q, q ∈ onSegment21.segs.records → (21#8).toNat ≤ q.id → 21 ≤ q.id) ∧
      7 < (8#8).toNat ∧ 45 < (46#8).toNat := by decide +kernel

/-- A sweep RUNNING with no entry, a sweep READY at this cursor, and a link with an expiry reported. -/
theorem test_witness_PlainReadings_status :
    State.reset.retard.sweep = .idle ∧ (∃ (j : SweepJob) (table : List SweepEntry) (s : State),
      s.retard.sweep = .running j table) ∧
      (∃ (j : SweepJob) (table : List SweepEntry) (s : State), s.retard.sweep = .ready j table 63) ∧
      (State.reset.port .safety).lastExpiry = none ∧
      after (exec .expiry
          { State.reset with
            table := State.reset.table.set 38
              ⟨255, some ⟨.dispatch, .speedMax, .both, 200, none, some ⟨300, 1⟩, false, true⟩⟩ })
        (fun t => (t.port .operations).lastExpiry == some ⟨⟨38, 255⟩, .dispatch, .speedMax⟩) =
        true := by
  refine ⟨rfl, ⟨⟨0, 0, 0, 0, 0, 0, 0, 0, .safety⟩, [],
      { State.reset with retard := { State.reset.retard with sweep := .running _ _ } }, rfl⟩,
    ⟨⟨0, 0, 0, 0, 0, 0, 0, 0, .safety⟩, [],
      { State.reset with retard := { State.reset.retard with sweep := .ready _ _ 63 } }, rfl⟩,
    rfl, by decide +kernel⟩

theorem test_witness_AttentionRequests :
    authorityOf fromOperator ≠ none ∧ (511#16).toNat < 512 ∧ 512 ≤ (512#16).toNat := by decide

theorem test_witness_SetParam :
    authorityOf fromOperator = some .operator ∧
      (truck .parked 0).straps.paramGuard = .opened ∧ (truck .parked 0).drive.state = .parked ∧
      Param.wheelRated.index.val = (3#8).toNat ∧
      Param.wheelRated.range.1 ≤ (900#16).toNat ∧ (900#16).toNat ≤ Param.wheelRated.range.2 ∧
      (truck .parked 0).param .wheelRated ≠ (900#16).toNat ∧
      (truck .parked 0).param .wheelRated = (750#16).toNat ∧
      ((truck .parked 0).grip.get .left).state = .free ∧ Kind.default .wheelTorque = .wheelRated := by
  decide +kernel

theorem test_witness_SetParam_refusals :
    authorityOf fromNobody = none ∧
      ({ State.reset with straps := { State.reset.straps with paramGuard := .tied } } :
        State).straps.paramGuard = .tied ∧
      authorityOf fromOperator ≠ some .safety ∧ authorityOf fromSafety = some .safety ∧
      45 < (46#8).toNat ∧ (45#8).toNat ≤ 45 ∧ (truck .ready 0).drive.state ≠ .parked ∧
      Param.wheelRated.range.2 < (901#16).toNat ∧ (29#16).toNat < Param.speedRated.range.1 ∧
      Param.speedRated.index.val = (0#8).toNat := by decide +kernel

theorem test_witness_PlaceLimit :
    authorityOf fromDispatch = some .dispatch ∧ kindOfCode 0 = some .speedMax ∧
      scopeOfCode 0 = some .both ∧ Kind.speedMax.inRange (200#16).toNat = true ∧
      (6000#16).toNat ≤ 6000 ∧ State.reset.table[0].record = none ∧
      (findSegment onSegment21 (21#8).toNat).isSome = true ∧
      (∀ j : Fin 39, j < 0 → State.reset.table[j.val].record.isSome = true) ∧
      (∀ (j : Fin 39) (q : Rec), State.reset.table[j.val].record = some q →
        q.hasKey .dispatch .speedMax .both (bindingOf 0) = false) ∧
      (oneLimit none).table[38].record = some (dispatchLimit none) ∧
      (dispatchLimit none).hasKey .dispatch .speedMax .both (bindingOf 0) = true := by
  refine ⟨rfl, rfl, rfl, by decide, by decide, rfl, by decide, fun j hj => absurd hj (by omega),
    test_witness_FindAndNextLimit_slots.2.2.1, rfl, rfl⟩

theorem test_witness_PlaceLimit_refusals :
    1#8 ≠ 0 ∧ Owner.dispatch ≠ .safety ∧ scopeOfCode 3 = none ∧ scopeOfCode 1 = some .left ∧
      Scope.left ≠ .both ∧ kindOfCode 0 = some .speedMax ∧ Kind.speedMax.perWheel = false ∧
      scopeOfCode 0 = some .both ∧ kindOfCode 7 = none ∧ kindOfCode 1 = some .propelTorque ∧
      Kind.propelTorque.perWheel = true ∧ Kind.propelTorque.inRange (901#16).toNat = false ∧
      6000 < (6001#16).toNat ∧ Kind.propelTorque.inRange (900#16).toNat = true ∧
      (6000#16).toNat ≤ 6000 ∧ findSegment onSegment21 (22#8).toNat = none := by decide +kernel

/-- A Limit Table with no FREE slot: DISPATCH records, each bound to a segment of its own. -/
def fullTable : State :=
  { State.reset with
    table := Vector.ofFn (fun i : Fin 39 =>
      ⟨1, some { owner := .dispatch, kind := .speedMax, scope := .both, value := 200
                 segment := some (i.val + 1), lease := none, immediate := false, active := false }⟩) }

theorem test_witness_PlaceLimit_full :
    (∀ i : Fin 39, fullTable.table[i.val].record.isSome = true) ∧
    (∀ (j : Fin 39) (q : Rec), fullTable.table[j.val].record = some q →
      q.hasKey .dispatch .speedMax .both (bindingOf 0) = false) := by
  refine ⟨fun i => by simp [fullTable], fun j q h => ?_⟩
  simp [fullTable] at h
  subst h
  rfl

theorem test_witness_AmendAndRenewLimit_refusals :
    Kind.speedMax.inRange (641#16).toNat = false ∧ leaseActionOfCode 3 = none ∧
      leaseActionOfCode 2 = some .new ∧ 6000 < (6001#16).toNat ∧ (dispatchLimit none).lease = none ∧
      47 < (48#8).toNat ∧ (38 < (39#8).toNat ∧ (1#8).toNat ≠ 0) ∧
      (oneLimit none).table[0].record = none ∧ (1#8).toNat ≠ (oneLimit none).table[38].gen ∧
      (39#8).toNat = Gov.gradeSpeed.slot ∧ (47#8).toNat = Gov.linkVoltage.slot := by decide +kernel

theorem test_witness_AmendAndRenewLimit :
    authorityOf fromDispatch = some .dispatch ∧ (38#8).toNat = (38 : Fin 39).val ∧
      (255#8).toNat = (oneLimit (some ⟨300, 1⟩)).table[38].gen ∧
      (oneLimit (some ⟨300, 1⟩)).table[38].record = some (dispatchLimit (some ⟨300, 1⟩)) ∧
      Owner.dispatch = (dispatchLimit none).owner ∧ Kind.speedMax.inRange (640#16).toNat = true ∧
      leaseActionOfCode 2 = some .new ∧ (1 ≤ (6000#16).toNat ∧ (6000#16).toNat ≤ 6000) ∧
      (200#16).toNat = (dispatchLimit none).value ∧ (640#16).toNat ≠ (dispatchLimit none).value ∧
      authorityOf fromSafety = some .safety ∧ Owner.safety ≠ (dispatchLimit none).owner := by
  decide +kernel

theorem test_witness_RetireLimitAndOwner :
    authorityOf fromSafety = some .safety ∧ (38#8).toNat = (38 : Fin 39).val ∧
      (255#8).toNat = (oneLimit none).table[38].gen ∧
      (oneLimit none).table[38].record = some (dispatchLimit none) ∧
      authorityOf fromAutonomy = some .autonomy ∧ Owner.autonomy ≠ (dispatchLimit none).owner ∧
      ownerOfCode 1 = some .dispatch ∧ Owner.dispatch ≠ .governor ∧ 47 < (48#8).toNat ∧
      (47#8).toNat = Gov.linkVoltage.slot ∧ (1#8).toNat ≠ (oneLimit none).table[38].gen ∧
      ownerOfCode 5 = none ∧ ownerOfCode 4 = some .governor ∧ Owner.autonomy ≠ .dispatch ∧
      Owner.autonomy ≠ .safety := by decide +kernel

theorem test_witness_LeaseStepAndExpiry :
    (oneLimit (some ⟨300, 1⟩)).table[38].record = some (dispatchLimit (some ⟨300, 1⟩)) ∧
      (dispatchLimit (some ⟨300, 1⟩)).lease = some ⟨300, 1⟩ ∧
      (oneLimit (some ⟨300, 2⟩)).table[38].record = some (dispatchLimit (some ⟨300, 2⟩)) ∧
      1 < 2 ∧ (∀ (j : Fin 39) (q : Rec) (m : Lease), (38 : Fin 39) < j →
        (oneLimit (some ⟨300, 1⟩)).table[j.val].record = some q → q.lease = some m →
        1 < m.remaining ∨ ownerLink q.owner ≠ ownerLink .dispatch) ∧
      (∀ (j : Fin 39) (r : Rec) (l : Lease), (oneLimit (some ⟨300, 2⟩)).table[j.val].record = some r →
        r.lease = some l → 1 < l.remaining) := by
  refine ⟨rfl, rfl, rfl, by decide, fun j q m hj => absurd hj (by omega), fun j r l h hl => ?_⟩
  obtain ⟨-, rfl⟩ := oneLimit_only _ j r h
  cases hl
  decide

theorem test_witness_ResolutionIsLeast :
    (oneLimit none).table[38].record = some (dispatchLimit none) ∧
      (dispatchLimit none).active = true ∧ (dispatchLimit none).scope.covers .left = true ∧
      (resolveKind (oneLimit none) .left .speedMax).handle = some ⟨38, 255⟩ ∧
      (resolveKind State.reset .left .speedMax).handle = none := by decide +kernel

theorem test_witness_EnvelopeStep :
    State.reset.env.applied ≤ State.reset.env.left.speedMax.value ∧
      (after (exec (.placeLimit fromDispatch 0 0 200 0 0 0) State.reset) (fun t =>
        decide (t.env.left.speedMax.value < t.env.applied) &&
          immediateBinding t t.env.left.speedMax.handle == false && t.speed.reference == .seeking) =
        true) ∧
      (after (exec (.placeLimit fromDispatch 0 0 200 0 0 0) (truck .ready 300)) (fun t =>
        decide (t.env.left.speedMax.value < t.env.applied) &&
          immediateBinding t t.env.left.speedMax.handle == false && t.speed.reference != .seeking) =
        true) ∧
      immediateBinding
        { State.reset with
          table := State.reset.table.set 0
            ⟨1, some ⟨.safety, .speedMax, .both, 200, none, none, true, true⟩⟩
          env := { State.reset.env with
            left := { State.reset.env.left with speedMax := ⟨200, some ⟨0, 1⟩⟩ } } }
        (some ⟨0, 1⟩) = true := by decide +kernel

theorem test_witness_SegmentTableRequests :
    authorityOf fromDispatch = some .dispatch ∧ classOfCode 3 = some .ice ∧
      (-200 ≤ (200#16).toInt ∧ (200#16).toInt ≤ 200) ∧ (100#16).toNat ≤ 100 ∧
      findSegment onSegment21 (255#8).toNat = none ∧ 255#8 ≠ 0 ∧
      onSegment21.segs.records.length < 64 ∧
      findSegment onSegment21 (21#8).toNat = some ⟨21, -95, 22, .wet⟩ ∧
      onSegment21.segs.current = some (21#8).toNat ∧ AdhesionClass.wet ≠ .ice ∧
      onSegment21.segs.current ≠ some (20#8).toNat ∧ boundCount onSegment21 (20#8).toNat = 0 ∧
      boundCount
        { onSegment21 with
          table := onSegment21.table.set 0
            ⟨1, some { dispatchLimit none with segment := some 20, active := false }⟩ }
        (20#8).toNat ≠ 0 := by decide +kernel

/-- A Segment Table at its 64 records. -/
def allSegments : State :=
  { State.reset with
    segs := ⟨(List.range 64).map (fun n => ⟨n + 1, 0, 0, .dry⟩), none, .along⟩ }

theorem test_witness_SegmentTableRequests_refusals :
    findSegment onSegment21 (22#8).toNat = none ∧ classOfCode 4 = none ∧ (-201#16).toInt < -200 ∧
      200 < (201#16).toInt ∧ 100 < (101#16).toNat ∧
      ¬(classOfCode 3 = none ∨ (200#16).toInt < -200 ∨ 200 < (200#16).toInt ∨ 100 < (100#16).toNat) ∧
      findSegment onSegment21 (0#8).toNat = none ∧ 64 ≤ allSegments.segs.records.length ∧
      findSegment allSegments (65#8).toNat = none ∧
      (findSegment onSegment21 (21#8).toNat).isSome = true ∧
      authorityOf fromOperator ≠ some .dispatch ∧ authorityOf fromOperator ≠ some .safety ∧
      headingOfCode 2 = none ∧ authorityOf fromSafety ≠ some .dispatch ∧
      authorityOf fromSafety ≠ some .autonomy ∧
      after (exec (.loadSegment fromDispatch 21 201 101 4) onSegment21)
        (answers .operations .exists []) = true := by decide +kernel

/-- The presets of R107's three rows, each from FREE at P_WHEEL_RATED, and DRY's which changes nothing. -/
theorem test_presets :
    (Grip.reset.preset 750 .wet).ceiling = 450 ∧ (Grip.reset.preset 750 .mud).ceiling = 337 ∧
      (Grip.reset.preset 750 .ice).ceiling = 225 ∧ (Grip.reset.preset 750 .ice).state = .settled ∧
      Grip.reset.preset 750 .dry = Grip.reset := by decide +kernel

theorem test_witness_SegmentEntryAndLeave :
    authorityOf fromAutonomy = some .autonomy ∧ headingOfCode 1 = some .against ∧
      findSegment onSegment21 (21#8).toNat = some ⟨21, -95, 22, .wet⟩ ∧
      onSegment21.segs.current = some (21#8).toNat ∧
      findSegment onSegment21 (20#8).toNat = some ⟨20, -40, 25, .dry⟩ ∧
      onSegment21.segs.current ≠ some (20#8).toNat ∧ State.reset.segs.current = none := by
  decide +kernel

theorem test_witness_SpeedRequests :
    authorityOf fromDispatch = some .dispatch ∧ (800#16).toNat ≤ 800 ∧ (3#16).toNat ≤ 3 ∧
      800 < (801#16).toNat ∧ 3 < (4#16).toNat ∧ sourceOfCode 2 = some .rear ∧
      (truck .ready 0).speed.lock = false ∧ (truck .ready 0).speed.current ≠ some .rear ∧
      sourceOfCode 0 = some .front ∧ (truck .ready 0).speed.current = some .front := by
  decide +kernel

/-- The senders and codes that the speed requests refuse. -/
theorem test_witness_SpeedRequests_refusals :
    authorityOf fromOperator ≠ some .dispatch ∧ authorityOf fromOperator ≠ some .autonomy ∧
      authorityOf fromSafety ≠ some .dispatch ∧ authorityOf fromSafety ≠ some .autonomy ∧
      sourceOfCode 3 = none ∧ authorityOf fromAutonomy ≠ some .safety := by decide

/-- A truck with the speed source locked. -/
def locked : State :=
  { truck .ready 0 with speed := { (truck .ready 0).speed with lock := true } }

theorem test_witness_SpeedSourceLock :
    authorityOf fromSafety = some .safety ∧ (truck .ready 0).speed.lock = false ∧
      locked.speed.lock = true ∧
      after (exec (.restart fromSafety 0) locked) (fun t => t.speed.lock == false) = true ∧
      authorityOf fromOperator ≠ none ∧ sourceOfCode 1 ≠ none ∧
      (truck .ready 0).speed.pending = none ∧
      after (exec (.selectSpeedSource fromOperator 1) (truck .ready 0)) (fun t =>
        t.speed.pending != none) = true := by decide +kernel

/-- The truck with another current source. -/
def following (x : Source) (s : State) : State :=
  { s with
    speed := { s.speed with
      current := some x, fix := some ⟨300, 3⟩, fresh := 3, rpm := ⟨968, 968⟩, marks := ⟨true, true⟩
      trackers := ⟨⟨.tracking, 8, 0, 0, true⟩, ⟨.tracking, 8, 0, 0, true⟩,
        ⟨.tracking, 8, 0, 0, true⟩⟩ } }

theorem test_witness_WindowGroundSpeed :
    after (exec (.window still) (truck .ready 0)) (fun t =>
      t.speed.current == some .front && t.speed.trackers.front.passed) = true ∧
      after (exec (.window broken) (truck .ready 0)) (fun t =>
        !t.speed.trackers.front.passed && !t.speed.trackers.sat.passed &&
          !t.speed.trackers.rear.passed) = true ∧
      State.reset.speed.current = none ∧
      after (exec (.window still) State.reset) (fun t => t.speed.current == none) = true ∧
      after (exec (.window still) (following .sat (truck .ready 0))) (fun t =>
        t.speed.current == some .sat && decide (t.gov ≠ State.reset.gov)) = true ∧
      after (exec (.window still) (following .rear (truck .ready 0))) (fun t =>
        t.speed.current == some .rear) = true := by decide +kernel

/-- A sensor that does not report has its speed worked out and held (R53): fL and fR of the worked
sequence. -/
theorem test_sensor_speeds :
    after (exec (.window ⟨⟨123, 126⟩, ⟨false, true⟩⟩) (truck .ready 0)) (fun t =>
      t.speed.sensors == ⟨226, 231⟩ && t.speed.trackers.front.value == 228 &&
        !t.speed.trackers.front.passed) = true := by decide +kernel

/-- The current source fails its self-check and stays, while another source passes (R59). -/
theorem test_witness_WindowGroundSpeed_held :
    (following .front (truck .ready 100)).speed.current = some .front ∧
      after (exec (.window broken) (following .front (truck .ready 100))) (fun t =>
        t.speed.current == some .front && !t.speed.trackers.front.passed &&
          t.speed.trackers.sat.passed && t.speed.v == 100) = true := by decide +kernel

/-- A state with this tracker on FRONT. -/
def frontAt (x : Tracker) (current : Option Source) (d : Drive) : State :=
  let s := truck d 0
  { s with
    speed := { s.speed with current := current, trackers := { s.speed.trackers with front := x } } }

theorem test_witness_TrackerEvents :
    (((frontAt ⟨.qualifying, 7, 0, 0, true⟩ none .starting).speed.trackers.get .front).state =
        .qualifying ∧
      7 ≤ ((frontAt ⟨.qualifying, 7, 0, 0, true⟩ none .starting).speed.trackers.get .front).count ∧
      ((readSources still (frontAt ⟨.qualifying, 7, 0, 0, true⟩ none .starting)).trackers.get
        .front).passed = true ∧
      (frontAt ⟨.qualifying, 7, 0, 0, true⟩ none .starting).speed.current = none) ∧
    ((frontAt ⟨.tracking, 8, 2, 0, true⟩ (some .front) .ready).speed.trackers.get .front).state =
      .tracking ∧
    2 ≤ ((frontAt ⟨.tracking, 8, 2, 0, true⟩ (some .front) .ready).speed.trackers.get
      .front).misses ∧
    ((readSources broken (frontAt ⟨.tracking, 8, 2, 0, true⟩ (some .front) .ready)).trackers.get
      .front).passed = false ∧
    (unitTracked broken (frontAt ⟨.tracking, 8, 2, 0, true⟩ (some .front) .ready)).firstTracking =
      none ∧
    Drive.ready ≠ .tripped ∧
    (unitTracked broken
      (following .front (frontAt ⟨.tracking, 8, 2, 0, true⟩ (some .front) .ready))).firstTracking =
      some .front := by decide +kernel

/-- What a still window makes of a FRONT tracker with no current source, and with SAT current at 30 km/h,
which FRONT's 0 does not agree with. -/
def frontAfter (i : WindowIn) (x : Tracker) (current : Option Source) : TrackState × Nat × Nat :=
  match exec (.window i)
      { following .sat (truck .ready 300) with
        speed := { (following .sat (truck .ready 300)).speed with
          current := current, reference := if current.isSome then .valid else .lost
          trackers := { (following .sat (truck .ready 300)).speed.trackers with front := x } } } with
  | .next t => (t.speed.trackers.front.state, t.speed.trackers.front.count, t.speed.trackers.front.misses)
  | .fault _ => (.absent, 99, 99)
  | .refused _ => (.absent, 99, 99)

/-- Every row of R57's table, with agreement and without. -/
theorem test_witness_TrackerEvents_rows :
    frontAfter still ⟨.absent, 0, 0, 0, true⟩ none = (.qualifying, 1, 0) ∧
      frontAfter still ⟨.absent, 0, 0, 0, true⟩ (some .sat) = (.qualifying, 0, 0) ∧
      frontAfter broken ⟨.absent, 0, 0, 0, true⟩ none = (.absent, 0, 0) ∧
      frontAfter still ⟨.qualifying, 6, 0, 0, true⟩ none = (.qualifying, 7, 0) ∧
      frontAfter still ⟨.qualifying, 7, 0, 0, true⟩ none = (.tracking, 8, 0) ∧
      frontAfter still ⟨.qualifying, 7, 0, 0, true⟩ (some .sat) = (.qualifying, 0, 0) ∧
      frontAfter broken ⟨.qualifying, 7, 0, 0, true⟩ none = (.absent, 0, 0) ∧
      frontAfter still ⟨.tracking, 8, 2, 0, true⟩ (some .sat) = (.tracking, 8, 0) ∧
      frontAfter broken ⟨.tracking, 8, 1, 0, true⟩ none = (.tracking, 8, 2) ∧
      frontAfter broken ⟨.tracking, 8, 2, 0, true⟩ none = (.lost, 8, 3) ∧
      frontAfter still ⟨.lost, 8, 3, 0, true⟩ none = (.qualifying, 1, 3) ∧
      frontAfter still ⟨.lost, 8, 3, 0, true⟩ (some .sat) = (.qualifying, 0, 3) ∧
      frontAfter broken ⟨.lost, 8, 3, 0, true⟩ none = (.lost, 8, 3) := by decide +kernel

/-- FRONT at its third miss with REAR there to take over. -/
def frontLost : State :=
  let s := following .front (truck .ready 0)
  { s with
    speed := { s.speed with trackers := { s.speed.trackers with front := ⟨.tracking, 8, 2, 0, true⟩ } } }

theorem test_witness_TrackerEvents_fallback :
    (frontLost.speed.trackers.get .front).state = .tracking ∧
      2 ≤ (frontLost.speed.trackers.get .front).misses ∧
      ((readSources broken frontLost).trackers.get .front).passed = false ∧
      frontLost.speed.current = some .front ∧ frontLost.speed.pending = none ∧
      (unitTracked broken frontLost).firstTracking = some .sat ∧
      frontLost.drive.state ≠ .starting := by decide +kernel

/-- STARTING at this window, FRONT in this tracker state. -/
def seeking (windows : Nat) (st : TrackState) (count : Nat) : State :=
  let s := frontAt ⟨st, count, 0, 0, true⟩ none .starting
  { s with speed := { s.speed with windows := windows, reference := .seeking } }

theorem test_witness_StartSelection :
    (seeking 18 .tracking 8).speed.current = none ∧
      (seeking 18 .tracking 8).speed.reference = .seeking ∧
      (seeking 18 .tracking 8).speed.pending = none ∧
      (unitTracked still (seeking 18 .tracking 8)).isTracking
        (preferredSource (seeking 18 .tracking 8).straps.srcPref) = true ∧
      (unitTracked broken
        { following .sat (seeking 19 .absent 0) with
          speed := { (following .sat (seeking 19 .absent 0)).speed with
            current := none
            trackers := { (following .sat (seeking 19 .absent 0)).speed.trackers with
              front := .reset } } }).isTracking .front = false ∧
      (unitTracked broken
        { following .sat (seeking 19 .absent 0) with
          speed := { (following .sat (seeking 19 .absent 0)).speed with
            current := none
            trackers := { (following .sat (seeking 19 .absent 0)).speed.trackers with
              front := .reset } } }).firstTracking = some .sat ∧
      (unitTracked still (seeking 18 .absent 0)).isTracking .front = false ∧
      (truck .ready 0).speed.current.isSome = true ∧
      (seeking 18 .tracking 8).drive.state = .starting ∧
      after (exec (.window still) (seeking 18 .tracking 8)) (fun t => t.speed.current.isSome) = true := by
  decide +kernel

/-- STARTING at a window that finds FRONT, with this trip mark, kept SAFETY_HOLD and mode of each wheel. -/
def finding (mark safetyHold : Bool) (left right : WheelMode) : State :=
  let s := seeking 18 .tracking 8
  { s with
    drive := { s.drive with
      tripMark := mark, hold := { HoldSet.empty with safetyHold := safetyHold }
      trip := if mark then some .trip else none }
    torque := { s.torque with
      wheels := ⟨{ upWheel 0 with mode := left }, { upWheel 0 with mode := right }⟩ } }

/-- A check of the drive record after a window that finds a source in STARTING. -/
def started (s : State) (p : DriveCtl → Bool) : Bool :=
  s.drive.state == .starting && s.speed.current == none &&
    after (exec (.window still) s) (fun t => t.speed.current.isSome && decide (t.speed.v < 5) && p t.drive)

/-- The rows of R182 at v < 5, and R93's at the entry to HOLD. -/
theorem test_witness_StartSelection_rows :
    started (finding true true .mutedFault .mutedFault) (fun d =>
      d.state == .tripped && d.trip == some .trip && !d.tripMark && d.hold == .empty) = true ∧
    started (finding false false .mutedFault .governed) (fun d => d.state == .parked) = true ∧
    started (finding false true .governed .governed) (fun d =>
      d.state == .hold && d.hold == { HoldSet.empty with safetyHold := true }) = true ∧
    started (finding false true .mutedFault .governed) (fun d =>
      d.state == .hold && d.hold == { HoldSet.empty with safetyHold := true, wheelLost := true }) =
      true ∧
    started (finding false true .mutedFault .mutedSilent) (fun d =>
      d.state == .tripped && d.trip == some .bothWheelsLost && d.hold == .empty && d.brakeApply) =
      true := by decide +kernel

/-- A pending switch ends STARTING (R60), here at 22.5 km/h with START_MOVING; with no source found nothing
happens. -/
theorem test_witness_StartSelection_moving :
    after (exec (.window still)
        { following .front (seeking 3 .absent 0) with
          speed := { (following .front (seeking 3 .absent 0)).speed with
            current := none, pending := some .rear } })
      (fun t => t.speed.current == some .rear && t.speed.v == 225 && t.drive.state == .hold &&
        t.drive.hold == { HoldSet.empty with startMoving := true }) = true ∧
      after (exec (.window still) (seeking 3 .absent 0)) (fun t =>
        t.speed.current == none && t.drive.state == .starting) = true := by decide +kernel

/-- LOST with a pending source, FRONT ABSENT. -/
def recovering (pending : Option Source) (sat : TrackState) : State :=
  let s := following .sat (truck .tripped 300)
  { s with
    speed := { s.speed with
      current := none, reference := .lost, pending := pending
      trackers := ⟨.reset, ⟨sat, 8, 0, 0, true⟩, ⟨.tracking, 8, 0, 0, true⟩⟩ } }

/-- A pending source that is TRACKING is taken, one that is not waits (R60); the recovery selection takes
the first TRACKING source in order, or none (R64). -/
theorem test_witness_StartSelection_pending :
    after (exec (.window still)
        { following .front (truck .ready 0) with
          speed := { (following .front (truck .ready 0)).speed with pending := some .rear } })
      (fun t => t.speed.current == some .rear && t.speed.pending == none &&
        t.speed.trackers.rear.passed && t.speed.v == 225) = true ∧
      after (exec (.window still)
          { truck .ready 0 with speed := { (truck .ready 0).speed with pending := some .rear } })
        (fun t => t.speed.current == some .front && t.speed.pending == some .rear &&
          t.speed.trackers.rear.state != .tracking) = true ∧
      (recovering none .absent).speed.reference = .lost ∧
      after (exec (.window broken) (recovering none .absent)) (fun t =>
        t.speed.current == some .rear && t.speed.reference == .valid) = true ∧
      after (exec (.window broken) (recovering none .tracking)) (fun t =>
        t.speed.current == some .sat && t.speed.trackers.sat.passed && t.speed.v == 300) = true ∧
      after (exec (.window broken) (recovering (some .rear) .tracking)) (fun t =>
        t.speed.current == some .rear && t.speed.pending == none) = true ∧
      after (exec (.window broken)
          { recovering none .absent with
            speed := { (recovering none .absent).speed with trackers := ⟨.reset, .reset, .reset⟩ } })
        (fun t => t.speed.current == none && t.speed.reference == .lost && t.speed.v == 300) =
        true := by decide +kernel

/-- TRIPPED without a source, this many windows counted. -/
def trippedFor (n : Nat) : State :=
  let s := frontAt .reset none .tripped
  { s with drive := { s.drive with applyCount := n }, speed := { s.speed with reference := .lost } }

theorem test_witness_TripApplyCount :
    (trippedFor 49).drive.state = .tripped ∧ (trippedFor 49).speed.current = none ∧
      (unitTracked broken (trippedFor 49)).firstTracking = none ∧
      (trippedFor 49).drive.applyCount = 49 ∧
      after (exec (.window still) (truck .tripped 0)) (fun t =>
        decide (t.speed.v < 5) && t.speed.current.isSome) = true ∧
      after (exec (.window broken) (trippedFor 49)) (fun t => t.speed.current == none) = true := by
  decide +kernel

/-- A reference lost in TRIPPED: REFERENCE_LOST is a later cause, and the count goes on, to 50 here. -/
theorem test_witness_TripApplyCount_lost :
    after (exec (.window broken)
        { frontAt ⟨.tracking, 8, 2, 0, true⟩ (some .front) .tripped with
          drive := { (truck .tripped 0).drive with applyCount := 49, brakeApply := false } })
      (fun t => t.speed.current == none && t.drive.trip == some .trip &&
        t.drive.later == { TripSet.empty with referenceLost := true } &&
        t.drive.applyCount == 50 && t.drive.brakeApply) = true := by decide +kernel

/-- A wheel record in this state. -/
def gripIn (g : GripState) (ceiling dwell reprobe : Nat) : Grip :=
  { Grip.reset with state := g, ceiling := ceiling, dwell := dwell, best := 300, reprobe := reprobe }

/-- Retarding at 20 km/h with both wheels' records in this state. -/
def slipping (g : Grip) : State :=
  { pulling (-520) (truck .ready 200) with
    grip := ⟨g, g⟩
    speed := { (truck .ready 200).speed with rpm := ⟨770, 770⟩, pulses := ⟨[31, 31, 31], [31, 31, 31]⟩ } }

theorem test_witness_SlipWindow :
    after (exec (.window ⟨⟨16, 16⟩, ⟨true, true⟩⟩) (slipping (gripIn .settled 600 0 99))) (fun t =>
      t.speed.current == some .front && t.grip.left.lastSpeed == some 179 &&
        t.grip.left.state == .hold) = true ∧
      ((slipping (gripIn .settled 600 0 99)).wheel .left).history[9] = -520 ∧
      after (exec (.window ⟨⟨16, 16⟩, ⟨true, true⟩⟩) (slipping (gripIn .search 600 3 0))) (fun t =>
        t.grip.left.state == .settled && t.grip.left.ceiling == 300 &&
          t.grip.left.reprobe == 1) = true ∧
      1 < (slipping (gripIn .search 600 3 0)).param .researchTime ∧
      after (exec (.window still) (frontAt ⟨.tracking, 8, 0, 0, true⟩ (some .front) .ready))
        (fun t => t.speed.current == some .front) = true ∧
      after (exec (.reprobeStart .left still)
          { truck .ready 0 with grip := ⟨gripIn .settled 712 0 99, gripIn .settled 713 0 98⟩ })
        (fun t => t.grip.left.state == .search && t.grip.left.ceiling == 749 &&
          t.grip.right.reprobe == 99) = true ∧
      after (exec (.reprobeStart .left still)
          { truck .ready 0 with grip := ⟨gripIn .settled 713 0 99, Grip.reset⟩ })
        (fun t => t.grip.left.state == .free && t.grip.left.ceiling == 750) = true := by
  decide +kernel

/-- A slip ends a search in the freeze of R101 too, by the wheel's own speed; the re-probe count stays 0. -/
theorem test_witness_SlipWindow_frozen :
    after (exec (.window ⟨⟨16, 16⟩, ⟨true, true⟩⟩)
        { slipping { gripIn .search 600 3 0 with lastSpeed := some 300 } with
          speed := { (slipping (gripIn .search 600 3 0)).speed with current := some .rear } })
      (fun t => t.speed.current == some .rear && t.grip.left.state == .settled &&
        t.grip.left.ceiling == 300 && t.grip.left.reprobe == 0 && t.grip.left.slips == 1) = true := by
  decide +kernel

theorem test_witness_SetDemand :
    authorityOf fromOperator = some .operator ∧ authorityOf fromAutonomy = some .autonomy ∧
      (truck .ready 4).drive.mode = .manned ∧ directionOfCode 2 = none ∧
      directionOfCode 1 = some .reverse ∧ (truck .ready 4).drive.state = .ready ∧
      (truck .hold 0).drive.state = .hold ∧ (truck .parked 0).drive.state ≠ .ready ∧
      (truck .parked 0).drive.state ≠ .hold ∧ (truck .ready 4).speed.v < 5 ∧
      ¬(truck .ready 5).speed.v < 5 ∧ (truck .ready 4).torque.direction ≠ .reverse := by
  decide +kernel

theorem test_witness_TorqueChain :
    (truck .hold 5).drive.state = .hold ∧ 5 ≤ (truck .hold 5).speed.v ∧
      (truck .hold 4).speed.v < 5 ∧ ramp.drive.state ≠ .hold ∧ ramp.torque.demand.getD 0 < 0 ∧
      vmaxOf ramp ≤ ramp.speed.v ∧ vmaxOf (truck .ready 620) ≤ 620 + 20 ∧
      (truck .ready 620).speed.v < vmaxOf (truck .ready 620) ∧
      0 < (runChain
        { truck .ready 620 with
          torque := { (truck .ready 620).torque with demand := some 1000 } } .left 2).t0 ∧
      (runChain ramp .left 2).t2 < 0 ∧ 0 ≤ (runChain (truck .ready 0) .left 2).t2 := by decide +kernel

theorem test_witness_CommandBounds :
    after (exec .commandStep ramp) (fun t =>
      t.drive.state == .ready && (t.wheel .left).mode == .governed && decide ((t.wheel .left).tprev < 0)) =
        true ∧
      after (exec .commandStep (truck .hold 300)) (fun t => t.drive.state == .hold) = true ∧
      after (exec .commandStep State.reset) (fun t =>
        t.drive.state != .ready && t.drive.state != .hold && (t.wheel .left).mode != .governed) =
        true := by decide +kernel

theorem test_witness_CommandHandOver :
    after (exec .commandStep ramp) (fun t => t.drive.state == .ready) = true ∧
      ((silenceCounted (leaseCounted ramp)).wheel .left).mode = .governed ∧
      after (exec .commandStep State.reset) (fun t => t.drive.state == .starting) = true ∧
      (silenceCounted (leaseCounted ramp)).retard.assist = 0 ∧
      after (exec .commandStep (pulling (-427) ramp)) (fun t => t.retard.assist != 0) = true := by
  decide +kernel

/-- R129's levels as one function of the causes. -/
theorem test_witness_CommandHandOver_levels (x : Nat) : ∃ level : AssistCauses → Nat, ∀ c,
    level c = max (if c.trip then 1000 else 0) (max (if c.standstill then 1000 else 0)
      (max (if c.retardShort then x else 0)
        (max (if c.gradeShort then 500 else 0) (if c.linkHigh then 500 else 0)))) :=
  ⟨_, fun _ => rfl⟩

/-- READY with this much of the demand lease left. -/
def leaseLeft (n : Nat) : State :=
  { truck .ready 0 with torque := { (truck .ready 0).torque with lease := some n } }

theorem test_witness_DemandLease :
    (∀ w : Wheel, ((leaseLeft 1).wheel w).silence ≠ 4) ∧ (leaseLeft 1).drive.state = .ready ∧
      (leaseLeft 1).torque.lease = some 1 ∧ (leaseLeft 2).torque.lease = some 2 ∧ 1 < 2 ∧
      (truck .hold 0).drive.state ≠ .ready := by
  refine ⟨fun w => ?_, ?_⟩
  · cases w <;> decide
  · decide +kernel

/-- The left wheel's silence at this count. -/
def quiet (n : Nat) (s : State) : State := s.setWheel .left { s.wheel .left with silence := n }

theorem test_witness_InverterSilence :
    ((quiet 3 (truck .ready 0)).wheel .left).silence < 4 ∧
      ((quiet 5 (truck .ready 0)).wheel .left).silence = 5 ∧
      ((quiet 4 (truck .ready 0)).wheel .left).silence = 4 ∧
      ((quiet 4 (truck .ready 0)).wheel .left).mode = .governed ∧
      (quiet 4 (truck .ready 0)).drive.state = .ready ∧
      ((quiet 4 (truck .ready 0)).wheel .right).mode = .governed ∧
      ((quiet 4 (truck .ready 0)).wheel .right).silence ≠ 4 ∧
      (State.reset.wheel .right).mode ≠ .governed ∧
      (quiet 4 (truck .parked 0)).drive.state ≠ .ready ∧
      (quiet 4 (truck .parked 0)).drive.state ≠ .hold := by decide +kernel

theorem test_witness_InverterMessage :
    ((truck .ready 0).wheel .left).mode = .governed ∧ (truck .ready 0).drive.state = .ready ∧
      ((truck .ready 0).wheel (Wheel.other .left)).mode = .governed ∧
      (State.reset.wheel .left).mode ≠ .governed ∧
      (((truck .hold 0).setWheel .right WheelState.reset).wheel (Wheel.other .left)).mode ≠
        .governed ∧
      (truck .parked 0).drive.state ≠ .ready ∧ (truck .parked 0).drive.state ≠ .hold := by
  decide +kernel

/-- Retarding on the ramp with the left wheel's record in this state. -/
def searching (g : Grip) : State := { ramp with grip := ⟨g, g⟩ }

theorem test_witness_DwellCounts :
    ramp.speed.current = some .front ∧ ramp.speed.current ≠ some .sat ∧
      (gripIn .hold 364 98 0).dwell + 1 < 100 ∧ 100 ≤ (gripIn .hold 364 99 0).dwell + 1 ∧
      750 ≤ 713 + 750 * 50 / 1000 ∧ 364 + 750 * 50 / 1000 < 750 ∧
      (gripIn .search 401 48 0).dwell + 1 < 50 ∧ 50 ≤ (gripIn .search 401 49 0).dwell + 1 ∧
      (silenceCounted (leaseCounted (searching (gripIn .search 401 49 0)))).drive.state = .ready ∧
      401 ≤ (runChain (silenceCounted (leaseCounted (searching (gripIn .search 401 49 0)))) .left
        2).t2.natAbs ∧
      (runChain (silenceCounted (leaseCounted (searching (gripIn .search 600 49 0)))) .left
        2).t2.natAbs < 600 ∧
      (following .rear ramp).speed.current ≠ some .front := by decide +kernel

/-- The ramp with one grid in this state. -/
def gridAt (g : Grid) : State :=
  { onTheRamp with retard := { onTheRamp.retard with grids := { onTheRamp.retard.grids with a1 := g } } }

theorem test_witness_CapacityAndAllocation :
    (onTheRamp.retard.grids.get .g1).state = .ready ∧ 100 ≤ (onTheRamp.retard.grids.get .g1).alloc ∧
      810 * 500 / 1000 ≤ 405 ∧ (404 : Nat) < 810 * 500 / 1000 ∧
      ((gridAt ⟨.ready, 0, true, 0, 100, 0, 0, 4, 0, 0⟩).retard.grids.get .g1).faults = 4 ∧
      ((gridAt ⟨.off, 0, true, 0, 0, 0, 0, 0, 0, 0⟩).retard.grids.get .g1).state = .off ∧
      ((gridAt ⟨.fault, 0, true, 0, 0, 0, 0, 5, 0, 0⟩).retard.grids.get .g1).state = .fault ∧
      after (exec (.capacityStep (gridsAt 800 0)) onTheRamp) (fun t => decide (0 < t.retard.pcap)) =
        true ∧
      after (exec (.capacityStep (gridsAt 800 0))
          { State.reset with
            retard := { State.reset.retard with grids := ⟨.reset false, .reset false, .reset false,
              .reset false⟩ } }) (fun t => t.retard.pcap == 0) = true := by decide +kernel

theorem test_witness_GradeSpeed :
    State.reset.load.state = .invalid ∧ onTheRamp.load.state ≠ .invalid ∧
      currentSegment onTheRamp = some ⟨21, -95, 22, .dry⟩ ∧ currentSegment State.reset = none ∧
      after (exec (.capacityStep (gridsAt 800 0)) onTheRamp) (fun t => t.retard.slope == 73) = true ∧
      after (exec (.capacityStep (gridsAt 800 0))
          { onTheRamp with segs := ⟨[⟨21, 0, 22, .dry⟩], some 21, .along⟩ }) (fun t =>
        decide (t.retard.slope ≤ 0)) = true := by decide +kernel

theorem test_witness_GridFaultAndClear :
    ((gridAt ⟨.ready, 0, true, 0, 100, 0, 0, 4, 0, 0⟩).retard.grids.get .g1).state = .ready ∧
      100 ≤ ((gridAt ⟨.ready, 0, true, 0, 100, 0, 0, 4, 0, 0⟩).retard.grids.get .g1).alloc ∧
      4 ≤ ((gridAt ⟨.ready, 0, true, 0, 100, 0, 0, 4, 0, 0⟩).retard.grids.get .g1).faults ∧
      min 4000 ((gridsAt 49 0).grids.get .g1).power < 100 * 500 / 1000 ∧
      authorityOf fromOperator ≠ none ∧ (truck .parked 0).drive.state = .parked ∧
      (4#8).toNat = GridNo.g4.num ∧ ((truck .parked 0).retard.grids.get .g4).state ≠ .off ∧
      4 < (5#8).toNat ∧
      ((gridAt ⟨.off, 0, true, 0, 0, 0, 0, 0, 0, 0⟩).retard.grids.get .g1).state = .off ∧
      (truck .ready 0).drive.state ≠ .parked := by decide +kernel

theorem test_witness_GridFaultAndClear_fitted (n : GridNo) :
    (State.reset.retard.grids.get n).state ≠ .off := by
  cases n <;> decide

/-- LINK_VOLTAGE ACTIVE at this low count. -/
def linkHighFor (n : Nat) : State :=
  { State.reset with
    gov := { State.reset.gov with linkVoltage := ⟨true, 375, true⟩ }
    retard := { State.reset.retard with lowCount := n } }

theorem test_witness_LinkVoltage :
    50 ≤ State.reset.param .linkHigh ∧ State.reset.gov.linkVoltage.active = false ∧
      State.reset.param .linkHigh < min 4000 (gridsAt 0 2151).volts ∧
      min 4000 (gridsAt 0 2150).volts ≤ State.reset.param .linkHigh ∧
      (linkHighFor 9).gov.linkVoltage.active = true ∧
      State.reset.param .linkHigh - 50 ≤ min 4000 (gridsAt 0 2100).volts ∧
      min 4000 (gridsAt 0 2099).volts < State.reset.param .linkHigh - 50 ∧
      (linkHighFor 8).retard.lowCount < 9 ∧ 9 ≤ (linkHighFor 9).retard.lowCount ∧
      after (exec (.linkVoltageClear (gridsAt 0 2099)) (linkHighFor 8)) (fun t =>
        t.gov.linkVoltage.active && t.retard.lowCount == 8) = true := by decide +kernel

theorem test_witness_Overvoltage :
    min 4000 (gridsAt 0 2350).volts ≤ State.reset.param .linkTrip ∧
      State.reset.param .linkTrip < min 4000 (gridsAt 0 2351).volts ∧
      State.reset.retard.overvolt = false ∧ (truck .ready 0).drive.state ≠ .tripped ∧
      (truck .tripped 0).drive.state = .tripped ∧ (truck .tripped 0).drive.trip ≠ some .linkOvervolt ∧
      ({ truck .tripped 0 with
        drive := { (truck .tripped 0).drive with trip := some .linkOvervolt } } : State).drive.trip =
        some .linkOvervolt := by decide +kernel

/-- The sweep of Chapter 7's worked sequence. -/
def sweepJob : SweepJob := ⟨2922, 22, 100, 640, 20, 20, 4000, 300, .operations⟩

/-- A sweep with this many entries taken. -/
def sweeping (n : Nat) : State :=
  { truck .parked 0 with
    retard := { (truck .parked 0).retard with
      sweep := .running sweepJob (List.replicate n ⟨20, 4000, 0, 0, .noSlope⟩) } }

theorem test_witness_CapacitySweep :
    authorityOf fromDispatch = some .dispatch ∧ Owner.dispatch ≠ .operator ∧
      authorityOf fromNobody = none ∧ authorityOf fromOperator = some .operator ∧
      (∀ i : Fin 8, 1 ≤ (20 : Int) + i.val * 20 ∧ (20 : Int) + i.val * 20 ≤ 200 ∧
        ((truck .parked 0).param .emptyMass : Int) ≤ 4000 + i.val * 300 ∧
        (4000 : Int) + i.val * 300 ≤ (truck .parked 0).param .gvmMax) ∧
      ¬(4000 + (7 : Int) * 400 ≤ (truck .parked 0).param .gvmMax) ∧
      (truck .parked 0).retard.sweep = .idle ∧
      (sweeping 62).retard.sweep =
        .running sweepJob (List.replicate 62 ⟨20, 4000, 0, 0, .noSlope⟩) ∧
      (62 : Nat) < 63 ∧ 63 ≤ 63 ∧
      after (exec .sweepEntry (sweeping 63)) (fun t =>
        match t.retard.sweep with
        | .ready _ table 0 => table[0]? == some ⟨20, 4000, 0, 0, .noSlope⟩
        | _ => false) = true := by decide +kernel

theorem test_witness_SteerCommand :
    ((wheelsAhead 500).angleLineGood = true ∧ -500 ≤ (wheelsAhead 500).angle ∧
      (wheelsAhead 500).angle ≤ 500) ∧
      ¬((wheelsAhead 501).angle ≤ 500) ∧
      ((wheelsAhead 0).pressureLineGood = true ∧ 0 ≤ (wheelsAhead 0).pressure ∧
        (wheelsAhead 0).pressure ≤ 3500) ∧
      20 ≤ State.reset.eff .left .steerRate ∧ State.reset.steer.command = none ∧
      after (exec (.steerStep (wheelsAhead 400))
          { truck .ready 640 with steer := { SteerGov.reset with command := some 400 } }) (fun t =>
        t.steer.command == some 393 && t.steer.alim == 40) = true := by decide +kernel

/-- The hose of Chapter 8's worked sequence, with these counts. -/
def hose (fault : Bool) (errors recovery : Nat) (command : Int) : State :=
  { truck .ready 120 with
    steer := { SteerGov.reset with
      command := some command, fault := fault, errors := errors, recovery := recovery
      freeze := if fault then some 60 else none } }

theorem test_witness_SteerFaultsAndReserve :
    ((hose false 9 0 100).steer.fault = false ∧ 9 ≤ (hose false 9 0 100).steer.errors ∧
      (hose false 9 0 100).steer.command = some 100 ∧
      (hose false 9 0 100).param .steerTrackErr < ((wheelsAhead 60).angle - 100).natAbs) ∧
      ((hose true 0 9 60).steer.fault = true ∧ 9 ≤ (hose true 0 9 60).steer.recovery ∧
        (hose true 0 9 60).steer.command = some 60 ∧
        ((wheelsAhead 60).angle - 60).natAbs ≤ (hose true 0 9 60).param .steerTrackErr) ∧
      ¬(9 ≤ (hose false 8 0 100).steer.errors) ∧ ¬(9 ≤ (hose true 0 8 60).steer.recovery) ∧
      after (exec (.steerStep ⟨60, true, 899, true⟩) (hose false 0 0 60)) (fun t =>
        t.steer.crit && t.steer.low) = true ∧
      after (exec (.steerStep ⟨60, true, 950, true⟩)
          { hose false 0 0 60 with steer := { (hose false 0 0 60).steer with crit := true } })
        (fun t => !t.steer.crit) = true := by decide +kernel

theorem test_witness_SteerFaultsAndReserve_counts :
    after (exec (.steerStep (wheelsAhead 60)) (hose true 0 8 60)) (fun t =>
      t.steer.fault && t.steer.recovery == 9) = true ∧
      after (exec (.steerStep (wheelsAhead 60)) (hose true 0 9 91)) (fun t =>
        t.steer.fault && t.steer.recovery == 0) = true ∧
      after (exec (.steerStep (wheelsAhead 501)) (hose true 0 9 60)) (fun t =>
        t.steer.fault && t.steer.recovery == 0) = true ∧
      after (exec (.steerStep (wheelsAhead 60)) { hose true 0 9 60 with
          steer := { (hose true 0 9 60).steer with command := none } }) (fun t =>
        t.steer.fault && t.steer.recovery == 0) = true ∧
      after (exec (.steerStep (wheelsAhead 60)) { hose false 9 0 60 with
          steer := { (hose false 9 0 60).steer with command := none } }) (fun t =>
        !t.steer.fault && t.steer.errors == 0) = true := by decide +kernel

/-- The freeze angle is set at the seeding step where there is none (R144) and stands while the fault does
(R147); the event rows do nothing where the fault state is not theirs. -/
theorem test_witness_SteerFaultsAndReserve_freeze :
    after (exec (.steerStep (wheelsAhead 75)) { hose true 0 0 60 with
        steer := { (hose true 0 0 60).steer with command := none, freeze := none } }) (fun t =>
      t.steer.fault && t.steer.freeze == some 75 && t.steer.command == some 75) = true ∧
      after (exec (.steerStep (wheelsAhead 75)) { hose true 0 0 60 with
          steer := { (hose true 0 0 60).steer with command := none } }) (fun t =>
        t.steer.freeze == some 60) = true ∧
      after (exec (.steerStep (wheelsAhead 501)) (hose true 0 0 60)) (fun t =>
        t.steer.freeze == some 60) = true ∧
      after (exec (.steerFault (wheelsAhead 501)) (hose true 0 9 60)) (fun t =>
        t.steer.recovery == 9) = true ∧
      after (exec (.steerFaultClear (wheelsAhead 501)) (hose false 3 0 60)) (fun t =>
        !t.steer.fault && t.steer.errors == 3) = true := by decide +kernel

theorem test_witness_SteerCurveAndPoints :
    CurveInOrder curveDefault ∧ (curveDefault.get 3).speed ≤ 190 ∧ 190 ≤ (curveDefault.get 4).speed ∧
      (curveDefault.get 7).speed ≤ 640 ∧ CurveInOrder State.reset.steer.curve ∧
      ¬((100 : Int).natAbs ≤ (curveDefault.get 7).angle) ∧ (curveDefault.get 0).angle < 381 ∧
      100 ≤ (curveDefault.get 5).angle ∧ (curveDefault.get 6).angle ≤ 100 ∧
      authorityOf fromDispatch = some .dispatch ∧ authorityOf fromAutonomy ≠ some .dispatch ∧
      authorityOf fromAutonomy ≠ some .safety ∧ 7 < (8#8).toNat ∧ 640 < (641#16).toNat ∧
      450 < (451#16).toNat ∧ (truck .parked 0).drive.state = .parked ∧
      (truck .ready 0).drive.state ≠ .parked ∧ (640#16).toNat ≤ 640 ∧
      (40#16).toNat ≤ (curveDefault.get 6).angle ∧ (curveDefault.get 6).speed < (640#16).toNat ∧
      ¬((curveDefault.get 6).speed < (400#16).toNat) := by
  refine ⟨by unfold CurveInOrder; decide +kernel, ?_⟩
  refine ⟨by decide +kernel, by decide +kernel, by decide +kernel,
    by unfold CurveInOrder; decide +kernel, ?_⟩
  decide +kernel

theorem test_witness_PayloadStates :
    (shovel.speed.current.isSome = true ∧ shovel.speed.v < 50) ∧ shovel.load.state = .measuring ∧
      ¬((truck .ready 50).speed.v < 50) ∧ strutsGood laden = true ∧ strutsGood ⟨0, 1, 1, 1⟩ = false ∧
      ({ shovel with load := { shovel.load with state := .latched, lowSpeed := 28 } } :
        State).load.lowSpeed < 29 ∧
      29 ≤ ({ shovel with load := { shovel.load with state := .latched, lowSpeed := 29 } } :
        State).load.lowSpeed ∧
      State.reset.load.state = .invalid ∧
      after (exec (.loadWindow laden) { shovel with load := { shovel.load with samples := [] } })
        (fun t => t.load.cls == .over1) = true := by decide +kernel

theorem test_witness_PayloadStates_struts (n : GridNo) : 1 ≤ laden.get n ∧ laden.get n ≤ 3999 := by
  cases n <;> decide

/-- R158's figure within R156's range, and the greatest there is, above it (log entry 21). -/
theorem test_witness_PayloadStates_figure :
    sprungFigure laden 1800 = 5302 ∧ sprungOf laden 1800 = 5302 ∧
      sprungFigure ⟨3999, 3999, 3999, 3999⟩ 4000 = 65223 ∧ Param.strutArea.range.2 = 4000 ∧
      sprungOf ⟨3999, 3999, 3999, 3999⟩ 4000 = 30000 ∧
      after (exec (.loadWindow ⟨3999, 3999, 3999, 3999⟩)
          { shovel.setParamValue .strutArea 4000 with load := { shovel.load with samples := [] } })
        (fun t => t.load.value == 4000 && t.load.cls == .over3) = true := by decide +kernel

theorem test_witness_PayloadRecordsHeatAndTare :
    authorityOf fromDispatch = some .dispatch ∧ authorityOf fromOperator ≠ some .dispatch ∧
      authorityOf fromOperator ≠ some .safety ∧ (truck .ready 0).drive.state ≠ .parked ∧
      shovel.drive.state = .parked ∧ shovel.load.state = .measuring ∧ shovel.load.samples ≠ [] ∧
      (truck .parked 0).load.state ≠ .measuring ∧
      after (exec (.loadWindow emptyStruts)
          { pulling 700 shovel with load := { shovel.load with heat := ⟨9998, 7499⟩ } }) (fun t =>
        t.load.heat == ⟨10000, 7501⟩) = true := by decide +kernel

theorem test_witness_ParkAndClearHold :
    authorityOf fromOperator = some .operator ∧ authorityOf fromAutonomy = some .autonomy ∧
      (truck .hold 4).drive.mode = .manned ∧ (truck .tripped 0).drive.state = .tripped ∧
      5 ≤ (truck .ready 5).speed.v ∧ (truck .hold 4).speed.v < 5 ∧
      (truck .parked 0).drive.state = .parked ∧ (truck .releasing 0).drive.state = .releasing ∧
      (truck .hold 4).drive.state = .hold ∧ (truck .hold 4).drive.conditions.steerFault = false ∧
      (truck .hold 4).drive.conditions.steerCrit = false ∧
      (truck .hold 4).drive.hold.safetyHold = false ∧
      ({ truck .hold 4 with
        drive := { (truck .hold 4).drive with conditions := ⟨true, false⟩ } } :
        State).drive.conditions.steerFault = true := by decide +kernel

theorem test_witness_ParkAndClearHold_wheels :
    ¬∃ w : Wheel, ((truck .hold 4).wheel w).mode ≠ .governed ∧ ((truck .hold 4).wheel w).link ≠ .up := by
  rintro ⟨w, h, -⟩
  cases w <;> exact h rfl

theorem test_witness_UnparkAndRelease :
    authorityOf fromOperator = some .operator ∧ (truck .parked 0).drive.mode = .manned ∧
      (truck .releasing 0).drive.state = .releasing ∧ (truck .ready 0).drive.state ≠ .parked ∧
      (truck .parked 0).speed.current ≠ none ∧ (truck .parked 0).drive.conditions.steerCrit = false ∧
      State.reset.speed.current = none ∧ (truck .releasing 0).drive.brakeReleased = false ∧
      (truck .releasing 0).drive.conditions = ⟨false, false⟩ ∧
      (((truck .releasing 0).setWheel .left WheelState.reset).wheel .left).mode ≠ .governed ∧
      (((truck .releasing 0).setWheel .left WheelState.reset).wheel
        (Wheel.other .left)).mode = .governed := by decide +kernel

theorem test_witness_UnparkAndRelease_owner :
    Owner.autonomy ≠ .safety ∧ Owner.autonomy ≠ .operator ∧ (truck .parked 0).drive.mode = .manned ∧
      (truck .parked 0).drive.mode ≠ .autonomous := by decide

theorem test_witness_UnparkAndRelease_wheels (w : Wheel) :
    ((truck .releasing 0).wheel w).mode = .governed ∧
      (({ truck .releasing 0 with
        torque := { (truck .releasing 0).torque with wheels := ⟨.reset, .reset⟩ } } :
        State).wheel w).mode ≠ .governed := by
  cases w <;> decide

theorem test_witness_SafetyRequestsAndMode :
    authorityOf fromSafety = some .safety ∧ (truck .parked 0).drive.state ≠ .ready ∧
      (truck .parked 0).drive.state ≠ .hold ∧ (truck .hold 0).drive.state = .hold ∧
      (truck .ready 4).drive.state = .ready ∧ (truck .ready 4).speed.v < 5 ∧
      (truck .tripped 4).drive.state = .tripped ∧ 5 ≤ (truck .tripped 5).speed.v ∧
      (truck .tripped 4).retard.overvolt = false ∧
      ({ truck .tripped 4 with
        retard := { (truck .tripped 4).retard with overvolt := true } } : State).retard.overvolt =
        true ∧
      authorityOf fromOperator = some .operator ∧ Owner.operator ≠ .safety ∧ modeOfCode 2 = none ∧
      authorityOf fromDispatch ≠ some .operator ∧ authorityOf fromDispatch ≠ some .safety ∧
      authorityOf fromAutonomy ≠ some .operator ∧ authorityOf fromAutonomy ≠ some .safety ∧
      modeOfCode 1 = some .autonomous := by decide +kernel

theorem test_witness_WhatChangesWhere :
    after (exec (.setControlMode fromOperator 1) (truck .parked 0)) (fun t =>
      t.drive.mode != (truck .parked 0).drive.mode) = true ∧
      after (exec (.clearHold fromOperator) (truck .hold 0)) (fun t => t.drive.state == .ready) = true ∧
      (truck .hold 0).drive.state ≠ .ready ∧
      after (exec (.resetTrip fromSafety) (truck .tripped 0)) (fun t => t.drive.state != .tripped) =
        true ∧
      after (exec (.restart fromSafety 0) (truck .parked 0)) (fun t => t.drive.state == .starting) =
        true ∧
      50 ≤ (truck .ready 50).speed.v ∧
      after (exec (.powerUp ⟨.g1, .sat, .tied⟩ false) (truck .ready 50)) (fun t =>
        t.straps != (truck .ready 50).straps && t.load.cls == .none) = true := by decide +kernel

/-- The step of the invariant statements: one is taken from State.reset with a command waiting; the
witnesses of their invariants follow. -/
theorem test_witness_invariant_step :
    after (step { State.reset with pending := [.window still] }) (fun _ => true) = true := by
  decide +kernel

theorem test_witness_EnvelopeInvariant : EnvelopeResolved State.reset := by
  unfold EnvelopeResolved; decide +kernel

theorem test_witness_TablesInvariant : TableInOrder State.reset ∧ SegmentsInOrder State.reset := by
  refine ⟨⟨fun i => ?_, fun i r h => ?_, fun i j r q h => ?_⟩, ?_⟩
  · simp [State.reset, State.cold]
  · rw [noLimit i] at h; exact absurd h (by simp)
  · rw [noLimit i] at h; exact absurd h (by simp)
  · refine ⟨by decide, by decide, fun g hg => absurd hg (by simp [State.reset, State.cold]),
      fun id h => absurd h (by simp [State.reset, State.cold]), fun i r id h => ?_⟩
    rw [noLimit i] at h; exact absurd h (by simp)

theorem test_witness_TorqueAndWheelsInvariant :
    TorqueAtRest (truck .ready 0) ∧ WheelsInOrder (truck .ready 0) := by
  refine ⟨fun w => ?_, fun w => ?_, fun _ w => ?_, fun h => absurd h (by decide)⟩
  · cases w <;> exact ⟨fun _ => ⟨rfl, rfl⟩, fun _ => by decide⟩
  · cases w <;> exact ⟨by decide, by decide, fun _ => rfl⟩
  · cases w <;> rfl

theorem test_witness_CeilingsInvariant : CeilingsBounded State.reset := by
  intro w
  cases w <;> exact ⟨by decide, by decide, fun _ => rfl, fun h => absurd h (by decide)⟩

theorem test_witness_DriveAndSourceInvariant :
    SourceInForce (truck .ready 0) ∧ DriveInOrder (truck .ready 0) := by
  refine ⟨⟨by decide, fun c h => ?_, by decide, by decide⟩, ?_⟩
  · cases h; rfl
  · unfold DriveInOrder
    refine ⟨by decide, by decide, by decide, fun n h => absurd h (by simp [truck]), by decide,
      by decide, by decide, by decide, by decide, by decide, by decide, fun n h => ?_, by decide,
      by decide⟩
    cases h; decide

theorem test_witness_HoldingsInvariant :
    ConditionsFollow State.reset ∧ GridsInOrder State.reset ∧ HoldingsInRange State.reset := by
  refine ⟨⟨rfl, rfl⟩, ⟨fun n => ?_, by decide, by decide, by decide⟩, fun p => ?_, ?_, trivial, ?_⟩
  · cases n <;> (unfold Grid.InOrder; decide +kernel)
  · cases p <;> decide +kernel
  · unfold CurveInOrder; decide +kernel
  · unfold LoadMon.InOrder; decide +kernel

end Sys2Proof.Tests
end

section
/-! The rules that the Limit Table's and the Segment Table's statements share: what a record, a slot and the
two tables in order are, the key of a record, and what each slot update leaves (R3 to R8, R11, R39, R40). -/

namespace Sys2Proof.Machine

/-! ### Keys (R7) -/

/-- The key of a record: owner, kind, scope, binding (R7). -/
def Rec.key (r : Rec) : Owner × Kind × Scope × Option Nat := (r.owner, r.kind, r.scope, r.segment)

theorem hasKey_iff {r : Rec} {o : Owner} {k : Kind} {sc : Scope} {seg : Option Nat} :
    r.hasKey o k sc seg = true ↔ r.key = (o, k, sc, seg) := by
  simp [Rec.hasKey, Rec.key, and_assoc]

/-- A slot holds no record whose key it did not hold before. -/
def Slot.KeepsKey (x y : Slot) : Prop :=
  ∀ r, y.record = some r → ∃ q, x.record = some q ∧ q.key = r.key

/-! ### Tables in order, slot by slot -/

/-- The Segment Table holds a record of this id. -/
def SegTable.Has (x : SegTable) (id : Nat) : Prop := ∃ g ∈ x.records, g.id = id

theorem findSegment_isSome_iff {s : State} {id : Nat} :
    (findSegment s id).isSome = true ↔ s.segs.Has id := by
  simp [findSegment, SegTable.Has]

/-- What a search of the Segment Table finds is in the table, under the id searched for. -/
theorem mem_of_findSegment {s : State} {id : Nat} {g : Segment} (h : findSegment s id = some g) :
    g ∈ s.segs.records ∧ g.id = id :=
  ⟨List.mem_of_find?_eq_some h, by simpa using List.find?_some h⟩

/-- A record that is legal, ACTIVE by R8, and bound to a present segment if to any. -/
structure Rec.InOrder (x : SegTable) (r : Rec) : Prop where
  legal : r.Legal
  active : r.active = true ↔ (r.segment = none ∨ r.segment = x.current)
  bound : ∀ id, r.segment = some id → x.Has id

/-- A slot with a generation of 1 to 255 and a record in order, if any. -/
structure Slot.InOrder (x : SegTable) (y : Slot) : Prop where
  gen : 1 ≤ y.gen ∧ y.gen ≤ 255
  record : ∀ r, y.record = some r → r.InOrder x

/-- The Segment Table alone in order (R39, R40). -/
structure SegTable.InOrder (x : SegTable) : Prop where
  length : x.records.length ≤ 64
  sorted : (x.records.map Segment.id).Pairwise (· < ·)
  legal : ∀ g, g ∈ x.records → g.Legal
  current : ∀ id, x.current = some id → x.Has id

/-- Both tables in order, slot by slot. -/
structure TablesInOrder (s : State) : Prop where
  slots : ∀ i : Fin 39, s.table[i.val].InOrder s.segs
  keys : ∀ (i j : Fin 39) (r q : Rec), s.table[i.val].record = some r →
    s.table[j.val].record = some q → r.key = q.key → i = j
  segs : s.segs.InOrder

theorem tablesInOrder_iff {s : State} :
    TablesInOrder s ↔ TableInOrder s ∧ SegmentsInOrder s := by
  simp only [TableInOrder, SegmentsInOrder, findSegment_isSome_iff]
  constructor
  · rintro ⟨slots, keys, segs⟩
    exact ⟨⟨fun i => (slots i).gen,
      fun i r h => ⟨((slots i).record r h).legal, ((slots i).record r h).active⟩,
      fun i j r q h g ho hk hsc hseg => keys i j r q h g (by simp [Rec.key, *])⟩,
      segs.length, segs.sorted, segs.legal, segs.current,
      fun i r id h => ((slots i).record r h).bound id⟩
  · rintro ⟨⟨gens, recs, keys⟩, length, sorted, legal, current, bound⟩
    refine ⟨fun i => ⟨gens i, fun r h => ⟨(recs i r h).1, (recs i r h).2, fun id => bound i r id h⟩⟩,
      fun i j r q h g hk => ?_, length, sorted, legal, current⟩
    simp only [Rec.key, Prod.mk.injEq] at hk
    obtain ⟨ho, hk, hsc, hseg⟩ := hk
    exact keys i j r q h g ho hk hsc hseg

/-- Only the two tables count. -/
theorem TablesInOrder.congr {s t : State} (h : TablesInOrder s) (ht : t.table = s.table)
    (hs : t.segs = s.segs) : TablesInOrder t := by
  constructor <;> simp only [ht, hs]
  exacts [h.slots, h.keys, h.segs]

/-- The tables stay in order when each slot is left in order and no slot gains a key. -/
theorem TablesInOrder.of_slots {s t : State} (h : TablesInOrder s) (hs : t.segs.InOrder)
    (hx : ∀ i : Fin 39, t.table[i.val].InOrder t.segs ∧ s.table[i.val].KeepsKey t.table[i.val]) :
    TablesInOrder t := by
  refine ⟨fun i => (hx i).1, fun i j r q hi hj hk => ?_, hs⟩
  obtain ⟨r', hr, kr⟩ := (hx i).2 r hi
  obtain ⟨q', hq, kq⟩ := (hx j).2 q hj
  exact h.keys i j r' q' hr hq (by rw [kr, kq, hk])

/-! ### What each slot update leaves -/

/-- A generation stepped from any figure lies in 1 to 255 (R3). -/
theorem nextGen_range (g : Nat) : 1 ≤ nextGen g ∧ nextGen g ≤ 255 := by
  unfold nextGen; split <;> omega

theorem retired_eq (x : Slot) :
    x.retired = ⟨if 255 ≤ x.gen then 1 else x.gen + 1, none⟩ := rfl

/-- A retired slot is in order, whatever it held. -/
theorem retired_inOrder (x : SegTable) (y : Slot) :
    y.retired.InOrder x ∧ y.KeepsKey y.retired :=
  ⟨⟨nextGen_range _, by simp [Slot.retired]⟩, by simp [Slot.KeepsKey, Slot.retired]⟩

theorem keepsKey_refl (y : Slot) : y.KeepsKey y := fun r h => ⟨r, h, rfl⟩

/-- A slot whose record, if any, is replaced by one in order of the same key. -/
theorem mapRecord_inOrder {x x' : SegTable} {y : Slot} {f : Rec → Rec} (h : y.InOrder x)
    (hf : ∀ r, r.InOrder x → (f r).InOrder x' ∧ (f r).key = r.key) :
    (⟨y.gen, y.record.map f⟩ : Slot).InOrder x' ∧ y.KeepsKey ⟨y.gen, y.record.map f⟩ := by
  refine ⟨⟨h.gen, fun r hr => ?_⟩, fun r hr => ?_⟩ <;>
    obtain ⟨q, hq, rfl⟩ := Option.map_eq_some_iff.1 hr
  · exact (hf q (h.record q hq)).1
  · exact ⟨q, hq, (hf q (h.record q hq)).2.symm⟩

/-- A record stays in order when its state is set again by R8 for another current segment. -/
theorem Rec.InOrder.reactivated {x x' : SegTable} {r : Rec} {b : Bool} (h : r.InOrder x)
    (hx : x'.records = x.records)
    (hb : b = true ↔ (r.segment = none ∨ r.segment = x'.current)) :
    Rec.InOrder x' { r with active := b } := by
  refine ⟨h.legal, hb, fun id hid => ?_⟩
  unfold SegTable.Has
  rw [hx]
  exact h.bound id hid

/-- A record stays in order under another legal lease and value. -/
theorem Rec.InOrder.revalued {x : SegTable} {r : Rec} {v : Nat} {l : Option Lease} (h : r.InOrder x)
    (hv : r.kind.inRange v = true)
    (hl : ∀ m, l = some m → 1 ≤ m.remaining ∧ m.remaining ≤ m.length ∧ m.length ≤ 6000) :
    Rec.InOrder x { r with value := v, lease := l } := by
  obtain ⟨ho, -, hsc, him, -⟩ := h.legal
  exact ⟨⟨ho, hv, hsc, him, hl⟩, h.active, h.bound⟩

theorem activeIn_iff {c b : Option Nat} : activeIn c b = true ↔ (b = none ∨ b = c) := by
  cases b <;> simp [activeIn]

/-- A lease of one record in order (R11). -/
theorem Rec.InOrder.lease {x : SegTable} {r : Rec} {l : Lease} (h : r.InOrder x)
    (hl : r.lease = some l) : 1 ≤ l.remaining ∧ l.remaining ≤ l.length ∧ l.length ≤ 6000 :=
  h.legal.2.2.2.2 l hl

/-! ### The slots after a lease step (R11, R12) -/

theorem expiring_iff {x : Slot} :
    x.expiring = true ↔ ∃ r l, x.record = some r ∧ r.lease = some l ∧ l.remaining ≤ 1 := by
  simp [Slot.expiring, Option.any_eq_true]

/-- A lease with one taken from its remaining time (R11). -/
def Lease.counted (l : Lease) : Lease := ⟨l.length, l.remaining - 1⟩

theorem leaseStepped_of_expiring {x : Slot} (h : x.expiring = true) : x.leaseStepped = x.retired := by
  simp [Slot.leaseStepped, h]

theorem leaseStepped_of_not_expiring {x : Slot} (h : x.expiring = false) :
    x.leaseStepped =
      ⟨x.gen, x.record.map (fun r => { r with lease := r.lease.map Lease.counted })⟩ := by
  simp [Slot.leaseStepped, h]; rfl

/-- A lease step keeps a slot in order (R11, R12). -/
theorem leaseStepped_inOrder {x : SegTable} {y : Slot} (h : y.InOrder x) :
    y.leaseStepped.InOrder x ∧ y.KeepsKey y.leaseStepped := by
  cases he : y.expiring with
  | true => rw [leaseStepped_of_expiring he]; exact retired_inOrder x y
  | false =>
    rw [leaseStepped_of_not_expiring he]
    refine ⟨⟨h.gen, fun r hr => ?_⟩, fun r hr => ?_⟩ <;>
      obtain ⟨q, hq, rfl⟩ := Option.map_eq_some_iff.1 hr
    · refine (h.record q hq).revalued (h.record q hq).legal.2.1 fun m hm => ?_
      obtain ⟨l, hl, rfl⟩ := Option.map_eq_some_iff.1 hm
      have := (h.record q hq).lease hl
      have : ¬ l.remaining ≤ 1 := fun hle => by
        simp [expiring_iff.2 ⟨q, l, hq, hl, hle⟩] at he
      simp only [Lease.counted]
      omega
    · exact ⟨q, hq, rfl⟩

/-! ### The slots after a warm restart and at a change of the current segment (R8, R26, R46, R47) -/

/-- A warm restart keeps a slot in order (R8, R26). -/
theorem slotWarm_inOrder {x : SegTable} {y : Slot} (h : y.InOrder x) :
    (y.warm x.current).InOrder x ∧ y.KeepsKey (y.warm x.current) := by
  unfold Slot.warm
  split
  · exact retired_inOrder x y
  · exact mapRecord_inOrder h fun r hr => ⟨hr.reactivated rfl activeIn_iff, rfl⟩

/-- A record's state at a change of the current segment from `old` to `new` (R8, R46, R47). -/
theorem flipped_eq (old new : Option Nat) (x : Slot) :
    x.flipped old new = ⟨x.gen, x.record.map (fun r => { r with active :=
      if r.segment = none then r.active
      else if r.segment = new then true
      else if r.segment = old then false else r.active })⟩ := by
  unfold Slot.flipped
  congr 2
  funext r
  cases h : r.segment with
  | none => simp [← h]
  | some b =>
    simp only [eq_comm (a := some b), reduceCtorEq, if_false]
    split
    · simp [← h]
    · split <;> simp [← h]

/-- A change of the current segment keeps a slot in order (R8, R46, R47). -/
theorem flipped_inOrder {x : SegTable} {y : Slot} (new : Option Nat) (hd : Heading) (h : y.InOrder x) :
    (y.flipped x.current new).InOrder { x with current := new, heading := hd } ∧
      y.KeepsKey (y.flipped x.current new) := by
  rw [flipped_eq]
  refine mapRecord_inOrder h fun r hr => ⟨hr.reactivated rfl ?_, rfl⟩
  have := hr.active
  by_cases h0 : r.segment = none
  · simp_all
  · by_cases h1 : r.segment = new
    · simp_all
    · by_cases h2 : r.segment = x.current <;> simp_all

end Sys2Proof.Machine
end

section
/-! What each operation on the Limit Table and the Segment Table leaves of their order (R13 to R18, R43 to
R47, R181). -/

namespace Sys2Proof.Machine

/-! ### One slot written (R13 to R17) -/

/-- What a slot holds after one slot is written. -/
theorem setSlot_get (t : Vector Slot 39) (i j : Fin 39) (x : Slot) :
    (t.set i.val x)[j.val] = if j = i then x else t[j.val] := by
  by_cases h : j = i
  · subst h; simp
  · rw [if_neg h, setSlot_other h]

theorem setRecord_get (s : State) (i j : Fin 39) (r : Rec) : (setRecord i r s).table[j.val] =
    if j = i then ⟨s.table[i.val].gen, some r⟩ else s.table[j.val] := setSlot_get ..

theorem retireSlot_get (s : State) (i j : Fin 39) : (retireSlot i s).table[j.val] =
    if j = i then s.table[i.val].retired else s.table[j.val] := setSlot_get ..

/-- The record of a slot rewritten in order under the same key (R15, R16). -/
theorem setRecord_inOrder {s : State} {i : Fin 39} {r q : Rec} (h : TablesInOrder s)
    (hr : s.table[i.val].record = some r) (hq : q.InOrder s.segs) (hk : q.key = r.key) :
    TablesInOrder (setRecord i q s) := by
  refine h.of_slots h.segs fun j => ?_
  rw [setRecord_get]
  split
  · next hj =>
    subst hj
    refine ⟨⟨(h.slots j).gen, fun x hx => ?_⟩, fun x hx => ⟨r, hr, ?_⟩⟩ <;> cases hx
    · exact hq
    · exact hk.symm
  · exact ⟨h.slots j, keepsKey_refl _⟩

/-- A record of a new key put into a slot (R14). -/
theorem placed_inOrder {s : State} {i : Fin 39} {q : Rec} (h : TablesInOrder s)
    (hq : q.InOrder s.segs)
    (hk : ∀ (j : Fin 39) (r : Rec), s.table[j.val].record = some r → r.key ≠ q.key) :
    TablesInOrder (setRecord i q s) := by
  refine ⟨fun j => ?_, fun j k a b hj hk' hab => ?_, h.segs⟩
  · rw [setRecord_get]
    split
    · exact ⟨(h.slots i).gen, fun x hx => by cases hx; exact hq⟩
    · exact h.slots j
  · rw [setRecord_get] at hj hk'
    split at hj <;> split at hk'
    · simp [*]
    · cases hj; exact absurd hab.symm (hk k b hk')
    · cases hk'; exact absurd hab (hk j a hj)
    · exact h.keys j k a b hj hk' hab

/-- A slot retired (R17). -/
theorem retireSlot_inOrder {s : State} (i : Fin 39) (h : TablesInOrder s) :
    TablesInOrder (retireSlot i s) := by
  refine h.of_slots h.segs fun j => ?_
  rw [retireSlot_get]
  split
  · next hj => subst hj; exact retired_inOrder _ _
  · exact ⟨h.slots j, keepsKey_refl _⟩

/-! ### Every slot rewritten (R11, R18, R26, R46, R47) -/

/-- Every slot rewritten by a function that keeps each in order and gives none a new key. -/
theorem mapSlots_inOrder {s t : State} {f : Slot → Slot} (h : TablesInOrder s)
    (hs : t.segs.InOrder) (ht : t.table = mapSlots f s.table)
    (hf : ∀ y : Slot, y.InOrder s.segs → (f y).InOrder t.segs ∧ y.KeepsKey (f y)) :
    TablesInOrder t :=
  h.of_slots hs fun i => by rw [ht, mapSlots_get]; exact hf _ (h.slots i)

theorem retireWhere_inOrder {s : State} (pick : Slot → Bool) (h : TablesInOrder s) :
    TablesInOrder (retireWhere pick s) := by
  refine mapSlots_inOrder h h.segs rfl fun y hy => ?_
  split
  · exact retired_inOrder _ _
  · exact ⟨hy, keepsKey_refl _⟩

theorem resolve_inOrder {s : State} (h : TablesInOrder s) : TablesInOrder (resolve s) :=
  h.congr rfl rfl

/-- The lease step keeps the tables in order (R11, R12). -/
theorem leaseStepState_inOrder {s : State} (h : TablesInOrder s) :
    TablesInOrder (leaseStepState s) := by
  have key : ∀ t : State, t.table = mapSlots Slot.leaseStepped s.table → t.segs = s.segs →
      TablesInOrder t := fun t ht hs =>
    mapSlots_inOrder h (hs ▸ h.segs) ht fun y hy => hs ▸ leaseStepped_inOrder hy
  unfold leaseStepState
  dsimp only
  split <;> exact key _ rfl rfl

/-- A change of the current segment to none, or to one in the table, keeps the tables in order. -/
theorem changeSegment_inOrder {s : State} {new : Option Nat} (hd : Heading) (h : TablesInOrder s)
    (hn : ∀ id, new = some id → s.segs.Has id) : TablesInOrder (changeSegment new hd s) :=
  resolve_inOrder (mapSlots_inOrder (t := { s with
      segs := { s.segs with current := new, heading := hd }
      table := mapSlots (Slot.flipped s.segs.current new) s.table })
    h ⟨h.segs.length, h.segs.sorted, h.segs.legal, hn⟩ rfl fun _ hy => flipped_inOrder new hd hy)

/-! ### The requests of the Limit Table -/

/-- What a handle's match says of the slot. -/
theorem matchHandle_some {s : State} {slot gen : Nat} {i : Fin 39} {r : Rec}
    (h : matchHandle s slot gen = some (.ext i r)) : s.table[i.val].record = some r := by
  unfold matchHandle at h
  split at h <;> split at h
  · next hq =>
    split at h <;> cases h
    exact hq
  · cases h
  · split at h <;> cases h
  · cases h

theorem findSlot_none_iff {p : Fin 39 → Bool} : extSlots.find? p = none ↔ ∀ j, p j = false := by
  simp [extSlots, List.find?_eq_none]

theorem findKey_none_iff {s : State} {o : Owner} {k : Kind} {sc : Scope} {seg : Option Nat} :
    findKey s o k sc seg = none ↔
      ∀ (j : Fin 39) (q : Rec), s.table[j.val].record = some q → q.hasKey o k sc seg = false := by
  unfold findKey
  rw [findSlot_none_iff]
  refine forall_congr' fun j => ?_
  cases s.table[j.val].record <;> simp

/-- A placed record past PLACE_LIMIT's checks is in order. -/
theorem newRecord_inOrder {s : State} {a : Owner} {k : Kind} {sc : Scope} {v : Nat} {seg : Option Nat}
    {n : Nat} {im : Bool} (ha : a ≠ .governor) (hv : k.inRange v = true)
    (hsc : sc = .both ∨ k.perWheel = true) (him : im = true → a = .safety) (hn : n ≤ 6000)
    (hseg : ∀ id, seg = some id → s.segs.Has id) :
    (newRecord s a k sc v seg (leaseOf n) im).InOrder s.segs := by
  refine ⟨⟨ha, hv, hsc, him, fun l hl => ?_⟩, activeIn_iff, hseg⟩
  change leaseOf n = some l at hl
  unfold leaseOf at hl
  split at hl
  · simp at hl
  · cases hl; dsimp only; omega

/-- PLACE_LIMIT past its checks keeps the tables in order (R7, R14). -/
theorem placeRecord_inOrder {s : State} {q : Rec} (h : TablesInOrder s) (hq : q.InOrder s.segs) :
    TablesInOrder (placeRecord s q).1 := by
  unfold placeRecord
  split
  · exact h
  · next hk =>
    split
    · exact h
    · refine resolve_inOrder (placed_inOrder h hq fun j r hr he => ?_)
      have := findKey_none_iff.1 hk j r hr
      rw [hasKey_iff.2 he] at this
      exact absurd this (by simp)

theorem bindingOf_has {s : State} {id : Byte}
    (h : ¬(id.toNat ≠ 0 ∧ findSegment s id.toNat = none)) (n : Nat) (hn : bindingOf id = some n) :
    s.segs.Has n := by
  unfold bindingOf at hn
  split at hn
  · simp at hn
  · next hz =>
    cases hn
    rw [← findSegment_isSome_iff, Option.isSome_iff_ne_none]
    exact fun e => h ⟨hz, e⟩

theorem placeWork_inOrder {s : State} {kind scope segment immediate : Byte} {value lease : Half}
    {a : Owner} (ha : a ≠ .governor) (h : TablesInOrder s) :
    TablesInOrder (placeWork kind scope value segment lease immediate a s).1 := by
  unfold placeWork
  split
  · exact h
  next him =>
  split
  · exact h
  next sc _ =>
  split
  · exact h
  next hsc =>
  split
  · exact h
  next k hk =>
  split
  · exact h
  next hv =>
  split
  · exact h
  next hseg =>
  simp only [not_or, Bool.not_eq_false, not_lt] at hv
  refine placeRecord_inOrder h (newRecord_inOrder ha hv.1 ?_ ?_ hv.2 (bindingOf_has hseg))
  · simpa [scopeAllowed, hk, or_iff_not_imp_left] using hsc
  · intro hi
    by_contra hs
    exact him ⟨by simpa using hi, hs⟩

/-- AMEND_LIMIT's lease is legal where the record's was and a new length is in range (R15). -/
theorem amendedLease_range {act : LeaseAction} {n : Nat} {x : SegTable} {r : Rec} (h : r.InOrder x)
    (hn : ¬(act = .new ∧ (n = 0 ∨ 6000 < n))) (m : Lease) (hm : amendedLease act n r.lease = some m) :
    1 ≤ m.remaining ∧ m.remaining ≤ m.length ∧ m.length ≤ 6000 := by
  cases act with
  | keep =>
    obtain ⟨l, hl, rfl⟩ := Option.map_eq_some_iff.1 hm
    have := h.lease hl
    dsimp only
    omega
  | clear => simp [amendedLease] at hm
  | new =>
    cases hm
    have : ¬(n = 0 ∨ 6000 < n) := fun c => hn ⟨rfl, c⟩
    dsimp only
    omega

theorem amendRecord_inOrder {s : State} {i : Fin 39} {r : Rec} {v : Nat} {l : Option Lease}
    (h : TablesInOrder s) (hr : s.table[i.val].record = some r) (hv : r.kind.inRange v = true)
    (hl : ∀ m, l = some m → 1 ≤ m.remaining ∧ m.remaining ≤ m.length ∧ m.length ≤ 6000) :
    TablesInOrder (amendRecord s i r v l) := by
  have key := setRecord_inOrder h hr (((h.slots i).record r hr).revalued hv hl) rfl
  unfold amendRecord
  dsimp only
  split
  · exact key
  · exact resolve_inOrder key

theorem amendWork_inOrder {s : State} {slot gen action : Byte} {value length : Half} {a : Owner}
    (h : TablesInOrder s) : TablesInOrder (amendWork slot gen value action length a s).1 := by
  unfold amendWork
  split
  · exact h
  · exact h
  next i r hm =>
  split
  · exact h
  split
  · exact h
  next hv =>
  split
  · exact h
  split
  · exact h
  next hn =>
  have hr := matchHandle_some hm
  exact amendRecord_inOrder h hr (by simpa using hv) (amendedLease_range ((h.slots i).record r hr) hn)

theorem renewWork_inOrder {s : State} {slot gen : Byte} {a : Owner} (h : TablesInOrder s) :
    TablesInOrder (renewWork slot gen a s).1 := by
  unfold renewWork
  split
  · exact h
  · exact h
  next i r hm =>
  split
  · exact h
  split
  · exact h
  next l hl =>
  have hr := matchHandle_some hm
  have ho := (h.slots i).record r hr
  refine setRecord_inOrder h hr (ho.revalued ho.legal.2.1 fun m hm => ?_) rfl
  cases hm
  have := ho.lease hl
  dsimp only
  omega

theorem retireWork_inOrder {s : State} {slot gen : Byte} {a : Owner} (h : TablesInOrder s) :
    TablesInOrder (retireWork slot gen a s).1 := by
  unfold retireWork
  split
  · exact h
  · exact h
  split
  · exact h
  · exact resolve_inOrder (retireSlot_inOrder _ h)

theorem retireOwnerWork_inOrder {s : State} {owner : Byte} {a : Owner} (h : TablesInOrder s) :
    TablesInOrder (retireOwnerWork owner a s).1 := by
  unfold retireOwnerWork
  split
  · exact h
  split
  · exact h
  split
  · exact h
  dsimp only
  split
  · exact h
  · exact resolve_inOrder (retireWhere_inOrder _ h)

/-! ### The requests of the Segment Table -/

/-- Another list of segment records that still holds the current and every bound segment. -/
theorem withSegments_inOrder {s : State} {l : List Segment} (h : TablesInOrder s)
    (hl : l.length ≤ 64) (hp : (l.map Segment.id).Pairwise (· < ·)) (hg : ∀ g, g ∈ l → g.Legal)
    (hc : ∀ id, s.segs.current = some id → ∃ g ∈ l, g.id = id)
    (hb : ∀ (i : Fin 39) (r : Rec) (id : Nat), s.table[i.val].record = some r →
      r.segment = some id → ∃ g ∈ l, g.id = id) :
    TablesInOrder (withSegments l s) :=
  h.of_slots ⟨hl, hp, hg, hc⟩ fun i => ⟨⟨(h.slots i).gen, fun r hr =>
    ⟨((h.slots i).record r hr).legal, ((h.slots i).record r hr).active, fun id => hb i r id hr⟩⟩,
    keepsKey_refl _⟩

/-- The same when no segment leaves the table. -/
theorem withSegments_inOrder_of_mem {s : State} {l : List Segment} (h : TablesInOrder s)
    (hl : l.length ≤ 64) (hp : (l.map Segment.id).Pairwise (· < ·)) (hg : ∀ g, g ∈ l → g.Legal)
    (hm : ∀ g ∈ s.segs.records, ∃ q ∈ l, q.id = g.id) : TablesInOrder (withSegments l s) := by
  have keep (id : Nat) : s.segs.Has id → ∃ g ∈ l, g.id = id := by
    rintro ⟨g, hg, rfl⟩; exact hm g hg
  exact withSegments_inOrder h hl hp hg (fun id hid => keep id (h.segs.current id hid))
    fun i r id hr hid => keep id (((h.slots i).record r hr).bound id hid)

theorem mem_insertSegment {g x : Segment} {l : List Segment} :
    x ∈ insertSegment g l ↔ x = g ∨ x ∈ l := by
  induction l with
  | nil => simp [insertSegment]
  | cons y ys ih =>
    unfold insertSegment
    split
    · simp
    · simp only [List.mem_cons, ih]; tauto

theorem length_insertSegment (g : Segment) (l : List Segment) :
    (insertSegment g l).length = l.length + 1 := by
  induction l with
  | nil => rfl
  | cons y ys ih => unfold insertSegment; split <;> simp [ih]

/-- An insertion of a new id keeps the ids rising (R39). -/
theorem insertSegment_sorted {g : Segment} {l : List Segment}
    (h : (l.map Segment.id).Pairwise (· < ·)) (hg : ∀ x ∈ l, x.id ≠ g.id) :
    ((insertSegment g l).map Segment.id).Pairwise (· < ·) := by
  rw [List.pairwise_map] at *
  induction l with
  | nil => simp [insertSegment]
  | cons y ys ih =>
    obtain ⟨hy, hys⟩ := List.pairwise_cons.1 h
    unfold insertSegment
    split
    · next hlt =>
      refine List.pairwise_cons.2 ⟨fun x hx => ?_, h⟩
      rcases List.mem_cons.1 hx with rfl | hx
      · exact hlt
      · exact lt_trans hlt (hy x hx)
    · next hlt =>
      refine List.pairwise_cons.2 ⟨fun x hx => ?_, ih hys fun x hx => hg x (by simp [hx])⟩
      rcases mem_insertSegment.1 hx with rfl | hx
      · have := hg y (by simp); omega
      · exact hy x hx

/-- The figures of LOAD_SEGMENT and AMEND_SEGMENT make a legal record under an id from 1 (R39, R43). -/
theorem segmentFigures_legal {id cls : Byte} {grade rr : Half} {g : Segment}
    (h : segmentFigures id grade rr cls = some g) : g.id = id.toNat ∧ (1 ≤ id.toNat → g.Legal) := by
  unfold segmentFigures at h
  split at h
  · simp at h
  split at h
  · next hr =>
    cases h
    exact ⟨rfl, fun h1 => ⟨h1, by have := id.isLt; dsimp only; omega, hr.1, hr.2.1, hr.2.2⟩⟩
  · simp at h

theorem loadSegmentWork_inOrder {s : State} {id cls : Byte} {grade rr : Half} {a : Owner}
    (h : TablesInOrder s) : TablesInOrder (loadSegmentWork id grade rr cls a s).1 := by
  unfold loadSegmentWork
  split
  · exact h
  next hnew =>
  split
  · exact h
  next g hg =>
  split
  · exact h
  next hz =>
  split
  · exact h
  next hfull =>
  obtain ⟨hid, hlegal⟩ := segmentFigures_legal hg
  rw [findSegment_isSome_iff] at hnew
  simp only [loadedCount] at hfull
  refine withSegments_inOrder_of_mem h ?_ (insertSegment_sorted h.segs.sorted fun x hx hxg => ?_)
    (fun x hx => ?_) fun x hx => ⟨x, mem_insertSegment.2 (.inr hx), rfl⟩
  · rw [length_insertSegment]; omega
  · exact hnew ⟨x, hx, hxg.trans hid⟩
  · rcases mem_insertSegment.1 hx with rfl | hx
    · exact hlegal (by omega)
    · exact h.segs.legal x hx

theorem map_id_replaceSegment (g : Segment) (l : List Segment) :
    (replaceSegment g l).map Segment.id = l.map Segment.id := by
  simp only [replaceSegment, List.map_map, List.map_inj_left, Function.comp_apply]
  intro x _
  split <;> simp [*]

theorem amendSegmentState_inOrder {s : State} {old g : Segment} (h : TablesInOrder s)
    (hg : g.Legal) : TablesInOrder (amendSegmentState old g s) := by
  have key : TablesInOrder (withSegments (replaceSegment g s.segs.records) s) := by
    refine withSegments_inOrder_of_mem h ?_ ?_ (fun x hx => ?_) fun x hx => ?_
    · simpa [replaceSegment] using h.segs.length
    · rw [map_id_replaceSegment]; exact h.segs.sorted
    · obtain ⟨y, hy, rfl⟩ := List.mem_map.1 hx
      split
      · exact hg
      · exact h.segs.legal y hy
    · have : x.id ∈ (replaceSegment g s.segs.records).map Segment.id := by
        rw [map_id_replaceSegment]; exact List.mem_map_of_mem hx
      simpa using this
  unfold amendSegmentState
  dsimp only
  split
  · exact key.congr rfl rfl
  · exact key

theorem amendSegmentWork_inOrder {s : State} {id cls : Byte} {grade rr : Half} {a : Owner}
    (h : TablesInOrder s) : TablesInOrder (amendSegmentWork id grade rr cls a s).1 := by
  unfold amendSegmentWork
  split
  · exact h
  next old hold =>
  split
  · exact h
  next g hg =>
  obtain ⟨hmem, hid⟩ := mem_of_findSegment hold
  exact amendSegmentState_inOrder h
    ((segmentFigures_legal hg).2 (hid ▸ (h.segs.legal old hmem).1))

theorem boundCount_zero_iff {s : State} {id : Nat} :
    boundCount s id = 0 ↔
      ∀ (i : Fin 39) (r : Rec), s.table[i.val].record = some r → r.segment ≠ some id := by
  unfold boundCount
  rw [countSlots_zero]
  refine forall_congr' fun i => ?_
  cases s.table[i.val].record <;> simp

theorem retireSegmentWork_inOrder {s : State} {id : Byte} {a : Owner} (h : TablesInOrder s) :
    TablesInOrder (retireSegmentWork id a s).1 := by
  unfold retireSegmentWork
  split
  · exact h
  split
  · exact h
  next hcur =>
  split
  · exact h
  next hbound =>
  have keep (n : Nat) (hn : n ≠ id.toNat) :
      s.segs.Has n → ∃ g ∈ s.segs.records.filter (fun g => g.id != id.toNat), g.id = n := by
    rintro ⟨g, hg, rfl⟩
    exact ⟨g, by simp [hg, hn], rfl⟩
  have hb := boundCount_zero_iff.1 (not_not.1 hbound)
  refine withSegments_inOrder h ?_ ?_ (fun g hg => h.segs.legal g (List.mem_filter.1 hg).1)
    (fun n hn => keep n (fun e => hcur (e ▸ hn)) (h.segs.current n hn)) fun i r n hr hn => ?_
  · exact le_trans (List.length_filter_le _ _) h.segs.length
  · exact h.segs.sorted.sublist (List.filter_sublist.map _)
  · exact keep n (fun e => hb i r hr (e ▸ hn)) (((h.slots i).record r hr).bound n hn)

theorem enterSegmentWork_inOrder {s : State} {id heading : Byte} {a : Owner} (h : TablesInOrder s) :
    TablesInOrder (enterSegmentWork id heading a s).1 := by
  unfold enterSegmentWork
  split
  · exact h
  next g hg =>
  split
  · exact h
  next hd _ =>
  dsimp only
  unfold enterSegmentState
  split
  · refine h.of_slots ⟨h.segs.length, h.segs.sorted, h.segs.legal, h.segs.current⟩ fun i =>
      ⟨⟨(h.slots i).gen, fun r hr => ?_⟩, keepsKey_refl _⟩
    have ho := (h.slots i).record r hr
    exact ⟨ho.legal, ho.active, ho.bound⟩
  · refine (changeSegment_inOrder hd h fun n hn => ?_).congr rfl rfl
    cases hn
    exact ⟨g, (mem_of_findSegment hg).1, rfl⟩

theorem leaveSegmentWork_inOrder {s : State} {a : Owner} (h : TablesInOrder s) :
    TablesInOrder (leaveSegmentWork a s).1 := by
  unfold leaveSegmentWork
  split
  · exact h
  · exact changeSegment_inOrder _ h fun n hn => by simp at hn

/-! ### Restarts (R25, R26, R51) -/

/-- A cold restart leaves every slot FREE at generation 1 (R25). -/
theorem cold_slot (straps : Straps) (b : Bool) (i : Fin 39) :
    (State.cold straps b).table[i.val] = ⟨1, none⟩ := by
  simp [State.cold]

theorem cold_inOrder (straps : Straps) (b : Bool) : TablesInOrder (State.cold straps b) := by
  refine ⟨fun i => ?_, fun i j r q hr => ?_, Nat.zero_le _, .nil, fun g hg => ?_, fun id hid => ?_⟩
  · rw [cold_slot]; exact ⟨by simp, by simp⟩
  · rw [cold_slot] at hr; simp at hr
  · simp [State.cold] at hg
  · simp [State.cold] at hid

@[simp] theorem warmGrip_table (s : State) : (warmGrip s).table = s.table := by
  unfold warmGrip; dsimp only; split <;> rfl
@[simp] theorem warmGrip_segs (s : State) : (warmGrip s).segs = s.segs := by
  unfold warmGrip; dsimp only; split <;> rfl

theorem warmRestart_inOrder {s : State} (h : TablesInOrder s) : TablesInOrder (warmRestart s) := by
  refine mapSlots_inOrder h ?_ (f := Slot.warm s.segs.current) ?_ fun y hy => ?_
  · simp only [warmRestart, setAssist_segs, warmGrip_segs]
    exact h.segs
  · simp only [warmRestart, setAssist_table, warmGrip_table]; rfl
  · simp only [warmRestart, setAssist_segs, warmGrip_segs]
    exact slotWarm_inOrder hy

theorem restartState_inOrder {s : State} (hdr : Hdr) (kind : Byte) (h : TablesInOrder s) :
    TablesInOrder (restartState hdr kind s) := by
  have he : TablesInOrder (exchangeEnded hdr.link s) := h.congr rfl rfl
  unfold restartState
  split
  · exact h.congr rfl rfl
  split
  · exact h.congr rfl rfl
  dsimp only
  split
  · exact (cold_inOrder s.pins.straps s.drive.brakeReleased).congr rfl rfl
  · exact warmRestart_inOrder he

theorem restartInputState_inOrder {s : State} (level : Bool) (h : TablesInOrder s) :
    TablesInOrder (restartInputState level s) := by
  have ht : TablesInOrder { s with pins := { s.pins with restart := level } } := h.congr rfl rfl
  unfold restartInputState
  dsimp only
  split
  · exact warmRestart_inOrder ht
  · exact ht

end Sys2Proof.Machine
end

section
/-! The other commands leave both tables as they are; every step keeps them in order (O56). -/

namespace Sys2Proof.Machine

/-- The Limit Table and the Segment Table stand. -/
structure SameTables (s t : State) : Prop where
  table : t.table = s.table
  segs : t.segs = s.segs

theorem SameTables.refl (s : State) : SameTables s s := ⟨rfl, rfl⟩

theorem TablesInOrder.same {s t : State} (h : TablesInOrder s) (e : SameTables s t) :
    TablesInOrder t := h.congr e.table e.segs

/-! ### Requests of the other chapters -/

section
variable (s : State) (a : Owner)

theorem speedFixWork_same (v q : Half) : SameTables s (speedFixWork v q a s).1 := by
  unfold speedFixWork; split <;> exact ⟨rfl, rfl⟩

theorem selectWork_same (b : Byte) : SameTables s (selectWork b a s).1 := by
  unfold selectWork
  split
  · exact .refl s
  · split <;> exact ⟨rfl, rfl⟩

theorem lockWork_same : SameTables s (lockWork a s).1 := by
  unfold lockWork; dsimp only; split <;> exact ⟨rfl, rfl⟩

theorem demandTaken_same (d st : Half) (dir : Direction) : SameTables s (demandTaken d st dir s) := by
  unfold demandTaken; split <;> exact ⟨rfl, rfl⟩

theorem setDemandWork_same (d st : Half) (b : Byte) : SameTables s (setDemandWork d st b a s).1 := by
  unfold setDemandWork
  split
  · exact .refl s
  split
  · exact .refl s
  split
  · exact demandTaken_same s d st _
  · exact .refl s

theorem parkState_same : SameTables s (parkState s) := by
  unfold parkState; split <;> constructor <;> simp

theorem parkWork_same : SameTables s (parkWork a s).1 := by
  unfold parkWork
  split
  · exact .refl s
  split
  · exact .refl s
  split
  · exact .refl s
  · exact parkState_same s

theorem unparkWork_same : SameTables s (unparkWork a s).1 := by
  unfold unparkWork
  (repeat' split) <;> constructor <;> simp [driveDone, unparkState]

theorem clearHoldWork_same : SameTables s (clearHoldWork a s).1 := by
  unfold clearHoldWork
  (repeat' split) <;> constructor <;> simp [driveDone, clearHoldState]

theorem safetyHoldWork_same : SameTables s (safetyHoldWork a s).1 := by
  unfold safetyHoldWork; split <;> constructor <;> simp [driveDone]

theorem tripWork_same : SameTables s (tripWork a s).1 := by
  constructor <;> simp [tripWork, driveDone]

theorem resetTripWork_same : SameTables s (resetTripWork a s).1 := by
  unfold resetTripWork
  (repeat' split) <;> constructor <;> simp [driveDone]

theorem setModeWork_same (m : Byte) : SameTables s (setModeWork m a s).1 := by
  unfold setModeWork
  (repeat' split) <;> exact ⟨rfl, rfl⟩

theorem clearGridWork_same (g : Byte) : SameTables s (clearGridWork g a s).1 := by
  unfold clearGridWork
  (repeat' split) <;> exact ⟨rfl, rfl⟩

theorem startSweepWork_same (l : Link) (g0 gs m0 ms : Half) :
    SameTables s (startSweepWork l g0 gs m0 ms a s).1 := by
  unfold startSweepWork
  (repeat' split) <;> exact ⟨rfl, rfl⟩

theorem readSweepWork_same : SameTables s (readSweepWork a s).1 := by
  unfold readSweepWork; split <;> exact ⟨rfl, rfl⟩

theorem setPointWork_same (k : Byte) (v x : Half) : SameTables s (setPointWork k v x a s).1 := by
  unfold setPointWork
  dsimp only
  (repeat' split) <;> exact ⟨rfl, rfl⟩

theorem tareWork_same : SameTables s (tareWork a s).1 := by
  unfold tareWork
  (repeat' split) <;> exact ⟨rfl, rfl⟩

theorem clearAttentionWork_same (l : Link) (c : Half) :
    SameTables s (clearAttentionWork l c a s).1 := by
  unfold clearAttentionWork; split <;> exact ⟨rfl, rfl⟩

theorem setMaskWork_same (l : Link) (c : Half) : SameTables s (setMaskWork l c a s).1 := by
  unfold setMaskWork; split <;> exact ⟨rfl, rfl⟩

theorem paramEffect_same (p : Param) : SameTables s (paramEffect p s) := by
  cases p <;> exact ⟨rfl, rfl⟩

theorem setParamWork_same (i : Byte) (v : Half) : SameTables s (setParamWork i v a s).1 := by
  unfold setParamWork setParamState
  split
  · exact .refl s
  split
  · exact .refl s
  split
  · exact .refl s
  dsimp only
  split
  · exact .refl s
  · next p _ _ _ _ =>
    have := paramEffect_same (s.setParamValue p v.toNat) p
    exact ⟨this.table, this.segs⟩

/-! ### Periodic steps and inputs of the other chapters -/

theorem windowState_same (i : WindowIn) : SameTables s (windowState i s) := by
  unfold windowState windowHanded
  dsimp only
  constructor <;> split <;> simp

theorem commandStepState_same : SameTables s (commandStepState s) := by
  constructor <;> simp [commandStepState]

theorem inverterMessageState_same (w : Wheel) (n : Nat) (f : Bool) :
    SameTables s (inverterMessageState w n f s) := by
  unfold inverterMessageState
  dsimp only
  constructor <;> split <;> simp

theorem capacityStepState_same (i : CapacityIn) : SameTables s (capacityStepState i s) := by
  unfold capacityStepState
  dsimp only
  constructor <;> split <;> simp

theorem sweepEntryState_same : SameTables s (sweepEntryState s) := by
  unfold sweepEntryState
  split
  · exact .refl s
  · exact .refl s
  · dsimp only; split <;> exact ⟨rfl, rfl⟩

theorem steerStepState_same (i : SteerIn) : SameTables s (steerStepState i s) := by
  constructor <;> simp [steerStepState]

theorem loadWindowState_same (p : Four Nat) : SameTables s (loadWindowState p s) := by
  constructor <;> simp [loadWindowState]

theorem releasedState_same : SameTables s (releasedState s) := by
  unfold releasedState
  dsimp only
  constructor <;> split <;> simp

theorem brakeInputState_same (b : Bool) : SameTables s (brakeInputState b s) := by
  unfold brakeInputState
  split
  · exact .refl s
  · dsimp only
    split
    · have := releasedState_same { s with drive := { s.drive with brakeReleased := b } }
      exact ⟨this.table, this.segs⟩
    · exact ⟨rfl, rfl⟩

theorem releaseTimeoutState_same : SameTables s (releaseTimeoutState s) := by
  unfold releaseTimeoutState; split <;> constructor <;> simp

theorem releaseTick_same : SameTables s (releaseTick s) := by
  unfold releaseTick
  split
  · exact .refl s
  split
  · exact releaseTimeoutState_same s
  · exact ⟨rfl, rfl⟩

end

/-! ### Every command -/

/-- A request keeps the tables in order when the work of every sender it may have does. -/
theorem TablesInOrder.request {s : State} {h : Hdr} {code : Byte} {allowed : Owner → Bool}
    {work : Owner → State → State × Reply} (hs : TablesInOrder s)
    (hw : ∀ a, a ≠ .governor → TablesInOrder (work a s).1) :
    TablesInOrder (takeRequest h code allowed work s) := by
  rcases takeRequest_cases h code allowed work s with e | ⟨a, ha, -, e⟩ <;> rw [e]
  · exact hs.congr rfl rfl
  · exact (hw a fun hg => authorityOf_ne_governor (hg ▸ ha)).congr rfl rfl

/-- The same for a request that leaves the tables as they are. -/
theorem TablesInOrder.other {s : State} {h : Hdr} {code : Byte} {allowed : Owner → Bool}
    {work : Owner → State → State × Reply} (hs : TablesInOrder s)
    (hw : ∀ a, SameTables s (work a s).1) : TablesInOrder (takeRequest h code allowed work s) :=
  hs.request fun a _ => hs.same (hw a)

/-- An event inside a periodic step that leaves the tables as they are. -/
theorem TablesInOrder.event {s : State} {e : State → State → Bool} {f : State → State}
    (hs : TablesInOrder s) (hf : SameTables s (f s)) : TablesInOrder (whenItComesAbout e f s) :=
  whenItComesAbout_keeps hs (hs.same hf)

/-- Every command keeps the tables in order. -/
theorem exec_keeps_tablesInOrder {i : Instr} {s t : State} (h : exec i s = .next t)
    (hs : TablesInOrder s) : TablesInOrder t := by
  have read {h : Hdr} {code : Byte} {f : State → Reply} :
      TablesInOrder (takeRequest h code anyAuthority (reading f) s) := hs.other fun _ => .refl s
  have window (i : WindowIn) {e : State → State → Bool} := hs.event (e := e) (windowState_same s i)
  have command {e : State → State → Bool} := hs.event (e := e) (commandStepState_same s)
  have capacity (i : CapacityIn) {e : State → State → Bool} :=
    hs.event (e := e) (capacityStepState_same s i)
  have steer (i : SteerIn) {e : State → State → Bool} := hs.event (e := e) (steerStepState_same s i)
  cases i <;> obtain rfl := Host.Outcome.next.inj h
  case nop => exact read
  case frameError => split <;> exact hs.congr rfl rfl
  case unknownRequest => split <;> exact hs.congr rfl rfl
  case placeLimit => exact hs.request fun _ ha => placeWork_inOrder ha hs
  case amendLimit => exact hs.request fun _ _ => amendWork_inOrder hs
  case renewLimit => exact hs.request fun _ _ => renewWork_inOrder hs
  case retireLimit => exact hs.request fun _ _ => retireWork_inOrder hs
  case retireOwner => exact hs.request fun _ _ => retireOwnerWork_inOrder hs
  case lookupLimit => exact read
  case findLimit => exact read
  case nextLimit => exact read
  case readEnvelope => exact read
  case loadSegment => exact hs.request fun _ _ => loadSegmentWork_inOrder hs
  case amendSegment => exact hs.request fun _ _ => amendSegmentWork_inOrder hs
  case retireSegment => exact hs.request fun _ _ => retireSegmentWork_inOrder hs
  case enterSegment => exact hs.request fun _ _ => enterSegmentWork_inOrder hs
  case leaveSegment => exact hs.request fun _ _ => leaveSegmentWork_inOrder hs
  case readSegment => exact read
  case speedFix => exact hs.other fun a => speedFixWork_same s a _ _
  case selectSpeedSource => exact hs.other fun a => selectWork_same s a _
  case lockSpeedSource => exact hs.other (lockWork_same s)
  case clearSourceFail => exact hs.other fun _ => ⟨rfl, rfl⟩
  case setDemand => exact hs.other fun a => setDemandWork_same s a _ _ _
  case park => exact hs.other (parkWork_same s)
  case unpark => exact hs.other (unparkWork_same s)
  case clearHold => exact hs.other (clearHoldWork_same s)
  case safetyHold => exact hs.other (safetyHoldWork_same s)
  case trip => exact hs.other (tripWork_same s)
  case resetTrip => exact hs.other (resetTripWork_same s)
  case setControlMode => exact hs.other fun a => setModeWork_same s a _
  case restart => exact restartState_inOrder _ _ hs
  case powerUp straps b => exact (cold_inOrder straps b).congr rfl rfl
  case restartInput => exact restartInputState_inOrder _ hs
  case clearGridFault => exact hs.other fun a => clearGridWork_same s a _
  case startSweep => exact hs.other fun a => startSweepWork_same s a _ _ _ _ _
  case readSweep => exact hs.other (readSweepWork_same s)
  case setSteerPoint => exact hs.other fun a => setPointWork_same s a _ _ _
  case readSteerPoint => exact read
  case tare => exact hs.other (tareWork_same s)
  case readStatus => exact read
  case clearAttention => exact hs.other fun a => clearAttentionWork_same s a _ _
  case setAttentionMask => exact hs.other fun a => setMaskWork_same s a _ _
  case setParam => exact hs.other fun a => setParamWork_same s a _ _
  case getParam => exact read
  case leaseStep => exact leaseStepState_inOrder hs
  case expiry => exact whenItComesAbout_keeps hs (leaseStepState_inOrder hs)
  case envelopeStep => exact hs.congr rfl rfl
  case window i => exact hs.same (windowState_same s i)
  case trackerTracking i => exact window i
  case trackerLost i => exact window i
  case startSelectionTimeout i => exact window i
  case tripApplyCountExpiry i => exact window i
  case reprobeStart i => exact window i
  case holdDwellEnd => exact command
  case searchDwellEnd => exact command
  case commandStep => exact hs.same (commandStepState_same s)
  case demandLeaseExpiry => exact command
  case inverterMessage => exact hs.same (inverterMessageState_same s _ _ _)
  case inverterSilent => exact command
  case capacityStep i => exact hs.same (capacityStepState_same s i)
  case gridFault i => exact capacity i
  case linkVoltageClear i => exact capacity i
  case sweepEntry => exact hs.same (sweepEntryState_same s)
  case sweepReady => exact hs.event (sweepEntryState_same s)
  case steerStep i => exact hs.same (steerStepState_same s i)
  case steerFault i => exact steer i
  case steerFaultClear i => exact steer i
  case loadWindow p => exact hs.same (loadWindowState_same s p)
  case latchEnd p => exact hs.event (loadWindowState_same s p)
  case brakeReleasedInput b => exact hs.same (brakeInputState_same s b)
  case releaseTimeout => exact hs.same (releaseTimeoutState_same s)

/-- Settles O56: a step is a command on the state with the queue's rest, or a tick of the release timer, and
both keep the tables in order slot by slot. -/
theorem Settled.tablesInvariant : Obligations.TablesInvariant := by
  intro s t h hT hS
  have hs : TablesInOrder s := tablesInOrder_iff.2 ⟨hT, hS⟩
  refine tablesInOrder_iff.1 ?_
  unfold step at h
  split at h
  · obtain rfl := Host.Outcome.next.inj h
    exact hs.same (releaseTick_same s)
  · exact exec_keeps_tablesInOrder h (hs.congr rfl rfl)

end Sys2Proof.Machine
end

section
/-! Restarts (R181): what a cold restart leaves (O8), what a warm restart keeps (O9), and the invariants at
reset (O10). -/

namespace Sys2Proof.Machine

/-! ### The cold restart (R25, R37, R70, R96, R109, R137, R155, R169) -/

/-- A state at the values of `State.cold`, whatever its links gave out last, its restart input's level, its
count of warm restarts and its queue. -/
def IsCold (straps : Straps) (b : Bool) (t : State) : Prop :=
  ∃ (p q : Answer) (level : Bool) (n : Nat) (l : List Instr), t = { State.cold straps b with
    ports := ⟨{ Port.reset with given := p }, { Port.reset with given := q }⟩
    pins := ⟨straps, level⟩
    free := n
    pending := l }

/-- What every restart leaves, a cold one leaves. -/
theorem afterRestart_of_isCold {straps : Straps} {b : Bool} {t : State} (h : IsCold straps b t) :
    AfterRestart t := by
  obtain ⟨p, q, level, n, l, rfl⟩ := h
  refine ⟨fun k => ?_, ?_, ⟨rfl, rfl, rfl, rfl, rfl, fun w => ?_⟩,
    ⟨rfl, rfl, rfl, rfl, rfl, rfl, rfl, rfl, fun x => ?_⟩, ?_,
    ⟨rfl, rfl, rfl, rfl, fun n => ?_⟩, ⟨rfl, rfl⟩, fun g => ?_, fun w => ?_⟩
  · cases k <;> exact ⟨rfl, rfl, rfl, rfl⟩
  · exact ⟨rfl, rfl, rfl, rfl, rfl, rfl⟩
  · cases w <;> exact ⟨rfl, rfl, rfl, rfl, rfl⟩
  · cases x <;> exact ⟨rfl, rfl, rfl⟩
  · exact ⟨rfl, rfl, rfl, rfl, rfl, rfl, rfl⟩
  · obtain ⟨fit, _, _⟩ := straps
    cases n <;> cases fit <;> exact ⟨rfl, rfl, rfl⟩
  · cases g <;> exact ⟨rfl, rfl⟩
  · cases w <;> exact ⟨rfl, rfl, rfl, rfl, rfl, rfl, rfl, rfl, rfl⟩

/-- The values of the restart tables after a cold restart. -/
theorem afterCold_of_isCold {straps : Straps} {b : Bool} {t : State} (h : IsCold straps b t) :
    AfterCold straps t := by
  obtain ⟨p, q, level, n, l, rfl⟩ := h
  refine ⟨cold_slot straps b, fun g => ?_, ⟨rfl, fun w k => ?_⟩, rfl, rfl, rfl, ⟨rfl, rfl, rfl, rfl⟩,
    fun w => ?_, ⟨rfl, rfl, rfl, rfl, rfl, rfl, rfl, rfl, rfl, rfl, fun n => ?_⟩, rfl, ?_, ?_,
    fun l => ?_⟩
  · cases g <;> rfl
  · cases w <;> cases k <;> rfl
  · cases w <;> exact ⟨rfl, rfl, rfl, rfl, rfl⟩
  · obtain ⟨fit, _, _⟩ := straps
    cases n <;> cases fit <;> exact ⟨rfl, rfl, rfl, fun _ => rfl⟩
  · exact ⟨rfl, rfl, rfl, rfl, rfl, rfl, rfl⟩
  · exact ⟨rfl, rfl, rfl, rfl, rfl⟩
  · cases l <;> rfl

theorem powerUpState_isCold (straps : Straps) (b : Bool) (s : State) :
    IsCold straps b (powerUpState straps b s) := ⟨.empty, .empty, _, _, _, rfl⟩

theorem coldRestart_isCold (s : State) :
    IsCold s.pins.straps s.drive.brakeReleased (coldRestart s) := ⟨_, _, _, _, _, rfl⟩

/-! ### RESTART's checks (R181) -/

theorem exec_restart_refused {h : Hdr} {kind : Byte} {a : Owner} {c : ReplyCode} {s : State}
    (ha : authorityOf h = some a) (hc : restartCheck kind a = .error c) :
    exec (.restart h kind) s = .next (s.exchanged h.link (refusal h 0x48 c)) := by
  show Host.Outcome.next (restartState h kind s) = _
  simp only [restartState, ha, hc]
  rfl

theorem exec_restart_done {h : Hdr} {kind : Byte} {a : Owner} {cold : Bool} {s : State}
    (ha : authorityOf h = some a) (hc : restartCheck kind a = .ok cold) :
    exec (.restart h kind) s = .next (if cold then coldRestart (exchangeEnded h.link s)
      else warmRestart (exchangeEnded h.link s)) := by
  show Host.Outcome.next (restartState h kind s) = _
  simp only [restartState, ha, hc]

theorem restartCheck_unknown {kind : Byte} (a : Owner) (h : 1 < kind.toNat) :
    restartCheck kind a = .error .badValue := by
  have : coldOfCode kind = none := by unfold coldOfCode; split <;> simp_all
  simp [restartCheck, this]

/-- Settles O8: both cold restarts give a state at the values of `State.cold`. -/
theorem Settled.coldRestart : Obligations.ColdRestart := by
  refine ⟨fun straps b s => ?_, fun h s ha => ?_, fun h a s ha hs => ?_, fun h kind s ha hk => ?_⟩
  · have hc := powerUpState_isCold straps b s
    exact ⟨_, rfl, afterRestart_of_isCold hc, afterCold_of_isCold hc, rfl⟩
  · have hc := coldRestart_isCold (exchangeEnded h.link s)
    exact ⟨_, exec_restart_done ha rfl, afterRestart_of_isCold hc, afterCold_of_isCold hc⟩
  · refine exec_restart_refused ha ?_
    simp [restartCheck, coldOfCode, hs]
  · obtain ⟨a, ha⟩ := Option.ne_none_iff_exists'.1 ha
    exact exec_restart_refused ha (restartCheck_unknown a hk)

/-! ### The warm restart (R26, R38, R51, R70, R96, R109, R137, R155, R169) -/

/-- A wheel's adhesion record after a warm restart: FREE, then the preset of the kept segment (R109). -/
def Grip.warm (rated : Nat) (seg : Option Segment) : Grip :=
  match seg with
  | none => Grip.restarted rated
  | some g => Grip.preset rated g.cls (Grip.restarted rated)

theorem warmGrip_eq (s : State) : warmGrip s = { s with
    grip := ⟨Grip.warm (s.param .wheelRated) (currentSegment s),
      Grip.warm (s.param .wheelRated) (currentSegment s)⟩ } := by
  have : currentSegment { s with grip := ⟨Grip.restarted (s.param .wheelRated),
      Grip.restarted (s.param .wheelRated)⟩ } = currentSegment s := rfl
  unfold warmGrip
  simp only [this]
  cases currentSegment s <;> rfl

/-- The brake assist causes and level at the entry to STARTING (R129, R137). -/
theorem warm_assistCauses (s : State) : assistCauses (warmGrip (warmBlocks (warmTable s))) =
    ⟨false, decide (s.speed.v < 5), false, false, false⟩ := by
  rw [warmGrip_eq]
  simp only [assistCauses, AssistCauses.mk.injEq]
  exact ⟨rfl, rfl, Bool.and_false _, rfl, rfl⟩

theorem assistLevel_standstill (b : Bool) (r : Nat) :
    assistLevel ⟨false, b, false, false, false⟩ r = if b then 1000 else 0 := by
  cases b <;> rfl

/-- All that a warm restart leaves. -/
theorem warmRestart_eq (s : State) : warmRestart s = { warmBlocks (warmTable s) with
    grip := ⟨Grip.warm (s.param .wheelRated) (currentSegment s),
      Grip.warm (s.param .wheelRated) (currentSegment s)⟩
    retard := { s.retard.warm with
      causes := ⟨false, decide (s.speed.v < 5), false, false, false⟩
      assist := if s.speed.v < 5 then 1000 else 0 } } := by
  unfold warmRestart setAssist
  dsimp only
  rw [warm_assistCauses, assistLevel_standstill, warmGrip_eq]
  simp only [decide_eq_true_eq]
  rfl

/-- What a restart leaves in a wheel's adhesion record, preset or not (R109). -/
theorem gripWarm_figures (rated : Nat) (seg : Option Segment) :
    (Grip.warm rated seg).lastSpeed = none ∧ (Grip.warm rated seg).slips = 0 ∧
      (Grip.warm rated seg).dwell = 0 ∧ (Grip.warm rated seg).misses = 0 ∧
      (Grip.warm rated seg).sum = 0 ∧ (Grip.warm rated seg).best = rated ∧
      (Grip.warm rated seg).fbest = 0 ∧ (Grip.warm rated seg).reprobe = 0 ∧
      (Grip.warm rated seg).lastSlip = 0 := by
  cases seg with
  | none => exact ⟨rfl, rfl, rfl, rfl, rfl, rfl, rfl, rfl, rfl⟩
  | some g =>
    obtain ⟨id, grade, rr, cls⟩ := g
    cases cls <;> exact ⟨rfl, rfl, rfl, rfl, rfl, rfl, rfl, rfl, rfl⟩

/-- State and ceiling after a warm restart: FREE on no segment or a DRY one, else the preset (R107). -/
theorem gripWarm_preset (rated : Nat) (seg : Option Segment) :
    ((∀ g, seg = some g → g.cls = .dry) →
      (Grip.warm rated seg).state = .free ∧ (Grip.warm rated seg).ceiling = rated) ∧
    (∀ g f, seg = some g →
      (g.cls = .wet ∧ f = 600 ∨ g.cls = .mud ∧ f = 450 ∨ g.cls = .ice ∧ f = 300) →
      (Grip.warm rated seg).state = .settled ∧ (Grip.warm rated seg).ceiling = rated * f / 1000) := by
  constructor
  · intro h
    cases seg with
    | none => exact ⟨rfl, rfl⟩
    | some g => simp [Grip.warm, Grip.preset, AdhesionClass.figure, h g rfl, Grip.restarted]
  · rintro g f rfl (⟨hc, rfl⟩ | ⟨hc, rfl⟩ | ⟨hc, rfl⟩) <;>
      simp only [Grip.warm, Grip.preset, AdhesionClass.figure, hc, Grip.restarted, true_and] <;>
      omega

/-- A slot after a warm restart, by what it held (R26). -/
theorem slotWarm_cases (c : Option Nat) (x : Slot) :
    (∀ r, x.record = some r → r.lease.isSome = true → x.warm c = ⟨nextGen x.gen, none⟩) ∧
    (∀ r, x.record = some r → r.lease = none →
      x.warm c = ⟨x.gen, some { r with active := activeIn c r.segment }⟩) ∧
    (x.record = none → x.warm c = x) := by
  obtain ⟨gen, record⟩ := x
  refine ⟨fun r hr hl => ?_, fun r hr hl => ?_, fun hr => ?_⟩ <;> dsimp only at hr <;> subst hr
  · simp [Slot.warm, Slot.retired, hl]
  · simp [Slot.warm, hl]
  · simp [Slot.warm]

/-- What every restart leaves, a warm one leaves. -/
theorem afterRestart_warmRestart (s : State) : AfterRestart (warmRestart s) := by
  rw [warmRestart_eq]
  refine ⟨fun l => ?_, ?_, ⟨rfl, rfl, rfl, rfl, rfl, fun w => ?_⟩,
    ⟨rfl, rfl, rfl, rfl, rfl, rfl, rfl, rfl, fun x => ?_⟩, ?_,
    ⟨rfl, rfl, rfl, rfl, fun n => ?_⟩, ⟨rfl, rfl⟩, fun g => ?_, fun w => ?_⟩
  · cases l <;> exact ⟨rfl, rfl, rfl, rfl⟩
  · exact ⟨rfl, rfl, rfl, rfl, rfl, rfl⟩
  · cases w <;> exact ⟨rfl, rfl, rfl, rfl, rfl⟩
  · cases x <;> exact ⟨rfl, rfl, rfl⟩
  · exact ⟨rfl, rfl, rfl, rfl, rfl, rfl, rfl⟩
  · cases n <;> exact ⟨rfl, rfl, rfl⟩
  · cases g <;> exact ⟨rfl, rfl⟩
  · cases w <;> exact gripWarm_figures _ _

/-- What a warm restart keeps or works out. -/
theorem afterWarm_warmRestart (s : State) : AfterWarm s (warmRestart s) := by
  rw [warmRestart_eq]
  refine ⟨fun i => ?_, fun g => ?_, ⟨rfl, rfl, rfl⟩, rfl, rfl, rfl, ⟨rfl, rfl, rfl, rfl⟩,
    fun w => ?_, rfl, ⟨rfl, rfl, rfl, rfl, rfl, rfl, rfl, rfl, fun n => ?_⟩, ⟨rfl, rfl⟩, ?_,
    ⟨rfl, rfl, rfl, rfl, ?_⟩, fun w => ?_, fun l => ?_⟩
  · have e : (warmBlocks (warmTable s)).table[i.val] = s.table[i.val].warm s.segs.current :=
      mapSlots_get ..
    dsimp only
    rw [e]
    exact slotWarm_cases _ _
  · cases g <;> rfl
  · cases w <;> exact ⟨rfl, rfl, rfl⟩
  · cases n <;> exact ⟨rfl, rfl, rfl, fun h => if_neg (by simp [Four.get] at h ⊢; simp [h]),
      fun h => if_pos h⟩
  · exact ⟨rfl, rfl, rfl, rfl, rfl, rfl, rfl⟩
  · show (s.drive.state == .tripped || (s.drive.state == .starting && s.drive.tripMark)) = true ↔ _
    simp
  · cases w <;> exact gripWarm_preset _ _
  · cases l <;> rfl

/-- What a warm restart keeps of a state it keeps of that state before its exchange ended. -/
theorem afterWarm_exchangeEnded {s t : State} {l : Link} (h : AfterWarm (exchangeEnded l s) t) :
    AfterWarm s t := by
  obtain ⟨h1, h2, h3, h4, h5, h6, h7, h8, h9, h10, h11, h12, h13, h14, hmask⟩ := h
  refine ⟨h1, h2, h3, h4, h5, h6, h7, h8, h9, h10, h11, h12, h13, h14, fun k => (hmask k).trans ?_⟩
  cases l <;> cases k <;> rfl

/-- Settles O9: each warm restart is `warmRestart` of the state at the end of its exchange, or with the
input's level recorded. -/
theorem Settled.warmRestart : Obligations.WarmRestart := by
  refine ⟨fun h s ha => ?_, fun s hs => ?_, fun level s h => ?_⟩
  · obtain ⟨a, ha⟩ := Option.ne_none_iff_exists'.1 ha
    exact ⟨_, exec_restart_done ha rfl, afterRestart_warmRestart _,
      afterWarm_exchangeEnded (afterWarm_warmRestart _)⟩
  · have hw := afterWarm_warmRestart { s with pins := { s.pins with restart := true } }
    refine ⟨_, ?_, afterRestart_warmRestart _, hw⟩
    show Host.Outcome.next (restartInputState true s) = _
    simp [restartInputState, hs]
  · show Host.Outcome.next (restartInputState level s) = _
    rcases h with rfl | h
    · simp [restartInputState]
    · simp [restartInputState, h]

/-! ### The invariants at reset -/

/-- A table with no ACTIVE record resolves to the defaults (R28, R29). -/
theorem resolveKind_default {s : State} (ht : ∀ i : Fin 39, s.table[i.val].record = none)
    (hg : ∀ g : Gov, (s.gov.get g).active = false) (w : Wheel) (k : Kind) :
    resolveKind s w k = ⟨s.param k.default, none⟩ := by
  have h1 : s.table.toList.zipIdx.filterMap activeOfSlot = [] := by
    rw [List.filterMap_eq_nil_iff]
    rintro ⟨x, n⟩ hx
    obtain ⟨i, hi, rfl⟩ := List.mem_iff_getElem.1 (List.mem_zipIdx_iff_getElem?.1 hx |> List.mem_of_getElem?)
    simp only [Vector.length_toList] at hi
    simp [activeOfSlot, ht ⟨i, hi⟩]
  have h2 : allGov.filterMap (activeOfGov s.gov) = [] := by
    simp [List.filterMap_eq_nil_iff, activeOfGov, hg]
  simp [resolveKind, activeRecs, h1, h2, covering, resolveBound, leastValue]

/-- A cold restart's envelope is the resolution of its empty table (R37). -/
theorem cold_resolved (straps : Straps) (b : Bool) : EnvelopeResolved (State.cold straps b) := by
  have key (w : Wheel) (k : Kind) := resolveKind_default (s := State.cold straps b)
    (fun i => by rw [cold_slot]) (fun g => by cases g <;> rfl) w k
  refine ⟨?_, ?_, Nat.le_refl _⟩ <;> unfold resolveWheel <;> simp only [key] <;> rfl

/-- A wheel after a cold restart: no torque, its link SILENT, MUTED (R87, R90, R96). -/
theorem wheelReset_inOrder (d : Drive) : WheelState.reset.AtRest d ∧ WheelState.reset.Agrees :=
  ⟨⟨fun _ => ⟨rfl, rfl⟩, fun _ => Int.le_refl 0⟩, Nat.le_refl 5, ⟨fun _ => rfl, fun _ => rfl⟩, nofun⟩

theorem cold_wheels (straps : Straps) (b : Bool) :
    TorqueAtRest (State.cold straps b) ∧ WheelsInOrder (State.cold straps b) := by
  refine ⟨fun w => ?_, fun w => ?_, nofun, nofun⟩ <;> cases w
  · exact (wheelReset_inOrder .starting).1
  · exact (wheelReset_inOrder .starting).1
  · exact (wheelReset_inOrder .starting).2
  · exact (wheelReset_inOrder .starting).2

theorem gripReset_bounded : Grip.reset.Bounded 750 :=
  ⟨by decide, by decide, fun _ => rfl, nofun⟩

theorem cold_ceilings (straps : Straps) (b : Bool) : CeilingsBounded (State.cold straps b) := by
  intro w
  cases w <;> exact gripReset_bounded

theorem cold_source (straps : Straps) (b : Bool) : SourceInForce (State.cold straps b) := by
  refine ⟨⟨nofun, nofun⟩, nofun, ?_, fun _ => rfl⟩
  rintro (h | h | h) <;> cases h

theorem cold_drive (straps : Straps) (b : Bool) : DriveInOrder (State.cold straps b) := by
  refine ⟨nofun, fun _ => rfl, ⟨nofun, nofun⟩, nofun, nofun, fun _ => rfl, fun _ h => absurd rfl h,
    ?_, nofun, nofun, ⟨nofun, nofun⟩, nofun, nofun, Nat.le_refl _⟩
  rintro (h | h) <;> cases h

/-- A grid in order after a cold restart, fitted or not (R111). -/
theorem gridReset_inOrder (fitted : Bool) : (Grid.reset fitted).InOrder := by
  unfold Grid.InOrder; cases fitted <;> decide

theorem cold_grids (straps : Straps) (b : Bool) : GridsInOrder (State.cold straps b) := by
  refine ⟨fun n => ?_, ?_⟩
  · cases n
    · exact gridReset_inOrder true
    · exact gridReset_inOrder (decide (2 ≤ straps.gridFit.num))
    · exact gridReset_inOrder (decide (3 ≤ straps.gridFit.num))
    · exact gridReset_inOrder (decide (4 ≤ straps.gridFit.num))
  · obtain ⟨fit, _, _⟩ := straps
    cases fit <;> exact ⟨rfl, Nat.le_refl _, Nat.le_refl _⟩

/-- The defaults lie in their ranges (R190). -/
theorem paramDefaults_inRange (p : Param) :
    p.range.1 ≤ paramDefaults[p.index.val] ∧ paramDefaults[p.index.val] ≤ p.range.2 := by
  cases p <;> decide

/-- The default curve keeps the order of R141. -/
theorem curveDefault_inOrder : CurveInOrder curveDefault := by
  unfold CurveInOrder; decide

theorem loadReset_inOrder : LoadMon.reset.InOrder :=
  ⟨by decide, nofun, by decide, by decide, by decide, by decide, by decide, fun _ => rfl,
    fun h => absurd rfl h⟩

theorem cold_holdings (straps : Straps) (b : Bool) : HoldingsInRange (State.cold straps b) :=
  ⟨paramDefaults_inRange, curveDefault_inOrder, trivial, loadReset_inOrder⟩

/-- Settles O10: reset is a cold restart of the board, and a cold restart of any board meets the
invariants. -/
theorem Settled.invariantsHoldAtReset : Obligations.InvariantsHoldAtReset := by
  obtain ⟨htable, hsegs⟩ := tablesInOrder_iff.1 (cold_inOrder Config.boardStraps Config.boardBrakeReleased)
  obtain ⟨htorque, hwheels⟩ := cold_wheels Config.boardStraps Config.boardBrakeReleased
  exact ⟨cold_resolved _ _, htable, hsegs, htorque, hwheels, cold_ceilings _ _, cold_source _ _,
    cold_drive _ _, ⟨rfl, rfl⟩, cold_grids _ _, cold_holdings _ _⟩

end Sys2Proof.Machine
end

section
/-! The handles of the Limit Table (R3), and LOOKUP_LIMIT, FIND_LIMIT and NEXT_LIMIT (O11, O12). -/

namespace Sys2Proof.Machine

/-! ### Handles (R3, R9) -/

/-- The handle of a governor record matches it (R3). -/
theorem matchHandle_gov {s : State} {slot gen : Byte} {g : Gov} (hs : slot.toNat = g.slot)
    (hg : gen.toNat = 0) : matchHandle s slot.toNat gen.toNat = some (.gov g) := by
  rw [hs, hg]
  cases g <;> rfl

/-- When a handle matches no record: above slot 47, on a governor slot with another generation than 0, on a
FREE slot, on a slot of another generation (R3). -/
def NoMatch (slot gen : Byte) (s : State) : Prop :=
  47 < slot.toNat ∨ (38 < slot.toNat ∧ gen.toNat ≠ 0) ∨
    ∃ i : Fin 39, slot.toNat = i.val ∧ (s.table[i.val].record = none ∨ gen.toNat ≠ s.table[i.val].gen)

theorem govOfSlot_none {n : Nat} (h : 47 < n) : govOfSlot n = none := by
  rw [govOfSlot, List.find?_eq_none]
  intro g _
  have : g.slot ≤ 47 := by cases g <;> decide
  simp only [beq_iff_eq]
  omega

theorem matchHandle_none {s : State} {slot gen : Byte} (h : NoMatch slot gen s) :
    matchHandle s slot.toNat gen.toNat = none := by
  rcases h with h | ⟨h, hg⟩ | ⟨i, hi, h⟩
  · rw [matchHandle, dif_neg (by omega), govOfSlot_none h]
  · rw [matchHandle, dif_neg (by omega)]
    split <;> simp [hg]
  · rw [hi, matchHandle, dif_pos i.isLt]
    rcases h with h | h
    · simp [h]
    · split
      · rw [if_neg fun e => h e.symm]
      · rfl

/-- The handle field of a governor slot is the two bytes that named it. -/
theorem handleField_gov {slot : Byte} {g : Gov} (hs : slot.toNat = g.slot) :
    handleField ⟨g.slot, 0⟩ = [slot, 0] := by
  have e : BitVec.ofNat 8 g.slot = slot := by rw [← hs]; simp
  simp only [handleField, u8, e]
  rfl

/-! ### LOOKUP_LIMIT (R19, R191) -/

theorem exec_lookupLimit {h : Hdr} {slot gen part : Byte} {s : State} (ha : authorityOf h ≠ none) :
    exec (.lookupLimit h slot gen part) s =
      .next (s.exchanged h.link (answerOf h 0x15 (lookupReply slot gen part s))) :=
  congrArg Host.Outcome.next (takeRequest_reading ha)

/-- What LOOKUP_LIMIT replies where a handle matches. -/
theorem lookupReply_of {s : State} {slot gen : Byte} {f : Found}
    (hm : matchHandle s slot.toNat gen.toNat = some f) :
    lookupReply slot gen 0 s = .ok (imageOf s true f) ∧
      lookupReply slot gen 1 s = .ok (imageOf s false f) ∧
      ∀ part : Byte, 1 < part.toNat → lookupReply slot gen part s = .refuse .badValue := by
  refine ⟨?_, ?_, fun part hp => ?_⟩ <;> simp only [lookupReply, hm]
  · rfl
  · rfl
  · rw [if_pos hp]

/-- The lease figures of an image, 0 when unleased (R191). -/
theorem leaseFigures_eq (l : Option Lease) :
    leaseFigures l = ((l.map Lease.length).getD 0, (l.map Lease.remaining).getD 0) := by
  cases l <;> rfl

/-- Settles O11, by what the handle matches. -/
theorem Settled.lookupLimit : Obligations.LookupLimit := by
  refine ⟨fun h slot gen i r s ha hs hr hg => ?_, fun h slot g s ha hs => ?_,
    fun h slot gen part s ha hn => ?_⟩
  · obtain ⟨h0, h1, hbad⟩ := lookupReply_of (matchHandle_ext hs hg hr)
    refine ⟨?_, ?_, fun part hp => ?_⟩ <;> rw [exec_lookupLimit ha]
    · rw [h0, answerOf_ok]
      simp only [imageOf, imageHalf, if_pos, handleField_of hs hg, leaseFigures_eq]
    · rw [h1, answerOf_ok]
      simp only [imageOf, imageHalf, Bool.false_eq_true, if_false, handleField_of hs hg,
        leaseFigures_eq]
    · rw [hbad part hp, answerOf_refuse]
  · obtain ⟨h0, h1, hbad⟩ := lookupReply_of (s := s) (matchHandle_gov (gen := 0) hs rfl)
    refine ⟨?_, ?_, fun part hp => ?_⟩ <;> rw [exec_lookupLimit ha]
    · rw [h0, answerOf_ok]
      simp [imageOf, imageHalf, handleField_gov hs, leaseFigures, GovRec.shown, Owner.code, u8]
    · rw [h1, answerOf_ok]
      simp only [imageOf, imageHalf, Bool.false_eq_true, if_false, handleField_gov hs, leaseFigures]
    · rw [hbad part hp, answerOf_refuse]
  · rw [exec_lookupLimit ha]
    simp only [lookupReply, matchHandle_none hn, answerOf_refuse]

/-! ### FIND_LIMIT (R20) -/

theorem exec_findLimit {h : Hdr} {owner kind scope segment : Byte} {s : State}
    (ha : authorityOf h ≠ none) : exec (.findLimit h owner kind scope segment) s =
      .next (s.exchanged h.link (answerOf h 0x16 (findReply owner kind scope segment s))) :=
  congrArg Host.Outcome.next (takeRequest_reading ha)

/-- The reply of a FIND_LIMIT past its checks. -/
theorem findReply_of {owner kind scope segment : Byte} {o : Owner} {k : Kind} {sc : Scope} {s : State}
    (ho : ownerOfCode owner = some o) (hk : kindOfCode kind = some k)
    (hsc : scopeOfCode scope = some sc) : findReply owner kind scope segment s =
      (findHandle s o k sc (bindingOf segment)).elim (.refuse .notFound)
        (fun x => .ok (handleField x)) := by
  simp only [findReply, ho, hk, hsc]
  cases findHandle s o k sc (bindingOf segment) <;> rfl

/-- A key that one record alone has is found at its slot (R7). -/
theorem findKey_unique {s : State} {o : Owner} {k : Kind} {sc : Scope} {seg : Option Nat}
    {i : Fin 39} {r : Rec} (hr : s.table[i.val].record = some r) (hk : r.hasKey o k sc seg = true)
    (hu : ∀ (j : Fin 39) (q : Rec), s.table[j.val].record = some q →
      q.hasKey o k sc seg = true → j = i) : findKey s o k sc seg = some i := by
  refine findSlot_unique (by simp [hr, hk]) fun j hj => ?_
  obtain ⟨q, hq, hqk⟩ := (Option.any_eq_true _ _).1 hj
  exact hu j q hq hqk

/-- A search of a list in strictly rising order finds the least element that passes. -/
theorem find?_least {α : Type} {l : List α} {f : α → Nat} {p : α → Bool} {g : α}
    (sorted : l.Pairwise (fun a b => f a < f b)) (hm : g ∈ l) (hg : p g = true)
    (hu : ∀ q ∈ l, p q = true → f g ≤ f q) : l.find? p = some g := by
  obtain ⟨as, bs, rfl⟩ := List.append_of_mem hm
  rw [List.find?_eq_some_iff_append]
  refine ⟨hg, as, bs, rfl, fun a ha => ?_⟩
  have : f a < f g := (List.pairwise_append.1 sorted).2.2 a ha g (by simp)
  cases hp : p a with
  | false => rfl
  | true => exact absurd (hu a (by simp [ha]) hp) (by omega)

/-- A search of the governor records finds the lowest-numbered that passes (R9, R20, R21). -/
theorem findGov_least {p : Gov → Bool} {g : Gov} (hg : p g = true)
    (hu : ∀ g', p g' = true → g.slot ≤ g'.slot) : allGov.find? p = some g :=
  find?_least (f := Gov.slot) (by decide) (by cases g <;> decide) hg fun q _ => hu q

theorem findGov_none {p : Gov → Bool} (hu : ∀ g, p g = false) : allGov.find? p = none := by
  rw [List.find?_eq_none]
  intro g _
  simp [hu g]

/-- A word is 0 exactly when its number is. -/
theorem word_eq_zero {w : Nat} {b : BitVec w} : b = 0#w ↔ b.toNat = 0 :=
  ⟨fun h => by simp [h], fun h => BitVec.eq_of_toNat_eq (by simpa using h)⟩

theorem bindingOf_eq_none {id : Byte} : bindingOf id = none ↔ id = 0 := by
  simp [bindingOf, word_eq_zero]

/-! ### NEXT_LIMIT (R21) -/

theorem exec_nextLimit {h : Hdr} {slot : Byte} {s : State} (ha : authorityOf h ≠ none) :
    exec (.nextLimit h slot) s =
      .next (s.exchanged h.link (answerOf h 0x17 (nextReply slot s))) :=
  congrArg Host.Outcome.next (takeRequest_reading ha)

theorem nextOccupied_ext {s : State} {n : Nat} {i : Fin 39} (hn : n ≤ i.val)
    (hi : s.table[i.val].record.isSome = true)
    (hu : ∀ j : Fin 39, n ≤ j.val → s.table[j.val].record.isSome = true → i ≤ j) :
    nextOccupied s n = some (handleOf s i) := by
  have e : extSlots.find? (fun i => decide (n ≤ i.val) && s.table[i.val].record.isSome) = some i :=
    findSlot_least (by simp [hn, hi]) fun j hj => by
      simp only [Bool.and_eq_true, decide_eq_true_eq] at hj
      exact hu j hj.1 hj.2
  simp only [nextOccupied, e]

/-- Past the last occupied external slot the governor slots follow, which are always occupied (R21). -/
theorem nextOccupied_gov {s : State} {n : Nat}
    (hu : ∀ i : Fin 39, n ≤ i.val → s.table[i.val].record = none) :
    nextOccupied s n =
      (allGov.find? (fun g => decide (n ≤ g.slot))).map (fun g => ⟨g.slot, 0⟩) := by
  have e : extSlots.find? (fun i => decide (n ≤ i.val) && s.table[i.val].record.isSome) = none :=
    findSlot_none fun j => by
      by_cases hj : n ≤ j.val
      · simp [hu j hj]
      · simp [hj]
  simp only [nextOccupied, e]

/-- Every slot number from 39 to 47 is a governor record's (R9). -/
theorem exists_gov_slot {n : Nat} (h : 39 ≤ n) (h' : n ≤ 47) : ∃ g : Gov, g.slot = n := by
  interval_cases n
  exacts [⟨.gradeSpeed, rfl⟩, ⟨.sourceSpeed, rfl⟩, ⟨.steerReserve, rfl⟩, ⟨.steerCurve, rfl⟩,
    ⟨.payloadSpeed, rfl⟩, ⟨.payloadTorque, rfl⟩, ⟨.motorLeft, rfl⟩, ⟨.motorRight, rfl⟩,
    ⟨.linkVoltage, rfl⟩]

theorem gov_slot_range (g : Gov) : 39 ≤ g.slot ∧ g.slot ≤ 47 := by
  cases g <;> decide

/-- Settles O12: each search finds the record its rule names, and each check refuses in R20's order. -/
theorem Settled.findAndNextLimit : Obligations.FindAndNextLimit := by
  refine ⟨fun h owner kind scope segment o k sc s ha ho hk hsc hgov => ?_,
    fun h kind scope segment k sc s ha hk hsc => ?_, fun h slot s ha => ?_,
    fun h owner kind scope segment s ha => ?_⟩
  · refine ⟨fun i r hr hkey hu => ?_, fun hnone => ?_⟩ <;>
      rw [exec_findLimit ha, findReply_of ho hk hsc, findHandle, if_neg hgov]
    · rw [findKey_unique hr hkey hu]; rfl
    · rw [findKey_none_iff.2 hnone]; rfl
  · have ho : ownerOfCode 4 = some .governor := rfl
    refine ⟨fun g hgk hgs hseg hu => ?_, fun hnone => ?_⟩ <;>
      rw [exec_findLimit ha, findReply_of ho hk hsc, findHandle, if_pos rfl]
    · have e : findGov k sc = some g := findGov_least (by simp [hgk, hgs]) fun g' hg' => by
        simp only [Bool.and_eq_true, beq_iff_eq] at hg'
        exact hu g' hg'.1 hg'.2
      rw [if_pos (bindingOf_eq_none.2 hseg), e]; rfl
    · by_cases hseg : segment = 0
      · have e : findGov k sc = none := findGov_none fun g => by
          by_cases hgk : g.kind = k
          · simp [(hnone.resolve_left (not_not.2 hseg)) g hgk]
          · simp [hgk]
        rw [if_pos (bindingOf_eq_none.2 hseg), e]; rfl
      · rw [if_neg fun e => hseg (bindingOf_eq_none.1 e)]; rfl
  · rw [exec_nextLimit ha]
    unfold nextReply
    refine ⟨fun i hi ho hu => ?_, fun hnone hle => ?_, fun h1 h2 => ?_, fun hgt => ?_⟩
    · rw [nextOccupied_ext hi ho hu]; rfl
    · rw [nextOccupied_gov hnone, findGov_least (g := .gradeSpeed) (by simp; show _ ≤ 39; omega)
        fun g _ => (gov_slot_range g).1]
      rfl
    · obtain ⟨g, hg⟩ := exists_gov_slot h1 h2
      rw [nextOccupied_gov fun i hi => absurd i.isLt (by omega),
        findGov_least (g := g) (by simp [hg]) fun g' hg' => by simpa [hg] using hg', ← hg]
      rfl
    · rw [nextOccupied_gov fun i hi => absurd i.isLt (by omega),
        findGov_none fun g => by simp; have := gov_slot_range g; omega]
      rfl
  · refine ⟨fun hbad => ?_, fun ho hk hsc => ?_⟩ <;> rw [exec_findLimit ha]
    · unfold findReply
      rcases hbad with hbad | hbad <;> simp only [hbad]
      · cases kindOfCode kind <;> rfl
      · cases ownerOfCode owner <;> rfl
    · obtain ⟨o, ho⟩ := Option.ne_none_iff_exists'.1 ho
      obtain ⟨k, hk⟩ := Option.ne_none_iff_exists'.1 hk
      simp only [findReply, ho, hk, hsc, answerOf_refuse]

end Sys2Proof.Machine
end

section
/-! READ_ENVELOPE, NOP, READ_SEGMENT, READ_STATUS, READ_STEER_POINT and GET_PARAM (O13). -/

namespace Sys2Proof.Machine

/-! ### Fields (R186, R191) -/

/-! A set is a byte with a bit for each member (R186). -/

theorem bits_one (a : Bool) : bits [a] = u8 a.toNat := by simp [bits]

theorem bits_two (a b : Bool) : bits [a, b] = u8 (a.toNat + 2 * b.toNat) := by
  simp only [bits, List.foldr]; congr 1; omega

theorem bits_three (a b c : Bool) :
    bits [a, b, c] = u8 (a.toNat + 2 * b.toNat + 4 * c.toNat) := by
  simp only [bits, List.foldr]; congr 1; omega

theorem bits_four (a b c d : Bool) :
    bits [a, b, c, d] = u8 (a.toNat + 2 * b.toNat + 4 * c.toNat + 8 * d.toNat) := by
  simp only [bits, List.foldr]; congr 1; omega

theorem bits_five (a b c d e : Bool) :
    bits [a, b, c, d, e] =
      u8 (a.toNat + 2 * b.toNat + 4 * c.toNat + 8 * d.toNat + 16 * e.toNat) := by
  simp only [bits, List.foldr]; congr 1; omega

theorem bits_six (a b c d e f : Bool) :
    bits [a, b, c, d, e, f] =
      u8 (a.toNat + 2 * b.toNat + 4 * c.toNat + 8 * d.toNat + 16 * e.toNat + 32 * f.toNat) := by
  simp only [bits, List.foldr]; congr 1; omega

@[simp] theorem u8_length (n : Nat) : (u8 n).length = 1 := rfl
@[simp] theorem u16_length (n : Nat) : (u16 n).length = 2 := rfl
@[simp] theorem u24_length (n : Nat) : (u24 n).length = 3 := rfl
@[simp] theorem s16_length (i : Int) : (s16 i).length = 2 := rfl
@[simp] theorem bits_length (l : List Bool) : (bits l).length = 1 := rfl
@[simp] theorem handleField_length (h : Handle) : (handleField h).length = 2 := rfl
@[simp] theorem optU8_length (o : Option Nat) : (optU8 o).length = 1 := by cases o <;> rfl
@[simp] theorem optU16_length (o : Option Nat) : (optU16 o).length = 2 := by cases o <;> rfl
@[simp] theorem optS16_length (o : Option Int) : (optS16 o).length = 2 := by cases o <;> rfl
@[simp] theorem bindingField_length (o : Option Handle) : (bindingField o).length = 2 := by
  cases o <;> rfl
@[simp] theorem attentionField_length (x : BitVec 9) : (attentionField x).length = 2 := rfl
@[simp] theorem sweepItem_length (x : Sweep) : (sweepItem x).length = 3 := by cases x <;> rfl
@[simp] theorem snapshotItem_length (x : Sweep) : (snapshotItem x).length = 7 := by cases x <;> rfl

/-! ### READ_ENVELOPE and NOP (R36, R184) -/

theorem exec_readEnvelope {h : Hdr} {wheel kind : Byte} {s : State} (ha : authorityOf h ≠ none) :
    exec (.readEnvelope h wheel kind) s =
      .next (s.exchanged h.link (answerOf h 0x18 (envelopeReply wheel kind s))) :=
  congrArg Host.Outcome.next (takeRequest_reading ha)

/-! ### READ_SEGMENT (R48) -/

theorem exec_readSegment {h : Hdr} {id mode : Byte} {s : State} (ha : authorityOf h ≠ none) :
    exec (.readSegment h id mode) s =
      .next (s.exchanged h.link (answerOf h 0x25 (readSegmentReply id mode s))) :=
  congrArg Host.Outcome.next (takeRequest_reading ha)

/-- What READ_SEGMENT replies of the record its mode finds. -/
theorem readSegmentReply_of {id mode : Byte} {exact : Bool} {s : State}
    (hm : exactOfCode mode = some exact) : readSegmentReply id mode s =
      (segmentToRead s exact id.toNat).elim (.refuse .notFound) (fun g => .ok (segmentFields s g)) := by
  simp only [readSegmentReply, hm]
  cases segmentToRead s exact id.toNat <;> rfl

/-- The record EXACT mode reads, that of the current segment for id 0. -/
theorem segmentToRead_exact (s : State) (id : Byte) : segmentToRead s true id.toNat =
    if id = 0 then currentSegment s else findSegment s id.toNat := by
  by_cases h : id = 0
  · subst h; rfl
  · have : id.toNat ≠ 0 := fun e => h (word_eq_zero.2 e)
    rw [segmentToRead, if_pos rfl, if_neg this, if_neg h]

theorem exactOfCode_none {mode : Byte} (h : 1 < mode.toNat) : exactOfCode mode = none := by
  unfold exactOfCode; split <;> simp_all

/-- The READ_SEGMENT answer, the heading shown where the record is current. -/
theorem segmentFields_eq (s : State) (g : Segment) : segmentFields s g =
    u8 g.id ++ s16 g.grade ++ u8 g.rr ++ u8 g.cls.code ++ u8 (boundCount s g.id) ++
      (if s.segs.current = some g.id then u8 s.segs.heading.code else [0xFF]) ++
      u8 s.segs.records.length := by
  unfold segmentFields loadedCount
  split <;> rfl

/-! ### READ_STATUS (R189, R191) -/

theorem exec_readStatus {h : Hdr} {page item : Byte} {s : State} (ha : authorityOf h ≠ none) :
    exec (.readStatus h page item) s =
      .next (s.exchanged h.link (answerOf h 0x60 (readStatusReply h.link page item s))) :=
  congrArg Host.Outcome.next (takeRequest_reading ha)

/-- A status item that is there is shown. -/
theorem statusShows_of {h : Hdr} {page item : Byte} {fields : List Byte} {s : State}
    (ha : authorityOf h ≠ none) (hf : statusItem s h.link page.toNat item.toNat = some fields) :
    StatusShows h s page item fields := by
  rw [StatusShows, exec_readStatus ha, readStatusReply, hf, answerOf_ok]

/-- How many items a page has (R191). -/
def pageItems : List Nat := [2, 4, 4, 4, 12, 6]

/-- Every item of a page is there and fits a body (R191). -/
theorem statusItem_some {s : State} {l : Link} {page item n : Nat} (hn : pageItems[page]? = some n)
    (hi : item < n) :
    ∃ fields, statusItem s l page item = some fields ∧ fields.length ≤ 8 := by
  match page with
  | 0 =>
    cases hn; interval_cases item <;> refine ⟨_, rfl, ?_⟩ <;>
      simp [HoldSet.field, Conditions.field, TripSet.field]
  | 1 => cases hn; interval_cases item <;> refine ⟨_, rfl, ?_⟩ <;> simp [trackerItem]
  | 2 => cases hn; interval_cases item <;> refine ⟨_, rfl, ?_⟩ <;> simp
  | 3 => cases hn; interval_cases item <;> refine ⟨_, rfl, ?_⟩ <;> simp [wheelItem, gripItem]
  | 4 =>
    cases hn; interval_cases item <;> refine ⟨_, rfl, ?_⟩ <;>
      simp [AssistCauses.field, gridItem, gridDutyItem]
  | 5 =>
    cases hn; interval_cases item <;> refine ⟨_, rfl, ?_⟩ <;>
      simp [meanField, strutFlags, expiryItem]
  | n + 6 => simp [pageItems] at hn

/-- No page has another item (R191). -/
theorem statusItem_none {s : State} {l : Link} {page item : Nat}
    (hn : ∀ n, pageItems[page]? = some n → n ≤ item) : statusItem s l page item = none := by
  match page with
  | 0 => obtain ⟨k, rfl⟩ := Nat.exists_eq_add_of_le' (hn 2 rfl); rfl
  | 1 => obtain ⟨k, rfl⟩ := Nat.exists_eq_add_of_le' (hn 4 rfl); rfl
  | 2 => obtain ⟨k, rfl⟩ := Nat.exists_eq_add_of_le' (hn 4 rfl); rfl
  | 3 => obtain ⟨k, rfl⟩ := Nat.exists_eq_add_of_le' (hn 4 rfl); rfl
  | 4 => obtain ⟨k, rfl⟩ := Nat.exists_eq_add_of_le' (hn 12 rfl); rfl
  | 5 => obtain ⟨k, rfl⟩ := Nat.exists_eq_add_of_le' (hn 6 rfl); rfl
  | n + 6 => rfl

/-! ### READ_STEER_POINT and GET_PARAM (R152, R190) -/

theorem exec_readSteerPoint {h : Hdr} {k : Byte} {s : State} (ha : authorityOf h ≠ none) :
    exec (.readSteerPoint h k) s =
      .next (s.exchanged h.link (answerOf h 0x59 (readPointReply k s))) :=
  congrArg Host.Outcome.next (takeRequest_reading ha)

/-- What READ_STEER_POINT replies of a point of the curve. -/
theorem readPointReply_of (s : State) (k : Fin 8) : readPointReply (BitVec.ofNat 8 k.val) s =
    .ok (u8 k.val ++ u16 (s.steer.curve.get k).speed ++ u16 (s.steer.curve.get k).angle ++
      u16 (curveAt s.steer.curve s.speed.v)) := by
  have hk : (BitVec.ofNat 8 k.val).toNat = k.val := by simp; omega
  have e : s.steer.curve[k.val]? = some (s.steer.curve.get k) := Vector.getElem?_eq_getElem k.isLt
  rw [readPointReply, hk, e]

theorem exec_getParam {h : Hdr} {index : Byte} {s : State} (ha : authorityOf h ≠ none) :
    exec (.getParam h index) s =
      .next (s.exchanged h.link (answerOf h 0x64 (getParamReply index s))) :=
  congrArg Host.Outcome.next (takeRequest_reading ha)

/-- The parameter of an index (R190). -/
theorem paramOfIndex_index {b : Byte} {p : Param} (h : p.index.val = b.toNat) :
    paramOfIndex b = some p := by
  rw [paramOfIndex, ← h]
  cases p <;> rfl

theorem paramOfIndex_none {b : Byte} (h : 45 < b.toNat) : paramOfIndex b = none := by
  rw [paramOfIndex, List.getElem?_eq_none_iff]
  exact h

/-! ### The status items, field by field (R191) -/

section
variable {h : Hdr} {s : State}

theorem reverse_toNat (d : Direction) : (d == .reverse).toNat = d.code := by cases d <;> rfl

theorem statusShows_drive (ha : authorityOf h ≠ none) :
    StatusShows h s 0 0 (u8 s.drive.state.code ++
      u8 (s.drive.hold.demandLost.toNat + 2 * s.drive.hold.steerFault.toNat +
        4 * s.drive.hold.steerCrit.toNat + 8 * s.drive.hold.wheelLost.toNat +
        16 * s.drive.hold.safetyHold.toNat + 32 * s.drive.hold.startMoving.toNat) ++
      u8 (s.drive.conditions.steerFault.toNat + 2 * s.drive.conditions.steerCrit.toNat) ++
      optU8 (s.drive.trip.map TripCause.code) ++
      u8 (s.drive.later.trip.toNat + 2 * s.drive.later.linkOvervolt.toNat +
        4 * s.drive.later.referenceLost.toNat + 8 * s.drive.later.bothWheelsLost.toNat) ++
      u8 s.drive.mode.code ++ u8 s.drive.outcome.code ++
      u8 (s.drive.brakeApply.toNat + 2 * s.drive.brakeReleased.toNat +
        4 * s.torque.direction.code + 8 * s.drive.tripMark.toNat)) := by
  refine statusShows_of ha (show statusDrive s 0 = _ from ?_)
  simp only [statusDrive, HoldSet.field, Conditions.field, TripSet.field, bits_six, bits_two,
    bits_four, reverse_toNat]

theorem statusShows_speed (ha : authorityOf h ≠ none) :
    StatusShows h s 1 0 (optU8 (s.speed.current.map sourceCode) ++
      optU8 (s.speed.pending.map sourceCode) ++ u8 s.speed.reference.code ++
      u8 (s.speed.lock.toNat + 2 * s.speed.sourceFail.toNat) ++ u16 s.speed.v ++
      u8 s.speed.windows ++ u8 (srcPrefCode s.straps.srcPref)) := by
  refine statusShows_of ha (show statusSpeed s 0 = _ from ?_)
  simp only [statusSpeed, bits_two]

theorem statusShows_tracker (ha : authorityOf h ≠ none) (x : Source) :
    StatusShows h s 1 (BitVec.ofNat 8 (1 + sourceCode x)) (u8 (s.speed.trackers.get x).state.code ++
      u8 (s.speed.trackers.get x).count ++ u8 (s.speed.trackers.get x).misses ++
      u8 (s.speed.trackers.get x).passed.toNat ++ u16 (s.speed.trackers.get x).value ++
      (if x = .sat then optU8 (s.speed.fix.map Fix.quality) ++ u8 s.speed.fresh else [])) := by
  refine statusShows_of ha ?_
  cases x
  · show some (trackerItem s.speed.trackers.front) = _
    simp [trackerItem, bits_one, Trackers.get]
  · show some (trackerItem s.speed.trackers.sat ++ optU8 (s.speed.fix.map Fix.quality) ++
      u8 s.speed.fresh) = _
    simp [trackerItem, bits_one, Trackers.get]
  · show some (trackerItem s.speed.trackers.rear) = _
    simp [trackerItem, bits_one, Trackers.get]

theorem statusShows_envelope (ha : authorityOf h ≠ none) :
    StatusShows h s 2 0 (u16 s.env.applied ++ u16 s.env.left.speedMax.value ++
      bindingField s.env.left.speedMax.handle ++ u16 s.torque.vmax) :=
  statusShows_of ha rfl

theorem statusShows_steer (ha : authorityOf h ≠ none) :
    StatusShows h s 2 1 (optS16 s.steer.command ++ optS16 s.steer.measured ++ u16 s.steer.alim ++
      u8 s.steer.rateStep ++
      u8 (s.steer.fault.toNat + 2 * s.steer.low.toNat + 4 * s.steer.crit.toNat)) := by
  refine statusShows_of ha (show statusEnvelope s 1 = _ from ?_)
  simp only [statusEnvelope, bits_three]

/-- The effective grade is the grade itself when heading and direction agree (R41). -/
theorem effectiveGrade_eq (grade : Int) (hd : Heading) (d : Direction) : effectiveGrade grade hd d =
    if (hd = .along ↔ d = .forward) then grade else -grade := by
  cases hd <;> cases d <;> rfl

theorem statusShows_segment (ha : authorityOf h ≠ none) :
    StatusShows h s 2 3 (u8 (s.segs.current.getD 0) ++ u8 s.segs.heading.code ++
      optS16 ((currentSegment s).map (fun g =>
        if (s.segs.heading = .along ↔ s.torque.direction = .forward) then g.grade else -g.grade)) ++
      u8 s.segs.records.length) := by
  refine statusShows_of ha (show statusEnvelope s 3 = _ from ?_)
  simp only [statusEnvelope, gradeNow, effectiveGrade_eq]

theorem statusShows_wheel (ha : authorityOf h ≠ none) (w : Wheel) {n : Nat}
    (hn : n = (match w with | .left => 0 | .right => 1)) :
    StatusShows h s 3 (BitVec.ofNat 8 n) (s16 (s.wheel w).tprev ++ u8 (s.wheel w).mode.code ++
      u8 (s.wheel w).link.code ++ u8 (s.wheel w).silence ++ u8 (s.wheel w).stage.code ++
      u8 (s.wheel w).retardBound.toNat) ∧
    StatusShows h s 3 (BitVec.ofNat 8 (2 + n)) (gripItem (s.grip.get w)) := by
  subst hn
  cases w
  · refine ⟨statusShows_of ha (show some (wheelItem (s.wheel .left)) = _ from ?_),
      statusShows_of ha rfl⟩
    simp only [wheelItem, bits_one]
  · refine ⟨statusShows_of ha (show some (wheelItem (s.wheel .right)) = _ from ?_),
      statusShows_of ha rfl⟩
    simp only [wheelItem, bits_one]

theorem statusShows_retard (ha : authorityOf h ≠ none) :
    StatusShows h s 4 0 (u16 s.retard.pcap ++ u16 s.retard.preq ++ u16 s.retard.assist ++
      u8 (s.retard.causes.trip.toNat + 2 * s.retard.causes.standstill.toNat +
        4 * s.retard.causes.retardShort.toNat + 8 * s.retard.causes.gradeShort.toNat +
        16 * s.retard.causes.linkHigh.toNat) ++
      u8 (s.retard.gradeShort.toNat + 2 * s.retard.overvolt.toNat +
        4 * s.retard.grade.isNone.toNat)) := by
  refine statusShows_of ha (show statusRetard s 0 = _ from ?_)
  simp only [statusRetard, AssistCauses.field, bits_five, bits_three]

theorem statusShows_sweep (ha : authorityOf h ≠ none) :
    StatusShows h s 4 2 (u24 s.retard.vm ++ u16 s.retard.volts ++ sweepItem s.retard.sweep) ∧
      StatusShows h s 4 3 (snapshotItem s.retard.sweep) :=
  ⟨statusShows_of ha rfl, statusShows_of ha rfl⟩

theorem statusShows_grid (ha : authorityOf h ≠ none) (n : GridNo) :
    StatusShows h s 4 (BitVec.ofNat 8 (3 + n.num)) (gridItem (s.retard.grids.get n)) ∧
      StatusShows h s 4 (BitVec.ofNat 8 (7 + n.num)) (gridDutyItem (s.retard.grids.get n)) := by
  cases n <;> exact ⟨statusShows_of ha rfl, statusShows_of ha rfl⟩

/-- RUNNING is code 0 and STOPPED code 1 (R111, R186). -/
theorem gridItem_eq (g : Grid) : gridItem g = u8 g.state.code ++ u8 (if g.running then 0 else 1) ++
    u16 g.theta ++ u16 g.cap ++ u16 (if g.state = .fault then g.faultAlloc else g.alloc) := by
  have : (!g.running).toNat = if g.running then 0 else 1 := by cases g.running <;> rfl
  rw [gridItem, this]

theorem strutFlags_eq (m : LoadMon) {inRange : Nat → Nat}
    (hr : ∀ x, inRange x = if 1 ≤ x ∧ x ≤ 3999 then 1 else 0) : strutFlags m =
      u8 (m.strutFault.toNat + 2 * inRange m.struts.a1 + 4 * inRange m.struts.a2 +
        8 * inRange m.struts.a3 + 16 * inRange m.struts.a4) := by
  have key (x : Nat) : (strutInRange x).toNat = inRange x := by
    rw [hr, strutInRange, ← Bool.decide_and]
    split <;> simp [*]
  rw [strutFlags, bits_five, key, key, key, key]

theorem meanField_eq (l : List Nat) :
    meanField l = if l = [] then [0xFF, 0xFF] else u16 (l.sum / l.length) := by
  unfold meanField meanOf
  split <;> rfl

theorem statusShows_attention (ha : authorityOf h ≠ none) :
    StatusShows h s 5 3 (u16 (s.port h.link).pending.toNat ++ u16 (s.port h.link).mask.toNat ++
      u8 (if (s.port h.link).pending &&& (s.port h.link).mask = 0 then 0 else 1) ++
      u8 s.straps.gridFit.num ++ u8 (srcPrefCode s.straps.srcPref) ++
      u8 (paramGuardCode s.straps.paramGuard)) := by
  have line (p : Port) : bits [p.line] = u8 (if p.pending &&& p.mask = 0 then 0 else 1) := by
    rw [bits_one, Port.line]
    by_cases hz : p.pending &&& p.mask = 0
    · simp [hz]
    · rw [if_neg hz, bne_iff_ne.2 hz]; rfl
  refine statusShows_of ha (show statusLoad s h.link 3 = _ from ?_)
  simp only [statusLoad, attentionField, line]

theorem statusShows_expiry (ha : authorityOf h ≠ none) (l : Link) :
    StatusShows h s 5 (BitVec.ofNat 8 (4 + linkCode l)) (expiryItem (s.port l)) := by
  cases l <;> exact statusShows_of ha rfl

end

/-- Settles O13: each request answers what its reading function replies, field by field. -/
theorem Settled.plainReadings : Obligations.PlainReadings := by
  refine ⟨fun h wheel kind s ha => ?_, fun h s ha => ?_, fun h id g s ha hg => ?_,
    fun h id mode s ha => ?_, fun h s ha => ?_, fun h page item s ha => ?_, fun h k s ha => ?_,
    fun h k index s ha => ?_, fun h index p s ha hp => ?_⟩
  · refine ⟨fun hk => ?_, fun k hk hw => ?_, fun k w hk hw => ?_⟩ <;>
      rw [exec_readEnvelope ha]
    · simp only [envelopeReply, hk, answerOf_refuse]
    · simp only [envelopeReply, hk, hw, answerOf_refuse]
    · simp only [envelopeReply, hk, hw, answerOf_ok, envelopeFigures]
      cases ((s.env.wheel w).get k).handle <;> rfl
  · exact congrArg Host.Outcome.next (takeRequest_reading ha)
  · rw [exec_readSegment ha, readSegmentReply_of (exact := true) rfl]
    have e : segmentToRead s true id.toNat = some g := by
      rw [segmentToRead_exact]
      split at hg
      · rwa [if_pos ‹_›]
      · rwa [if_neg ‹_›]
    rw [e, Option.elim_some, answerOf_ok, segmentFields_eq]
  · refine ⟨fun hm => ?_, fun hn => ?_, fun hn => ?_, fun g hp hg hid hu => ?_⟩ <;>
      rw [exec_readSegment ha]
    · rw [readSegmentReply, exactOfCode_none hm, answerOf_refuse]
    · have e : segmentToRead s true id.toNat = none := by
        rw [segmentToRead_exact]
        split at hn
        · rw [if_pos ‹_›, currentSegment, hn]; rfl
        · rwa [if_neg ‹_›]
      rw [readSegmentReply_of (exact := true) rfl, e]; rfl
    · have e : segmentToRead s false id.toNat = none := by
        simpa [segmentToRead] using hn
      rw [readSegmentReply_of (exact := false) rfl, e]; rfl
    · have e : segmentToRead s false id.toNat = some g := by
        refine find?_least (List.pairwise_map.1 hp) hg (by simpa using hid) fun q hq hle => ?_
        exact hu q hq (by simpa using hle)
      rw [readSegmentReply_of (exact := false) rfl, e, Option.elim_some, answerOf_ok,
        segmentFields_eq]
  · refine ⟨statusShows_drive ha, statusShows_of ha rfl, statusShows_speed ha, ?_, ?_,
      statusShows_steer ha, statusShows_of ha rfl, statusShows_segment ha,
      fun w n hn => statusShows_wheel ha w hn, statusShows_retard ha, statusShows_of ha rfl, ?_, ?_,
      ?_, statusShows_of ha rfl, ?_, statusShows_of ha rfl, statusShows_attention ha, ?_⟩
    · rintro x k rfl
      exact statusShows_tracker ha x
    · have := statusShows_envelope (s := s) ha
      cases hb : s.env.left.speedMax.handle <;> rwa [hb] at this
    · intro hi
      have := statusShows_sweep (s := s) ha
      rwa [hi] at this
    · rintro j code next (⟨t, hj, rfl, rfl⟩ | ⟨t, hj, rfl⟩) <;>
        · have := statusShows_sweep (s := s) ha
          rwa [hj] at this
    · rintro n g rfl
      rw [← gridItem_eq]
      exact statusShows_grid ha n
    · intro inRange hr
      rw [← strutFlags_eq _ hr, ← meanField_eq]
      exact statusShows_of ha rfl
    · intro l
      have := statusShows_expiry (s := s) ha l
      refine ⟨fun hl => ?_, fun e hl => ?_⟩ <;> rwa [expiryItem, hl] at this
  · refine ⟨fun n hn hi => ?_, fun hn => ?_⟩
    · obtain ⟨fields, hf, hl⟩ := statusItem_some (s := s) (l := h.link) hn hi
      exact ⟨fields, hf, hl, statusShows_of ha hf⟩
    · rw [exec_readStatus ha, readStatusReply, statusItem_none hn, answerOf_refuse]
  · rw [exec_readSteerPoint ha, readPointReply_of]
    rfl
  · refine ⟨fun hk => ?_, fun hi => ?_⟩
    · have e : s.steer.curve[k.toNat]? = none := Vector.getElem?_eq_none (by omega)
      rw [exec_readSteerPoint ha, readPointReply, e, answerOf_refuse]
    · rw [exec_getParam ha, getParamReply, paramOfIndex_none hi, answerOf_refuse]
  · rw [exec_getParam ha, getParamReply, paramOfIndex_index hp, answerOf_ok]

end Sys2Proof.Machine
end

section
/-! PLACE_LIMIT, AMEND_LIMIT, RENEW_LIMIT, RETIRE_LIMIT and RETIRE_OWNER (O16, O17, O18). -/

namespace Sys2Proof.Machine

/-! ### PLACE_LIMIT (R13, R14) -/

theorem exec_placeLimit {h : Hdr} {kind scope segment immediate : Byte} {value lease : Half} {a : Owner}
    {s : State} (ha : authorityOf h = some a) :
    exec (.placeLimit h kind scope value segment lease immediate) s =
      .next ((placeWork kind scope value segment lease immediate a s).1.exchanged h.link
        (answerOf h 0x10 (placeWork kind scope value segment lease immediate a s).2)) :=
  congrArg Host.Outcome.next (takeRequest_of ha rfl)

section
variable {kind scope segment immediate : Byte} {value lease : Half} {a : Owner} {k : Kind}
  {sc : Scope} {s : State}

/-- PLACE_LIMIT past its checks 1 to 4 (R13). -/
theorem placeWork_passes (hk : kindOfCode kind = some k) (hsc : scopeOfCode scope = some sc)
    (hp : sc = .both ∨ k.perWheel = true) (hv : k.inRange value.toNat = true)
    (hl : lease.toNat ≤ 6000) (him : immediate = 0 ∨ a = .safety)
    (hseg : segment = 0 ∨ (findSegment s segment.toNat).isSome = true) :
    placeWork kind scope value segment lease immediate a s =
      placeRecord s (newRecord s a k sc value.toNat (bindingOf segment) (leaseOf lease.toNat)
        (decide (immediate ≠ 0))) := by
  have c1 : ¬(immediate.toNat ≠ 0 ∧ a ≠ .safety) := by
    rintro ⟨h1, h2⟩
    exact him.elim (fun e => h1 (word_eq_zero.1 e)) h2
  have c2 : ¬ scopeAllowed (some k) sc = false := by
    rcases hp with hp | hp <;> simp [scopeAllowed, hp]
  have c3 : ¬(k.inRange value.toNat = false ∨ 6000 < lease.toNat) := by
    simp [hv, hl]
  have c4 : ¬(segment.toNat ≠ 0 ∧ findSegment s segment.toNat = none) := by
    rintro ⟨h1, h2⟩
    exact hseg.elim (fun e => h1 (word_eq_zero.1 e)) (fun e => by simp [h2] at e)
  have e : decide (immediate ≠ 0) = decide (immediate.toNat ≠ 0) :=
    decide_eq_decide.2 (not_congr word_eq_zero)
  simp only [placeWork, hk, hsc, if_neg c1, if_neg c2, if_neg c3, if_neg c4, e]

/-- The record PLACE_LIMIT makes, as the request spells it (R14). -/
theorem newRecord_eq (im : Bool) :
    newRecord s a k sc value.toNat (bindingOf segment) (leaseOf lease.toNat) im =
      { owner := a, kind := k, scope := sc, value := value.toNat
        segment := if segment = 0 then none else some segment.toNat
        lease := if lease = 0 then none else some ⟨lease.toNat, lease.toNat⟩
        immediate := im
        active := decide (segment = 0 ∨ s.segs.current = some segment.toNat) } := by
  have e1 : bindingOf segment = if segment = 0 then none else some segment.toNat :=
    if_congr word_eq_zero.symm rfl rfl
  have e2 : leaseOf lease.toNat = if lease = 0 then none else some ⟨lease.toNat, lease.toNat⟩ :=
    if_congr word_eq_zero.symm rfl rfl
  have e3 : activeIn s.segs.current (bindingOf segment) =
      decide (segment = 0 ∨ s.segs.current = some segment.toNat) := by
    rw [Bool.eq_iff_iff, activeIn_iff, decide_eq_true_iff, bindingOf_eq_none, e1]
    by_cases hz : segment = 0
    · simp only [hz, true_or]
    · simp only [hz, if_false, false_or, eq_comm]
  rw [newRecord, e3, e1, e2]

/-- An immediate record is SAFETY's alone: check 1 (R13). -/
theorem placeWork_authority (him : immediate ≠ 0) (ha : a ≠ .safety) :
    placeWork kind scope value segment lease immediate a s = (s, .refuse .authority) :=
  if_pos ⟨fun e => him (word_eq_zero.2 e), ha⟩

/-- PLACE_LIMIT's checks 2 to 4, in R13's order. -/
theorem placeWork_refuses (him : immediate = 0 ∨ a = .safety) (code : ReplyCode)
    (hc : (scopeOfCode scope = none ∧ code = .badScope) ∨
      ∃ sc, scopeOfCode scope = some sc ∧
        ((scopeAllowed (kindOfCode kind) sc = false ∧ code = .badScope) ∨
          scopeAllowed (kindOfCode kind) sc = true ∧
            ((kindOfCode kind = none ∧ code = .badValue) ∨
              ∃ k, kindOfCode kind = some k ∧
                (((k.inRange value.toNat = false ∨ 6000 < lease.toNat) ∧ code = .badValue) ∨
                  k.inRange value.toNat = true ∧ lease.toNat ≤ 6000 ∧ segment ≠ 0 ∧
                    findSegment s segment.toNat = none ∧ code = .noSegment)))) :
    placeWork kind scope value segment lease immediate a s = (s, .refuse code) := by
  have c1 : ¬(immediate.toNat ≠ 0 ∧ a ≠ .safety) := by
    rintro ⟨h1, h2⟩
    exact him.elim (fun e => h1 (word_eq_zero.1 e)) h2
  unfold placeWork
  rw [if_neg c1]
  obtain ⟨hsc, rfl⟩ | ⟨sc, hsc, hc⟩ := hc <;> simp only [hsc]
  obtain ⟨hp, rfl⟩ | ⟨hp, hc⟩ := hc <;> simp only [hp, if_true, Bool.true_eq_false, if_false]
  obtain ⟨hk, rfl⟩ | ⟨k, hk, hc⟩ := hc <;> simp only [hk]
  obtain ⟨hv, rfl⟩ | ⟨hv, hl, hz, hf, rfl⟩ := hc
  · rw [if_pos hv]
  · rw [if_neg (by simp [hv, hl]), if_pos ⟨fun e => hz (word_eq_zero.2 e), hf⟩]

end

/-- The lowest FREE slot takes a record of a new key, which is resolved (R14). -/
theorem placeRecord_new {s : State} {i : Fin 39} {q : Rec} (hi : s.table[i.val].record = none)
    (hl : ∀ j : Fin 39, j < i → s.table[j.val].record.isSome = true)
    (hk : ∀ (j : Fin 39) (r : Rec), s.table[j.val].record = some r →
      r.hasKey q.owner q.kind q.scope q.segment = false) :
    placeRecord s q = (resolve (setRecord i q s), .ok (handleField (handleOf s i))) := by
  have free : freeSlot s = some i := findSlot_least (by simp [hi]) fun j hj => by
    by_contra hlt
    have := hl j (by omega)
    simp [Option.isNone_iff_eq_none.1 hj] at this
  simp only [placeRecord, findKey_none_iff.2 hk, free]

theorem placeRecord_full {s : State} {q : Rec}
    (hl : ∀ i : Fin 39, s.table[i.val].record.isSome = true)
    (hk : ∀ (j : Fin 39) (r : Rec), s.table[j.val].record = some r →
      r.hasKey q.owner q.kind q.scope q.segment = false) :
    placeRecord s q = (s, .refuse .full) := by
  have free : freeSlot s = none := findSlot_none fun j => by
    obtain ⟨r, hr⟩ := Option.isSome_iff_exists.1 (hl j)
    simp [hr]
  simp only [placeRecord, findKey_none_iff.2 hk, free]

theorem placeRecord_exists {s : State} {i : Fin 39} {q : Rec}
    (hk : findKey s q.owner q.kind q.scope q.segment = some i) :
    placeRecord s q = (s, ⟨.exists, handleField (handleOf s i)⟩) := by
  simp only [placeRecord, hk]

/-- Settles O16: PLACE_LIMIT is `placeRecord` past its checks, and each check refuses in R13's order. -/
theorem Settled.placeLimit : Obligations.PlaceLimit := by
  refine ⟨fun h kind scope value segment lease immediate a k sc s ha hk hsc hp hv hl him hseg => ?_,
    fun h kind scope value segment lease immediate a s refused ha hr => ?_⟩
  · have hw := placeWork_passes hk hsc hp hv hl him hseg
    refine ⟨fun i hi hlow hnew => ?_, fun i r hr hkey hu => ?_, fun hfull hnew => ?_⟩ <;>
      rw [exec_placeLimit ha, hw]
    · rw [placeRecord_new hi hlow hnew, newRecord_eq]
      refine ⟨_, rfl, ?_, fun j hj => ?_, resolve_resolved _, rfl⟩ <;>
        rw [resolve_table, setRecord_get]
      · rw [if_pos rfl]
      · rw [if_neg hj]
    · rw [placeRecord_exists (findKey_unique hr hkey hu)]; rfl
    · rw [placeRecord_full hfull hnew]; rfl
  · have no (c : ReplyCode) (hc : placeWork kind scope value segment lease immediate a s =
        (s, .refuse c)) : refused c := by
      rw [hr, exec_placeLimit ha, hc, answerOf_refuse]
    refine ⟨fun hz hs => no _ (placeWork_authority hz hs), fun him => ⟨fun hsc => ?_,
      fun sc hsc => ⟨fun hne hall => ?_, fun hboth hk => ?_, fun k hk hp => ⟨fun hv => ?_,
        fun hv hl hz hf => ?_⟩⟩⟩⟩ <;> apply no <;> apply placeWork_refuses him
    · exact .inl ⟨hsc, rfl⟩
    · refine .inr ⟨sc, hsc, .inl ⟨?_, rfl⟩⟩
      simp only [scopeAllowed, Bool.or_eq_false_iff, beq_eq_false_iff_ne]
      refine ⟨hne, ?_⟩
      cases hk : kindOfCode kind with
      | none => rfl
      | some k => exact hall k hk
    · exact .inr ⟨sc, hsc, .inr ⟨by simp [scopeAllowed, hboth], .inl ⟨hk, rfl⟩⟩⟩
    all_goals
      have hsp : scopeAllowed (kindOfCode kind) sc = true := by
        rcases hp with hp | hp <;> simp [scopeAllowed, hp, hk]
    · exact .inr ⟨sc, hsc, .inr ⟨hsp, .inr ⟨k, hk, .inl ⟨hv, rfl⟩⟩⟩⟩
    · exact .inr ⟨sc, hsc, .inr ⟨hsp, .inr ⟨k, hk, .inr ⟨hv, hl, hz, hf, rfl⟩⟩⟩⟩

/-! ### AMEND_LIMIT and RENEW_LIMIT (R15, R16) -/

section
variable {h : Hdr} {slot gen action owner : Byte} {value length : Half} {a : Owner} {s : State}

theorem exec_amendLimit (ha : authorityOf h = some a) :
    exec (.amendLimit h slot gen value action length) s =
      .next ((amendWork slot gen value action length a s).1.exchanged h.link
        (answerOf h 0x11 (amendWork slot gen value action length a s).2)) :=
  congrArg Host.Outcome.next (takeRequest_of ha rfl)

theorem exec_renewLimit (ha : authorityOf h = some a) : exec (.renewLimit h slot gen) s =
    .next ((renewWork slot gen a s).1.exchanged h.link
      (answerOf h 0x12 (renewWork slot gen a s).2)) :=
  congrArg Host.Outcome.next (takeRequest_of ha rfl)

theorem exec_retireLimit (ha : authorityOf h = some a) : exec (.retireLimit h slot gen) s =
    .next ((retireWork slot gen a s).1.exchanged h.link
      (answerOf h 0x13 (retireWork slot gen a s).2)) :=
  congrArg Host.Outcome.next (takeRequest_of ha rfl)

theorem exec_retireOwner (ha : authorityOf h = some a) : exec (.retireOwner h owner) s =
    .next ((retireOwnerWork owner a s).1.exchanged h.link
      (answerOf h 0x14 (retireOwnerWork owner a s).2)) :=
  congrArg Host.Outcome.next (takeRequest_of ha rfl)

/-- A handle without a match is STALE (R15, R16, R17). -/
theorem work_stale (hm : NoMatch slot gen s) :
    amendWork slot gen value action length a s = (s, .refuse .stale) ∧
      renewWork slot gen a s = (s, .refuse .stale) ∧
      retireWork slot gen a s = (s, .refuse .stale) := by
  simp only [amendWork, renewWork, retireWork, matchHandle_none hm, and_self]

/-- A governor record is PROTECTED (R15, R16, R17). -/
theorem work_guarded (hm : ∃ g : Gov, slot.toNat = g.slot ∧ gen = 0) :
    amendWork slot gen value action length a s = (s, .refuse .guarded) ∧
      renewWork slot gen a s = (s, .refuse .guarded) ∧
      retireWork slot gen a s = (s, .refuse .guarded) := by
  obtain ⟨g, hg, rfl⟩ := hm
  simp only [amendWork, renewWork, retireWork, matchHandle_gov (s := s) (gen := 0) hg rfl, and_self]

variable {i : Fin 39} {r : Rec}

/-- AMEND_LIMIT by the owner past its checks (R15). -/
theorem amendWork_done {act : LeaseAction} (hm : matchHandle s slot.toNat gen.toNat = some (.ext i r))
    (ho : a = r.owner) (hv : r.kind.inRange value.toNat = true)
    (hact : leaseActionOfCode action = some act)
    (hl : act = .new → 1 ≤ length.toNat ∧ length.toNat ≤ 6000) :
    amendWork slot gen value action length a s =
      (amendRecord s i r value.toNat (amendedLease act length.toNat r.lease),
        .ok (handleField (handleOf s i))) := by
  have c : ¬(act = .new ∧ (length.toNat = 0 ∨ 6000 < length.toNat)) := by
    rintro ⟨hn, h⟩
    have := hl hn
    omega
  simp only [amendWork, hm, ho, ne_eq, not_true_eq_false, if_false, hv, Bool.true_eq_false, hact,
    if_neg c]

/-- AMEND_LIMIT's BAD_VALUE (R15). -/
theorem amendWork_badValue (hm : matchHandle s slot.toNat gen.toNat = some (.ext i r))
    (ho : a = r.owner) (hbad : r.kind.inRange value.toNat = false ∨ leaseActionOfCode action = none ∨
      (leaseActionOfCode action = some .new ∧ (length = 0 ∨ 6000 < length.toNat))) :
    amendWork slot gen value action length a s = (s, .refuse .badValue) := by
  simp only [amendWork, hm, ho, ne_eq, not_true_eq_false, if_false]
  split
  · rfl
  next hv =>
  rcases hbad with hbad | hbad | ⟨hact, hl⟩
  · exact absurd hbad hv
  · simp only [hbad]
  · simp only [hact]
    rw [if_pos ⟨trivial, hl.imp_left word_eq_zero.1⟩]

/-- Another authority, SAFETY too, amends and renews nothing (R15, R16). -/
theorem work_notOwner (hm : matchHandle s slot.toNat gen.toNat = some (.ext i r)) (ho : a ≠ r.owner) :
    amendWork slot gen value action length a s = (s, .refuse .notOwner) ∧
      renewWork slot gen a s = (s, .refuse .notOwner) := by
  simp only [amendWork, renewWork, hm, if_pos ho, and_self]

theorem renewWork_done {l : Lease} (hm : matchHandle s slot.toNat gen.toNat = some (.ext i r))
    (ho : a = r.owner) (hl : r.lease = some l) : renewWork slot gen a s =
      (setRecord i { r with lease := some ⟨l.length, l.length⟩ } s,
        .ok (handleField (handleOf s i) ++ u16 l.length)) := by
  simp only [renewWork, hm, ho, ne_eq, not_true_eq_false, if_false, hl]

theorem renewWork_noLease (hm : matchHandle s slot.toNat gen.toNat = some (.ext i r))
    (ho : a = r.owner) (hl : r.lease = none) : renewWork slot gen a s = (s, .refuse .noLease) := by
  simp only [renewWork, hm, ho, ne_eq, not_true_eq_false, if_false, hl]

/-! ### RETIRE_LIMIT and RETIRE_OWNER (R17, R18) -/

theorem retireWork_done (hm : matchHandle s slot.toNat gen.toNat = some (.ext i r))
    (ho : a = r.owner ∨ a = .safety) : retireWork slot gen a s =
      (resolve (retireSlot i s), .ok (handleField (handleOf s i))) := by
  simp only [retireWork, hm, ← not_or, if_neg (not_not.2 ho), ne_eq]

theorem retireWork_notOwner (hm : matchHandle s slot.toNat gen.toNat = some (.ext i r))
    (ho : a ≠ r.owner) (hs : a ≠ .safety) : retireWork slot gen a s = (s, .refuse .notOwner) := by
  simp only [retireWork, hm, if_pos (And.intro ho hs)]

end

/-- What AMEND_LIMIT leaves of the envelope: resolved exactly when the value differs (R10, R15). -/
theorem amendRecord_eq (s : State) (i : Fin 39) (r : Rec) (v : Nat) (l : Option Lease) :
    (v = r.value → amendRecord s i r v l = setRecord i { r with value := v, lease := l } s) ∧
      (v ≠ r.value → amendRecord s i r v l =
        resolve (setRecord i { r with value := v, lease := l } s)) :=
  ⟨fun h => if_pos h, fun h => if_neg h⟩

theorem amendRecord_table (s : State) (i : Fin 39) (r : Rec) (v : Nat) (l : Option Lease) :
    (amendRecord s i r v l).table = (setRecord i { r with value := v, lease := l } s).table := by
  unfold amendRecord; dsimp only; split <;> rfl

theorem amendRecord_frame (s : State) (i : Fin 39) (r : Rec) (v : Nat) (l : Option Lease) :
    amendRecord s i r v l = { s with
      table := (amendRecord s i r v l).table, env := (amendRecord s i r v l).env } := by
  unfold amendRecord; dsimp only; split <;> rfl

/-- Settles O17, by what the handle matches and by the checks of R15 and R16. -/
theorem Settled.amendAndRenewLimit : Obligations.AmendAndRenewLimit := by
  refine ⟨fun h slot gen a i r s ha hs hg hr => ?_,
    fun h slot gen value action length s ha => ⟨fun hn => ?_, fun hgov => ?_⟩⟩
  · have hm := matchHandle_ext hs hg hr
    refine ⟨fun value action length act ho hv hact hl => ?_, fun l ho hl => ?_,
      fun ho value action length => ?_, fun ho value action length hbad => ?_, fun ho hl => ?_⟩
    · rw [exec_amendLimit ha, amendWork_done hm ho hv hact hl, answerOf_ok, handleField_of hs hg]
      refine ⟨_, rfl, ?_, fun j hj => ?_, fun e => ?_, fun e => ?_, amendRecord_frame ..⟩
      · rw [amendRecord_table, setRecord_get, if_pos rfl]
        cases act <;> rfl
      · rw [amendRecord_table, setRecord_get, if_neg hj]
      · rw [(amendRecord_eq ..).1 e, setRecord_env]
      · rw [(amendRecord_eq ..).2 e]; exact resolve_resolved _
    · rw [exec_renewLimit ha, renewWork_done hm ho hl, answerOf_ok, handleField_of hs hg]
      refine ⟨_, rfl, ?_, fun j hj => ?_, rfl⟩ <;> rw [setRecord_get]
      · rw [if_pos rfl]
      · rw [if_neg hj]
    · obtain ⟨e1, e2⟩ := work_notOwner (value := value) (action := action) (length := length) hm ho
      rw [exec_amendLimit ha, exec_renewLimit ha, e1, e2]
      exact ⟨rfl, rfl⟩
    · rw [exec_amendLimit ha, amendWork_badValue hm ho hbad, answerOf_refuse]
    · rw [exec_renewLimit ha, renewWork_noLease hm ho hl, answerOf_refuse]
  all_goals obtain ⟨a, ha⟩ := Option.ne_none_iff_exists'.1 ha
  · obtain ⟨e1, e2, -⟩ := work_stale (value := value) (action := action) (length := length) (a := a) hn
    rw [exec_amendLimit ha, exec_renewLimit ha, e1, e2]
    exact ⟨rfl, rfl⟩
  · obtain ⟨e1, e2, -⟩ := work_guarded (value := value) (action := action) (length := length) (a := a)
      (s := s) hgov
    rw [exec_amendLimit ha, exec_renewLimit ha, e1, e2]
    exact ⟨rfl, rfl⟩

/-- RETIRE_OWNER past its checks: what each slot holds after it (R18). -/
theorem retireWhere_get (pick : Slot → Bool) (s : State) (i : Fin 39) :
    (retireWhere pick s).table[i.val] =
      if pick s.table[i.val] then s.table[i.val].retired else s.table[i.val] := mapSlots_get ..

theorem ownedBy_iff {o : Owner} {x : Slot} :
    x.ownedBy o = true ↔ ∃ r, x.record = some r ∧ r.owner = o := by
  simp [Slot.ownedBy, Option.any_eq_true]

theorem countSlots_eq_countP (pick : Slot → Bool) (s : State) :
    countSlots pick s = s.table.toList.countP pick :=
  List.countP_eq_length_filter.symm

/-- The state after RETIRE_OWNER past its checks: a count of 0 changes nothing (R18). -/
def ownerRetired (o : Owner) (s : State) : State :=
  if countSlots (Slot.ownedBy o) s = 0 then s else resolve (retireWhere (Slot.ownedBy o) s)

/-- RETIRE_OWNER by that owner or SAFETY (R18). -/
theorem retireOwnerWork_done {owner : Byte} {a o : Owner} {s : State}
    (ho : ownerOfCode owner = some o) (hg : o ≠ .governor) (ha : a = o ∨ a = .safety) :
    retireOwnerWork owner a s =
      (ownerRetired o s, .ok (u8 (s.table.toList.countP (Slot.ownedBy o)))) := by
  simp only [retireOwnerWork, ho, if_neg hg, ← not_or, if_neg (not_not.2 ha), ne_eq, ownerRetired,
    ← countSlots_eq_countP]

/-- The count is 0 exactly when no record is the owner's. -/
theorem ownedCount_zero {o : Owner} {s : State} : countSlots (Slot.ownedBy o) s = 0 ↔
    ∀ (i : Fin 39) (r : Rec), s.table[i.val].record = some r → r.owner ≠ o := by
  rw [countSlots_zero]
  refine forall_congr' fun i => ?_
  rw [← Bool.not_eq_true, ownedBy_iff]
  push Not
  rfl

theorem ownerRetired_get (o : Owner) (s : State) (i : Fin 39) : (ownerRetired o s).table[i.val] =
    if s.table[i.val].ownedBy o then s.table[i.val].retired else s.table[i.val] := by
  unfold ownerRetired
  split
  · next hz => simp [countSlots_zero.1 hz i]
  · exact retireWhere_get _ s i

theorem ownerRetired_cases (o : Owner) (s : State) :
    ((∀ (i : Fin 39) (r : Rec), s.table[i.val].record = some r → r.owner ≠ o) →
      ownerRetired o s = s) ∧
    ((∃ (i : Fin 39) (r : Rec), s.table[i.val].record = some r ∧ r.owner = o) →
      ResolvedFrom s.env.applied (ownerRetired o s)) ∧
    ownerRetired o s = { s with table := (ownerRetired o s).table, env := (ownerRetired o s).env } := by
  refine ⟨fun hno => if_pos (ownedCount_zero.2 hno), ?_, ?_⟩
  · rintro ⟨i, r, hr, hro⟩
    rw [ownerRetired, if_neg fun hz => ownedCount_zero.1 hz i r hr hro]
    exact resolve_resolved _
  · unfold ownerRetired; split <;> rfl

/-- Settles O18, by what the handle matches and by what each slot holds after RETIRE_OWNER. -/
theorem Settled.retireLimitAndOwner : Obligations.RetireLimitAndOwner := by
  refine ⟨fun h slot gen a i r s ha hs hg hr => ?_, fun h owner a o s ha ho hg hao => ?_,
    fun h slot gen s ha => ?_, fun h owner a s ha => ?_⟩
  · have hm := matchHandle_ext hs hg hr
    refine ⟨fun ho => ?_, fun ho hsafe => ?_⟩ <;> rw [exec_retireLimit ha]
    · rw [retireWork_done hm ho, answerOf_ok, handleField_of hs hg]
      refine ⟨_, rfl, ?_, fun j hj => ?_, resolve_resolved _, rfl⟩ <;>
        rw [resolve_table, retireSlot_get]
      · rw [if_pos rfl, retired_eq]
      · rw [if_neg hj]
    · rw [retireWork_notOwner hm ho hsafe, answerOf_refuse]
  · rw [exec_retireOwner ha, retireOwnerWork_done ho hg hao, answerOf_ok]
    obtain ⟨hnone, hsome, hframe⟩ := ownerRetired_cases o s
    refine ⟨ownerRetired o s, rfl, fun i r hr hro => ?_, fun i hno => ?_, hnone, hsome, hframe⟩ <;>
      rw [ownerRetired_get]
    · rw [if_pos (ownedBy_iff.2 ⟨r, hr, hro⟩), retired_eq]
    · exact if_neg fun hob => by
        obtain ⟨r, hr, hro⟩ := ownedBy_iff.1 hob
        exact hno r hr hro
  · obtain ⟨a, ha⟩ := Option.ne_none_iff_exists'.1 ha
    refine ⟨fun hn => ?_, fun hgov => ?_⟩ <;> rw [exec_retireLimit ha]
    · rw [(work_stale (value := 0) (action := 0) (length := 0) hn).2.2, answerOf_refuse]
    · rw [(work_guarded (value := 0) (action := 0) (length := 0) hgov).2.2, answerOf_refuse]
  · refine ⟨fun ho => ?_, fun ho => ?_, fun o ho hg hne hs => ?_⟩ <;> rw [exec_retireOwner ha]
    · simp only [retireOwnerWork, ho, answerOf_refuse]
    · simp only [retireOwnerWork, ho, if_true, answerOf_refuse]
    · simp only [retireOwnerWork, ho, if_neg hg, if_pos (And.intro hne hs), answerOf_refuse]

end Sys2Proof.Machine
end

section
/-! The lease step and EXPIRY (O19). -/

namespace Sys2Proof.Machine

/-! ### The lease step (R11, R12) -/

/-- The expiry a slot reports on a link at the next lease step, with the slot's number (R12). -/
def expiryOn (l : Link) (x : Slot × Nat) : Option Expiry :=
  (x.1.record.filter fun r =>
    r.lease.any (fun m => decide (m.remaining ≤ 1)) && ownerLink r.owner == l).map
    fun r => ⟨⟨x.2, x.1.gen⟩, r.owner, r.kind⟩

theorem expiriesOn_eq (l : Link) (s : State) :
    expiriesOn l s = s.table.toList.zipIdx.filterMap (expiryOn l) := by
  unfold expiriesOn
  congr 1
  funext ⟨⟨gen, record⟩, n⟩
  cases record with
  | none => rfl
  | some r =>
    simp only [Slot.expiring, expiryOn, Option.any_some, Option.filter_some]
    cases r.lease.any (fun m => decide (m.remaining ≤ 1)) <;>
      by_cases hl : ownerLink r.owner = l <;> simp [hl]

/-- A slot whose record ends at the next lease step, reported on a link (R12). -/
def Slot.expiringOn (l : Link) (x : Slot) : Bool :=
  x.record.any (fun r => r.lease.any (fun m => decide (m.remaining ≤ 1)) && ownerLink r.owner == l)

theorem expiringOn_iff {l : Link} {x : Slot} : x.expiringOn l = true ↔ ∃ r m, x.record = some r ∧
    r.lease = some m ∧ m.remaining ≤ 1 ∧ ownerLink r.owner = l := by
  simp only [Slot.expiringOn, Option.any_eq_true, Bool.and_eq_true, decide_eq_true_eq, beq_iff_eq]
  constructor
  · rintro ⟨r, hr, ⟨m, hm, hle⟩, hl⟩; exact ⟨r, m, hr, hm, hle, hl⟩
  · rintro ⟨r, m, hr, hm, hle, hl⟩; exact ⟨r, hr, ⟨m, hm, hle⟩, hl⟩

theorem expiryOn_isSome (l : Link) (x : Slot × Nat) : (expiryOn l x).isSome = x.1.expiringOn l := by
  obtain ⟨⟨gen, record⟩, n⟩ := x
  cases record with
  | none => rfl
  | some r =>
    simp only [expiryOn, Slot.expiringOn, Option.any_some, Option.isSome_map, Option.filter_some]
    split <;> simp_all

/-- How many expiries a lease step reports on a link. -/
theorem expiriesOn_length (l : Link) (s : State) :
    (expiriesOn l s).length = s.table.toList.countP (Slot.expiringOn l) := by
  have e : s.table.toList.countP (Slot.expiringOn l) =
      s.table.toList.zipIdx.countP (fun x => x.1.expiringOn l) := by
    conv_lhs => rw [← List.zipIdx_map_fst 0 s.table.toList]
    rw [List.countP_map]; rfl
  rw [expiriesOn_eq, List.length_filterMap_eq_countP, e]
  exact List.countP_congr fun x _ => by rw [expiryOn_isSome]

/-- The last expiry a link reports is the highest-numbered slot's (R12). -/
theorem expiriesOn_getLast {l : Link} {s : State} {i : Fin 39} {e : Expiry}
    (hi : expiryOn l (s.table[i.val], i.val) = some e)
    (hu : ∀ j : Fin 39, i < j → s.table[j.val].expiringOn l = false) :
    (expiriesOn l s).getLast? = some e := by
  have hlen : i.val < s.table.toList.zipIdx.length := by simp
  have hget : s.table.toList.zipIdx[i.val] = (s.table[i.val], i.val) := by simp
  have later : (s.table.toList.zipIdx.drop (i.val + 1)).filterMap (expiryOn l) = [] := by
    rw [List.filterMap_eq_nil_iff]
    intro x hx
    obtain ⟨n, hn, rfl⟩ := List.mem_iff_getElem.1 hx
    simp only [List.length_drop, List.length_zipIdx, Vector.length_toList] at hn
    rw [← Option.not_isSome_iff_eq_none, expiryOn_isSome]
    have := hu ⟨i.val + 1 + n, by omega⟩ (by simp [Fin.lt_def]; omega)
    simpa using this
  rw [expiriesOn_eq, ← List.take_append_drop i.val s.table.toList.zipIdx,
    List.drop_eq_getElem_cons hlen, hget, List.filterMap_append, List.filterMap_cons_some hi, later]
  simp

theorem leaseStepState_get (s : State) (i : Fin 39) :
    (leaseStepState s).table[i.val] = s.table[i.val].leaseStepped := by
  have e : (leaseStepState s).table = mapSlots Slot.leaseStepped s.table := by
    unfold leaseStepState; dsimp only; split <;> rfl
  simp only [e, mapSlots_get]

theorem leaseStepState_port (s : State) (l : Link) :
    (leaseStepState s).port l = (s.port l).expired (expiriesOn l s) := by
  unfold leaseStepState; dsimp only; split <;> cases l <;> rfl

/-- A port after expiries: untouched by none, else RECORD_EXPIRED, the count and the last (R12). -/
theorem expired_cases (p : Port) (es : List Expiry) :
    (es = [] → p.expired es = p) ∧
      (es ≠ [] → p.expired es = { p.raised .recordExpired with
        expiryCount := (p.expiryCount + es.length) % 256, lastExpiry := es.getLast? }) := by
  constructor
  · rintro rfl; rfl
  · intro h
    have e := List.getLast?_eq_some_getLast h
    simp only [Port.expired, e]

theorem any_slots {s : State} {p : Slot → Bool} :
    s.table.toList.any p = true ↔ ∃ i : Fin 39, p s.table[i.val] = true := by
  rw [List.any_eq_true]
  constructor
  · rintro ⟨x, hx, hp⟩
    obtain ⟨n, hn, rfl⟩ := Vector.mem_iff_getElem.1 (Vector.mem_toList_iff.1 hx)
    exact ⟨⟨n, hn⟩, hp⟩
  · rintro ⟨i, hp⟩
    exact ⟨_, Vector.mem_toList_iff.2 (Vector.getElem_mem i.isLt), hp⟩

theorem expiring_of_expiringOn {l : Link} {x : Slot} (h : x.expiringOn l = true) :
    x.expiring = true := by
  obtain ⟨r, m, hr, hm, hle, -⟩ := expiringOn_iff.1 h
  exact expiring_iff.2 ⟨r, m, hr, hm, hle⟩

/-- No slot that expires, no expiry to report. -/
theorem expiriesOn_nil {l : Link} {s : State} (h : ∀ i : Fin 39, s.table[i.val].expiring = false) :
    expiriesOn l s = [] := by
  rw [← List.length_eq_zero_iff, expiriesOn_length, ← countSlots_eq_countP, countSlots_zero]
  intro i
  by_contra hc
  have := expiring_of_expiringOn (Bool.not_eq_false _ ▸ hc)
  rw [h i] at this
  exact absurd this (by simp)

/-- A lease step without an expiry leaves envelope and links, and is then no EXPIRY (R11, R12). -/
theorem leaseStepState_quiet {s : State} (h : ∀ i : Fin 39, s.table[i.val].expiring = false) :
    (leaseStepState s).env = s.env ∧ (leaseStepState s).ports = s.ports ∧
      exec .expiry s = .next s := by
  have quiet : s.table.toList.any Slot.expiring = false := by
    rw [← Bool.not_eq_true, any_slots]
    simp [h]
  refine ⟨?_, ?_, ?_⟩
  · simp [leaseStepState, quiet]
  · simp only [leaseStepState, quiet, expiriesOn_nil h]; rfl
  · show Host.Outcome.next (whenItComesAbout expiryDue leaseStepState s) = _
    simp [whenItComesAbout, expiryDue, quiet]

/-- A lease step with an expiry is resolved, and is what EXPIRY does (R12, R31). -/
theorem leaseStepState_expires {s : State} {i : Fin 39} (h : s.table[i.val].expiring = true) :
    exec .expiry s = .next (leaseStepState s) ∧ ResolvedFrom s.env.applied (leaseStepState s) := by
  have due : s.table.toList.any Slot.expiring = true := any_slots.2 ⟨i, h⟩
  refine ⟨congrArg Host.Outcome.next (whenItComesAbout_of due), ?_⟩
  rw [leaseStepState, if_pos due]
  exact resolve_resolved _

/-- What a lease step leaves in a slot, by its record's lease (R11). -/
theorem leaseStepped_cases (x : Slot) :
    (∀ r l, x.record = some r → r.lease = some l → 1 < l.remaining →
      x.leaseStepped = ⟨x.gen, some { r with lease := some ⟨l.length, l.remaining - 1⟩ }⟩) ∧
    ((∀ r, x.record = some r → r.lease = none) → x.leaseStepped = x) := by
  obtain ⟨gen, record⟩ := x
  refine ⟨fun r l hr hl hlt => ?_, fun hno => ?_⟩
  · dsimp only at hr
    subst hr
    have : Slot.expiring ⟨gen, some r⟩ = false := by simp [Slot.expiring, hl, hlt]
    rw [leaseStepped_of_not_expiring this, Option.map_some, hl]
    rfl
  · cases record with
    | none => rfl
    | some r =>
      have hl := hno r rfl
      have : Slot.expiring ⟨gen, some r⟩ = false := by simp [Slot.expiring, hl]
      rw [leaseStepped_of_not_expiring this, Option.map_some, hl, Option.map_none, ← hl]

/-- A record that ends is reported on its owner's link (R12). -/
theorem expiryOn_of {x : Slot} {n : Nat} {r : Rec} {m : Lease} (hr : x.record = some r)
    (hm : r.lease = some m) (hle : m.remaining ≤ 1) :
    expiryOn (ownerLink r.owner) (x, n) = some ⟨⟨n, x.gen⟩, r.owner, r.kind⟩ := by
  simp [expiryOn, hr, hm, hle, Option.filter_some]

/-- Settles O19, slot by slot and link by link. -/
theorem Settled.leaseStepAndExpiry : Obligations.LeaseStepAndExpiry := by
  intro s
  refine ⟨leaseStepState s, rfl, fun i r l hr hl => ⟨fun hlt => ?_, fun hle => ?_⟩, fun i hno => ?_,
    fun l n hn => ?_, fun hall => leaseStepState_quiet fun i => ?_, ?_⟩
  · rw [leaseStepState_get]
    exact (leaseStepped_cases _).1 r l hr hl hlt
  · have he : s.table[i.val].expiring = true := expiring_iff.2 ⟨r, l, hr, hl, hle⟩
    have hon := expiryOn_of (n := i.val) hr hl hle
    obtain ⟨hexp, hres⟩ := leaseStepState_expires he
    have hne : expiriesOn (ownerLink r.owner) s ≠ [] := by
      rw [expiriesOn_eq, ne_eq, List.filterMap_eq_nil_iff]
      intro hall
      have := hall (s.table[i.val], i.val) (List.mem_zipIdx_iff_getElem?.2 (by simp))
      rw [hon] at this
      exact absurd this (by simp)
    have hport := (expired_cases (s.port (ownerLink r.owner)) _).2 hne
    refine ⟨?_, ?_, hexp, hres, fun hlast => ?_⟩
    · rw [leaseStepState_get, leaseStepped_of_expiring he, retired_eq]
    · rw [leaseStepState_port, hport]
      exact raised_pending .recordExpired _
    · rw [leaseStepState_port, hport]
      refine expiriesOn_getLast hon fun j hj => ?_
      by_contra hc
      obtain ⟨q, m, hq, hm, hmle, hown⟩ := expiringOn_iff.1 (Bool.not_eq_false _ ▸ hc)
      exact (hlast j q m hj hq hm).elim (fun h => absurd h (by omega)) fun h => h hown
  · rw [leaseStepState_get]
    exact (leaseStepped_cases _).2 hno
  · have hlen : (expiriesOn l s).length = n := (expiriesOn_length l s).trans hn.symm
    obtain ⟨hnil, hcons⟩ := expired_cases (s.port l) (expiriesOn l s)
    rw [leaseStepState_port]
    refine ⟨fun hz => hnil (List.length_eq_zero_iff.1 (hlen.trans hz)), fun hz => ?_⟩
    rw [hcons fun e => hz (by rw [← hlen, e]; rfl), hlen]
  · by_contra hc
    obtain ⟨r, l, hr, hl, hle⟩ := expiring_iff.1 (Bool.not_eq_false _ ▸ hc)
    exact absurd (hall i r l hr hl) (by omega)
  · unfold leaseStepState; dsimp only; split <;> rfl

end Sys2Proof.Machine
end

section
/-! ENTER_SEGMENT and LEAVE_SEGMENT (O23). -/

namespace Sys2Proof.Machine

theorem exec_enterSegment {h : Hdr} {id heading : Byte} {a : Owner} {s : State}
    (ha : authorityOf h = some a) (hw : a = .dispatch ∨ a = .autonomy) :
    exec (.enterSegment h id heading) s =
      .next ((enterSegmentWork id heading a s).1.exchanged h.link
        (answerOf h 0x23 (enterSegmentWork id heading a s).2)) :=
  congrArg Host.Outcome.next (takeRequest_of ha (by rcases hw with rfl | rfl <;> rfl))

theorem exec_leaveSegment {h : Hdr} {a : Owner} {s : State}
    (ha : authorityOf h = some a) (hw : a = .dispatch ∨ a = .autonomy) :
    exec (.leaveSegment h) s = .next ((leaveSegmentWork a s).1.exchanged h.link
      (answerOf h 0x24 (leaveSegmentWork a s).2)) :=
  congrArg Host.Outcome.next (takeRequest_of ha (by rcases hw with rfl | rfl <;> rfl))

/-- Senders other than DISPATCH and AUTONOMY may not enter or leave a segment (R185). -/
theorem dispatchOrAutonomy_false {h : Hdr} (h1 : authorityOf h ≠ some .dispatch)
    (h2 : authorityOf h ≠ some .autonomy) (a : Owner) (ha : authorityOf h = some a) :
    dispatchOrAutonomy a = false := by
  rw [ha] at h1 h2
  cases a <;> simp_all [dispatchOrAutonomy]

/-- A heading's code is the byte that named it (R40, R186). -/
theorem heading_code {heading : Byte} {hd : Heading} (h : headingOfCode heading = some hd) :
    u8 hd.code = [heading] := by
  have e : hd.code = heading.toNat := by
    unfold headingOfCode at h
    split at h <;> simp_all <;> subst h <;> rfl
  simp [u8, e]

/-- A preset leaves a wheel's record as R107's table says. -/
theorem afterPreset_preset (rated : Nat) (c : AdhesionClass) (g : Grip) :
    AfterPreset rated c g (g.preset rated c) := by
  refine ⟨?_, ?_⟩
  · rintro rfl; rfl
  · rintro f (⟨rfl, rfl⟩ | ⟨rfl, rfl⟩ | ⟨rfl, rfl⟩) <;> rfl

/-! ### What flips at a change of the current segment (R8, R46, R47) -/

theorem changeSegment_get (new : Option Nat) (hd : Heading) (s : State) (i : Fin 39) :
    (changeSegment new hd s).table[i.val] = s.table[i.val].flipped s.segs.current new :=
  mapSlots_get ..

/-- A slot's record at the entry to a segment. -/
theorem flipped_entry (old : Option Nat) (id : Nat) (x : Slot) :
    (x.flipped old (some id)).record = x.record.map (fun r =>
      if r.segment = some id then { r with active := true }
      else if r.segment ≠ none ∧ r.segment = old then { r with active := false } else r) := by
  rw [flipped_eq]
  refine congrArg (x.record.map ·) (funext fun r => ?_)
  by_cases h0 : r.segment = none
  · have h1 : ¬ r.segment = some id := by simp [h0]
    have h2 : ¬(r.segment ≠ none ∧ r.segment = old) := fun h => h.1 h0
    simp only [if_pos h0, if_neg h1, if_neg h2]
  · by_cases h1 : r.segment = some id
    · simp only [if_neg h0, if_pos h1]
    · by_cases h2 : r.segment = old
      · simp only [if_neg h0, if_neg h1, if_pos h2, if_pos (And.intro h0 h2)]
      · simp only [if_neg h0, if_neg h1, if_neg h2, if_neg fun h : _ ∧ _ => h2 h.2]

/-- A slot's record at the leaving of a segment. -/
theorem flipped_leave (id : Nat) (x : Slot) : (x.flipped (some id) none).record =
    x.record.map (fun r => if r.segment = some id then { r with active := false } else r) := by
  rw [flipped_eq]
  refine congrArg (x.record.map ·) (funext fun r => ?_)
  by_cases h0 : r.segment = none
  · have h1 : ¬ r.segment = some id := by simp [h0]
    simp only [if_pos h0, if_neg h1]
  · by_cases h1 : r.segment = some id
    · simp only [if_neg h0, if_pos h1]
    · simp only [if_neg h0, if_neg h1]

/-- A record with its state set again is another record exactly when the state differs. -/
theorem setActive_bne (r : Rec) (b : Bool) :
    (some { r with active := b } != some r) = (b != r.active) := by
  obtain ⟨o, k, sc, v, seg, l, im, act⟩ := r
  rw [Bool.eq_iff_iff, bne_iff_ne, bne_iff_ne]
  simp

/-- A slot flips at the entry to a segment. -/
theorem flips_entry (old : Option Nat) (id : Nat) : Slot.flips old (some id) = fun x =>
    x.record.any (fun r => (r.segment == some id && !r.active) ||
      (r.segment != some id && r.segment.isSome && r.segment == old && r.active)) := by
  funext x
  rw [Slot.flips, flipped_entry]
  cases x.record with
  | none => rfl
  | some r =>
    simp only [Option.map_some, Option.any_some]
    split
    · next h1 => rw [setActive_bne]; simp [h1]
    · next h1 =>
      split
      · next h2 =>
        obtain ⟨h2, rfl⟩ := h2
        rw [setActive_bne]
        simp [bne, beq_eq_false_iff_ne.2 h1, Option.isSome_iff_ne_none.2 h2]
      · next h2 =>
        have : (r.segment.isSome && r.segment == old) = false := by
          rw [← Bool.not_eq_true, Bool.and_eq_true, Option.isSome_iff_ne_none, beq_iff_eq]
          exact h2
        simp [h1, Bool.and_assoc, this]

/-- A slot flips at the leaving of a segment. -/
theorem flips_leave (id : Nat) : Slot.flips (some id) none = fun x =>
    x.record.any (fun r => r.segment == some id && r.active) := by
  funext x
  rw [Slot.flips, flipped_leave]
  cases x.record with
  | none => rfl
  | some r =>
    simp only [Option.map_some, Option.any_some]
    split
    · next h1 => rw [setActive_bne]; simp [h1]
    · next h1 => simp [h1]

/-! ### ENTER_SEGMENT and LEAVE_SEGMENT past their checks -/

theorem enterSegmentWork_done {id heading : Byte} {hd : Heading} {g : Segment} {a : Owner} {s : State}
    (hg : findSegment s id.toNat = some g) (hh : headingOfCode heading = some hd) :
    (s.segs.current = some id.toNat → enterSegmentWork id heading a s =
      ({ s with segs := { s.segs with heading := hd } }, .ok [id, heading, 0])) ∧
    (s.segs.current ≠ some id.toNat → enterSegmentWork id heading a s =
      (applyPreset g.cls (changeSegment (some id.toNat) hd s),
        .ok ([id, heading] ++ u8 (flipCount (some id.toNat) s)))) := by
  have hid : g.id = id.toNat := (mem_of_findSegment hg).2
  have hu : u8 id.toNat = [id] := by simp [u8]
  constructor <;> intro hc <;>
    simp only [enterSegmentWork, hg, hh, enterSegmentState, enterFlips, hid, hu, heading_code hh, hc,
      if_true, if_false]
  · rfl
  · rfl

/-- What either change of the current segment leaves besides the flips. -/
theorem changeSegment_frame (new : Option Nat) (hd : Heading) (s : State) :
    ResolvedFrom s.env.applied (changeSegment new hd s) ∧ changeSegment new hd s = { s with
      segs := { s.segs with current := new, heading := hd }
      table := (changeSegment new hd s).table
      env := (changeSegment new hd s).env } :=
  ⟨resolve_resolved _, rfl⟩

/-- Settles O23, by whether the current segment changes. -/
theorem Settled.segmentEntryAndLeave : Obligations.SegmentEntryAndLeave := by
  refine ⟨fun h a s ha hw => ⟨fun id heading hd g hg hh => ⟨fun hc => ?_, fun hc => ?_⟩, fun hc => ?_,
    fun id hc => ?_, fun id heading => ⟨fun hn => ?_, fun hs hn => ?_⟩⟩, fun h id heading s h1 h2 => ?_⟩
  · rw [exec_enterSegment ha hw, (enterSegmentWork_done hg hh).1 hc, answerOf_ok]
  · rw [exec_enterSegment ha hw, (enterSegmentWork_done hg hh).2 hc, answerOf_ok]
    refine ⟨_, _, rfl, rfl, fun i => ?_, ?_, (changeSegment_frame (some id.toNat) hd s).1, rfl,
      fun w => ?_, rfl⟩
    · have e : (applyPreset g.cls (changeSegment (some id.toNat) hd s)).table[i.val] = _ :=
        changeSegment_get (some id.toNat) hd s i
      rw [e, flipped_entry]
      exact ⟨rfl, rfl⟩
    · rw [flipCount, countSlots_eq_countP, flips_entry]
    · cases w <;> exact afterPreset_preset _ _ _
  · rw [exec_leaveSegment ha hw]
    simp only [leaveSegmentWork, hc]
    rfl
  · have e : leaveSegmentWork a s = (changeSegment none s.segs.heading s,
        .ok (u8 id ++ u8 (flipCount none s))) := by simp only [leaveSegmentWork, hc]
    rw [exec_leaveSegment ha hw, e, answerOf_ok]
    refine ⟨_, _, rfl, rfl, fun i => ?_, ?_, (changeSegment_frame none s.segs.heading s).1, rfl⟩
    · rw [changeSegment_get, hc, flipped_leave]
      exact ⟨rfl, rfl⟩
    · rw [flipCount, countSlots_eq_countP, hc, flips_leave]
  · rw [exec_enterSegment ha hw]
    simp only [enterSegmentWork, hn, answerOf_refuse]
  · obtain ⟨g, hg⟩ := Option.isSome_iff_exists.1 hs
    rw [exec_enterSegment ha hw]
    simp only [enterSegmentWork, hg, hn, answerOf_refuse]
  · exact ⟨congrArg Host.Outcome.next (takeRequest_refused (dispatchOrAutonomy_false h1 h2)),
      congrArg Host.Outcome.next (takeRequest_refused (dispatchOrAutonomy_false h1 h2))⟩

end Sys2Proof.Machine
end

section
/-! The ACTIVE records in slot order, what a resolution reads of them, and its value and binding (O20). -/

namespace Sys2Proof.Machine

/-! ### The ACTIVE records (R29) -/

/-- What the resolver reads of an ACTIVE external record under its handle (R29). -/
def Rec.read (r : Rec) (x : Handle) : ActiveRec := ⟨x, r.kind, r.scope, r.value⟩

/-- What the resolver reads of an ACTIVE governor record (R9, R29). -/
def Gov.read (g : Gov) (t : GovTable) : ActiveRec := ⟨⟨g.slot, 0⟩, g.kind, g.scope, (t.get g).value⟩

theorem activeOfSlot_eq_some {x : Slot} {n : Nat} {b : ActiveRec} : activeOfSlot (x, n) = some b ↔
    ∃ r, x.record = some r ∧ r.active = true ∧ r.read ⟨n, x.gen⟩ = b := by
  unfold activeOfSlot
  cases x.record with
  | none => simp
  | some r => by_cases ha : r.active = true <;> simp [ha, Rec.read]

theorem activeOfGov_eq_some {t : GovTable} {g : Gov} {b : ActiveRec} :
    activeOfGov t g = some b ↔ (t.get g).active = true ∧ g.read t = b := by
  unfold activeOfGov
  split <;> simp_all [Gov.read]

/-- A table's slots with their numbers. -/
theorem zipIdx_slots (t : Vector Slot 39) :
    t.toList.zipIdx = extSlots.map fun i => (t[i.val], i.val) := by
  apply List.ext_getElem <;> simp [extSlots]

theorem activeRecs_eq (s : State) : activeRecs s =
    extSlots.filterMap (fun i => activeOfSlot (s.table[i.val], i.val)) ++
      allGov.filterMap (activeOfGov s.gov) := by
  rw [activeRecs, zipIdx_slots, List.filterMap_map]
  rfl

theorem mem_allGov (g : Gov) : g ∈ allGov := by cases g <;> decide

/-- The records a resolution reads are the ACTIVE external and governor records. -/
theorem mem_activeRecs {s : State} {b : ActiveRec} : b ∈ activeRecs s ↔
    (∃ (i : Fin 39) (r : Rec), s.table[i.val].record = some r ∧ r.active = true ∧
      r.read (handleOf s i) = b) ∨
    ∃ g : Gov, (s.gov.get g).active = true ∧ g.read s.gov = b := by
  simp only [activeRecs_eq, List.mem_append, List.mem_filterMap, activeOfSlot_eq_some,
    activeOfGov_eq_some, mem_allGov, true_and, extSlots, List.mem_finRange]
  rfl

/-- Slot order: the order in which the resolver reads the records (R30). -/
def ActiveRec.Before (a b : ActiveRec) : Prop := a.handle.slot < b.handle.slot

theorem activeRecs_sorted (s : State) : (activeRecs s).Pairwise ActiveRec.Before := by
  rw [activeRecs_eq, List.pairwise_append]
  simp only [List.pairwise_filterMap, List.mem_filterMap, activeOfSlot_eq_some, activeOfGov_eq_some]
  refine ⟨(List.pairwise_lt_finRange 39).imp ?_, ?_, ?_⟩
  · rintro i j hij _ ⟨r, -, -, rfl⟩ _ ⟨q, -, -, rfl⟩
    exact hij
  · have : allGov.Pairwise fun g g' => g.slot < g'.slot := by decide
    refine this.imp ?_
    rintro g g' h _ ⟨-, rfl⟩ _ ⟨-, rfl⟩
    exact h
  · rintro _ ⟨i, -, r, -, -, rfl⟩ _ ⟨g, -, -, rfl⟩
    exact Nat.lt_of_lt_of_le i.isLt (gov_slot_range g).1

theorem mem_covering {rs : List ActiveRec} {w : Wheel} {k : Kind} {b : ActiveRec} :
    b ∈ covering rs w k ↔ b ∈ rs ∧ b.kind = k ∧ b.scope.covers w = true := by
  simp [covering]

/-! ### The value and the binding record (R29, R30) -/

theorem resolveBound_unbound {d : Nat} {rs : List ActiveRec}
    (h : (resolveBound d rs).handle = none) : (resolveBound d rs).value = d ∧
      ∀ r ∈ rs, r.value ≠ (resolveBound d rs).value := by
  have hne : ∀ r ∈ rs, r.value ≠ leastValue d rs := by
    simpa [resolveBound] using h
  refine ⟨(leastValue_attained d rs).resolve_right ?_, hne⟩
  rintro ⟨r, hr, he⟩
  exact hne r hr he

theorem resolveBound_bound {d : Nat} {rs : List ActiveRec} {x : Handle}
    (hs : rs.Pairwise ActiveRec.Before) (h : (resolveBound d rs).handle = some x) :
    ∃ r ∈ rs, r.handle = x ∧ r.value = (resolveBound d rs).value ∧
      ∀ q ∈ rs, q.Before r → q.value ≠ (resolveBound d rs).value := by
  obtain ⟨r, hf, rfl⟩ := Option.map_eq_some_iff.1 h
  obtain ⟨hv, as, bs, rfl, has⟩ := List.find?_eq_some_iff_append.1 hf
  refine ⟨r, by simp, rfl, by simpa [resolveBound] using hv, fun q hq hb => ?_⟩
  obtain ⟨-, hrbs, -⟩ := List.pairwise_append.1 hs
  rcases List.mem_append.1 hq with hq | hq
  · simpa [resolveBound] using has q hq
  · rcases List.mem_cons.1 hq with rfl | hq
    · exact absurd hb (Nat.lt_irrefl _)
    · exact absurd hb (Nat.lt_asymm ((List.pairwise_cons.1 hrbs).1 q hq))

/-- Settles O20, record by record of the covering list, which is in slot order. -/
theorem Settled.resolutionIsLeast : Obligations.ResolutionIsLeast := by
  intro s w k
  have ext (i : Fin 39) (r : Rec) (hr : s.table[i.val].record = some r) (ha : r.active = true)
      (hk : r.kind = k) (hc : r.scope.covers w = true) :
      r.read (handleOf s i) ∈ covering (activeRecs s) w k :=
    mem_covering.2 ⟨mem_activeRecs.2 (.inl ⟨i, r, hr, ha, rfl⟩), hk, hc⟩
  have gov (g : Gov) (ha : (s.gov.get g).active = true) (hk : g.kind = k)
      (hc : g.scope.covers w = true) : g.read s.gov ∈ covering (activeRecs s) w k :=
    mem_covering.2 ⟨mem_activeRecs.2 (.inr ⟨g, ha, rfl⟩), hk, hc⟩
  refine ⟨leastValue_le_default _ _, fun i r hr ha hk hc => leastValue_le (ext i r hr ha hk hc),
    fun g ha hk hc => leastValue_le (gov g ha hk hc), fun hn => ?_, fun x hx => ?_⟩
  · obtain ⟨hd, hne⟩ := resolveBound_unbound hn
    exact ⟨hd, fun i r hr ha hk hc => hne _ (ext i r hr ha hk hc),
      fun g ha hk hc => hne _ (gov g ha hk hc)⟩
  · obtain ⟨b, hb, rfl, hv, hlow⟩ :=
      resolveBound_bound ((activeRecs_sorted s).sublist List.filter_sublist) hx
    obtain ⟨hb, hk, hc⟩ := mem_covering.1 hb
    rcases mem_activeRecs.1 hb with ⟨i, r, hr, ha, rfl⟩ | ⟨g, ha, rfl⟩
    · exact .inl ⟨i, r, rfl, hr, ha, hk, hc, hv, fun j q hj hq hqa hqk hqc =>
        hlow _ (ext j q hq hqa hqk hqc) hj⟩
    · have below (j : Fin 39) : j.val < g.slot :=
        Nat.lt_of_lt_of_le j.isLt (gov_slot_range g).1
      exact .inr ⟨g, rfl, ha, hk, hc, hv, fun j q hq hqa hqk hqc =>
        hlow _ (ext j q hq hqa hqk hqc) (below j), fun g' hg' ha' hk' hc' =>
        hlow _ (gov g' ha' hk' hc') hg'⟩

end Sys2Proof.Machine
end

section
/-! ENVELOPE_STEP (O21). -/

namespace Sys2Proof.Machine

/-- Settles O21, by the branches of `slewApplied`. -/
theorem Settled.envelopeStep : Obligations.EnvelopeStep := by
  intro s
  refine ⟨_, rfl, fun hle => if_pos hle, fun hlt => ⟨fun him => ?_,
    fun him => ⟨fun hs => ?_, fun hs => ?_⟩⟩⟩
  all_goals rw [slewApplied, if_neg (Nat.not_le.2 hlt)]
  · rw [if_pos him]
  · rw [if_neg (by simp [him]), slewBase, if_neg hs]
  · rw [if_neg (by simp [him]), slewBase, if_pos hs]

end Sys2Proof.Machine
end

section
/-! SET_PARAM (O15). -/

namespace Sys2Proof.Machine

/-! ### Parameters written and read (R190) -/

theorem paramIndex_injective : Function.Injective Param.index := by
  intro p q h
  have hp := paramOfIndex_index (b := BitVec.ofNat 8 p.index.val) (p := p) (by simp; omega)
  have hq := paramOfIndex_index (b := BitVec.ofNat 8 p.index.val) (p := q) (by simp [← h]; omega)
  exact Option.some.inj (hp.symm.trans hq)

@[simp] theorem setParamValue_param (s : State) (p : Param) (v : Nat) :
    (s.setParamValue p v).param p = v := by
  simp [State.setParamValue, State.param]

theorem setParamValue_param_other {s : State} {p q : Param} {v : Nat} (h : q ≠ p) :
    (s.setParamValue p v).param q = s.param q :=
  Vector.getElem_set_ne p.index.isLt q.index.isLt fun e => h (paramIndex_injective (Fin.ext e)).symm

/-! ### What a change of a parameter brings at its event (R28, R98, R167, R190) -/

/-- A parameter is a default of R28, or P_STRUT_AREA, or its change brings nothing else. -/
theorem paramEffect_cases (p : Param) :
    (∃ k : Kind, k.default = p) ∨ p = .strutArea ∨ ∀ s, paramEffect p s = s := by
  cases p
  case speedRated => exact .inl ⟨.speedMax, rfl⟩
  case propelRated => exact .inl ⟨.propelTorque, rfl⟩
  case retardRated => exact .inl ⟨.retardTorque, rfl⟩
  case wheelRated => exact .inl ⟨.wheelTorque, rfl⟩
  case powerRated => exact .inl ⟨.propelPower, rfl⟩
  case steerAngleRated => exact .inl ⟨.steerAngle, rfl⟩
  case steerRateRated => exact .inl ⟨.steerRate, rfl⟩
  case strutArea => exact .inr (.inl rfl)
  all_goals exact .inr (.inr fun _ => rfl)

/-- A changed default is resolved; P_WHEEL_RATED is reclamped besides. -/
theorem paramEffect_default (k : Kind) (s : State) : paramEffect k.default s =
    { resolve s with grip := if k = .wheelTorque then (reclamp s).grip else s.grip } := by
  cases k <;> rfl

theorem default_eq_wheelRated {k : Kind} : k.default = .wheelRated ↔ k = .wheelTorque := by
  cases k <;> decide

/-- What a change of a parameter can touch. -/
theorem paramEffect_frame (p : Param) (s : State) : paramEffect p s = { s with
    env := (paramEffect p s).env, grip := (paramEffect p s).grip, load := (paramEffect p s).load } := by
  rcases paramEffect_cases p with ⟨k, rfl⟩ | rfl | h
  · rw [paramEffect_default]; rfl
  · rfl
  · rw [h]

/-- Each block that a change of a parameter can touch is touched by the parameters named for it. -/
theorem paramEffect_untouched (p : Param) (s : State) :
    ((∀ k : Kind, k.default ≠ p) → (paramEffect p s).env = s.env) ∧
      (p ≠ .wheelRated → (paramEffect p s).grip = s.grip) ∧
      (p ≠ .strutArea → (paramEffect p s).load = s.load) := by
  rcases paramEffect_cases p with ⟨k, rfl⟩ | rfl | h
  · rw [paramEffect_default]
    exact ⟨fun h => absurd rfl (h k), fun h => if_neg (mt default_eq_wheelRated.2 h), fun _ => rfl⟩
  · exact ⟨fun _ => rfl, fun _ => rfl, fun h => absurd rfl h⟩
  · rw [h]
    exact ⟨fun _ => rfl, fun _ => rfl, fun _ => rfl⟩

/-- A changed default leaves the envelope resolved (R28, R31). -/
theorem paramEffect_resolved (k : Kind) (s : State) :
    ResolvedFrom s.env.applied (paramEffect k.default s) := by
  rw [paramEffect_default]
  exact resolve_resolved s

/-- A wheel's adhesion record after a reclamp (R98). -/
theorem reclamp_grip (s : State) (w : Wheel) :
    (reclamp s).grip.get w = (s.grip.get w).reclamped (s.param .wheelRated) := by
  cases w <;> rfl

/-! ### SET_PARAM past its checks, and its checks (R190) -/

theorem setParamState_same {p : Param} {v : Nat} {s : State} (h : s.param p = v) :
    setParamState p v s = s := if_pos h

theorem setParamState_changed {p : Param} {v : Nat} {s : State} (h : s.param p ≠ v) :
    setParamState p v s = paramEffect p (s.setParamValue p v) := if_neg h

theorem setParamState_param (p q : Param) (v : Nat) (s : State) :
    (setParamState p v s).param q = if q = p then v else s.param q := by
  by_cases h : s.param p = v
  · rw [setParamState_same h]
    split
    · next hq => rw [hq, h]
    · rfl
  · rw [setParamState_changed h, paramEffect_frame]
    show (s.setParamValue p v).param q = _
    split
    · next hq => rw [hq, setParamValue_param]
    · next hq => exact setParamValue_param_other hq

/-- The frame of a SET_PARAM. -/
theorem setParamState_frame (p : Param) (v : Nat) (s : State) : setParamState p v s = { s with
    params := (setParamState p v s).params, env := (setParamState p v s).env
    grip := (setParamState p v s).grip, load := (setParamState p v s).load } := by
  by_cases h : s.param p = v
  · rw [setParamState_same h]
  · rw [setParamState_changed h, paramEffect_frame]; rfl

theorem setParamState_untouched (p : Param) (v : Nat) (s : State) :
    ((∀ k : Kind, k.default ≠ p) → (setParamState p v s).env = s.env) ∧
      (p ≠ .wheelRated → (setParamState p v s).grip = s.grip) ∧
      (p ≠ .strutArea → (setParamState p v s).load = s.load) := by
  by_cases h : s.param p = v
  · rw [setParamState_same h]
    exact ⟨fun _ => rfl, fun _ => rfl, fun _ => rfl⟩
  · rw [setParamState_changed h]
    exact paramEffect_untouched p (s.setParamValue p v)

/-- Who passes PARAM_GUARD (R190). -/
theorem paramAuthority_iff {g : ParamGuard} {a : Owner} :
    paramAuthority g a = true ↔ g = .opened ∨ a = .safety := by
  cases g <;> simp [paramAuthority]

theorem exec_setParam {h : Hdr} {index : Byte} {value : Half} {a : Owner} {s : State}
    (ha : authorityOf h = some a) (hg : s.straps.paramGuard = .opened ∨ a = .safety) :
    exec (.setParam h index value) s =
      .next ((setParamWork index value a s).1.exchanged h.link
        (answerOf h 0x63 (setParamWork index value a s).2)) :=
  congrArg Host.Outcome.next (takeRequest_of ha (paramAuthority_iff.2 hg))

theorem setParamWork_done {index : Byte} {value : Half} {a : Owner} {p : Param} {s : State}
    (hp : p.index.val = index.toNat) (hd : s.drive.state = .parked) (hl : p.range.1 ≤ value.toNat)
    (hh : value.toNat ≤ p.range.2) : setParamWork index value a s =
      (setParamState p value.toNat s,
        .ok (u8 index.toNat ++ u16 (s.param p) ++ u16 value.toNat)) := by
  have hr : ¬(value.toNat < p.range.1 ∨ p.range.2 < value.toNat) := by omega
  simp only [setParamWork, paramOfIndex_index hp, hd, ne_eq, not_true_eq_false, if_false, if_neg hr]

/-- Every index up to 45 is a parameter's (R190). -/
theorem exists_paramOfIndex {b : Byte} (h : b.toNat ≤ 45) : ∃ p, paramOfIndex b = some p := by
  rw [← Option.isSome_iff_exists, paramOfIndex, isSome_getElem?]
  exact Nat.lt_succ_of_le h

/-- Settles O15: a SET_PARAM past its checks is `setParamState`, whose effects go by the parameter. -/
theorem Settled.setParam : Obligations.SetParam := by
  refine ⟨fun h index value a p s ha hg hp hd hl hh => ?_, fun h index value s => ⟨fun hr => ?_,
    fun ha hg => ?_⟩⟩
  · rw [exec_setParam ha hg, setParamWork_done hp hd hl hh, answerOf_ok]
    refine ⟨_, rfl, by rw [setParamState_param, if_pos rfl], fun q hq => by
      rw [setParamState_param, if_neg hq], setParamState_frame p _ s, setParamState_same,
      fun hne => ?_, setParamState_untouched p _ s⟩
    rw [setParamState_changed hne]
    refine ⟨?_, ?_, ?_⟩
    · rintro ⟨k, rfl⟩
      exact paramEffect_resolved k _
    · rintro rfl w
      have e := reclamp_grip (s.setParamValue .wheelRated value.toNat) w
      rw [setParamValue_param] at e
      exact e
    · rintro rfl; rfl
  · refine congrArg Host.Outcome.next (takeRequest_refused fun a ha => ?_)
    rw [← Bool.not_eq_true, paramAuthority_iff]
    rcases hr with hr | ⟨hr, hs⟩
    · rw [hr] at ha; cases ha
    · rintro (h1 | rfl)
      · rw [hr] at h1; cases h1
      · exact hs ha
  · obtain ⟨a, ha⟩ := Option.ne_none_iff_exists'.1 ha
    have hg : s.straps.paramGuard = .opened ∨ a = .safety :=
      hg.imp_right fun e => Option.some.inj (ha.symm.trans e)
    rw [exec_setParam ha hg]
    refine ⟨fun hi => ?_, fun hi hd => ?_, fun p hp hd hv => ?_⟩
    · rw [setParamWork, paramOfIndex_none hi, answerOf_refuse]
    · obtain ⟨p, hp⟩ := exists_paramOfIndex hi
      simp only [setParamWork, hp, if_pos hd, answerOf_refuse]
    · simp only [setParamWork, paramOfIndex_index hp, hd, ne_eq, not_true_eq_false, if_false,
        if_pos hv, answerOf_refuse]

end Sys2Proof.Machine
end

section
/-! What keeps the envelope resolved: a resolution, and a change that a resolution does not read (R28 to
R33). -/

namespace Sys2Proof.Machine

/-! ### What a resolution reads (R28 to R30) -/

/-- What a resolution reads stands, and the envelope with it. -/
structure SameResolution (s t : State) : Prop where
  records : activeRecs t = activeRecs s
  defaults : ∀ k : Kind, t.param k.default = s.param k.default
  env : t.env = s.env

theorem resolveWheel_congr {s t : State} (hr : activeRecs t = activeRecs s)
    (hd : ∀ k : Kind, t.param k.default = s.param k.default) (w : Wheel) :
    resolveWheel t w = resolveWheel s w := by
  simp only [resolveWheel, resolveKind, hr, hd]

theorem EnvelopeResolved.same {s t : State} (h : EnvelopeResolved s) (e : SameResolution s t) :
    EnvelopeResolved t := by
  unfold EnvelopeResolved
  simp only [resolveWheel_congr e.records e.defaults, e.env]
  exact h

/-- The governor records, the parameters and the envelope stand. -/
structure SameLimits (s t : State) : Prop where
  gov : t.gov = s.gov
  params : t.params = s.params
  env : t.env = s.env

theorem SameLimits.refl (s : State) : SameLimits s s := ⟨rfl, rfl, rfl⟩

/-- A resolution reads a slot as before when the resolver sees in it what it saw before. -/
theorem SameLimits.resolution {s t : State} (e : SameLimits s t)
    (ht : ∀ i : Fin 39,
      activeOfSlot (t.table[i.val], i.val) = activeOfSlot (s.table[i.val], i.val)) :
    SameResolution s t :=
  ⟨by simp only [activeRecs_eq, ht, e.gov], fun k => by simp only [State.param, e.params], e.env⟩

theorem EnvelopeResolved.sameTable {s t : State} (h : EnvelopeResolved s) (ht : t.table = s.table)
    (e : SameLimits s t) : EnvelopeResolved t :=
  h.same (e.resolution fun i => by rw [ht])

/-! ### Resolutions (R31, R32) -/

/-- A resolution leaves A at or above E(SPEED_MAX), whatever A was. -/
theorem ResolvedFrom.envelopeResolved {a : Nat} {s : State} (h : ResolvedFrom a s) :
    EnvelopeResolved s := by
  obtain ⟨hl, hr, ha⟩ := h
  refine ⟨hl, hr, ?_⟩
  rw [ha]
  split
  · exact Nat.le_refl _
  · next hno => exact Nat.le_of_not_le fun hle => hno (.inl hle)

theorem resolve_envelopeResolved (s : State) : EnvelopeResolved (resolve s) :=
  (resolve_resolved s).envelopeResolved

/-- A hand-over that changes no governor record needs no resolution (R9, R10). -/
theorem EnvelopeResolved.updateGov {s : State} (us : List (Gov × Option Nat))
    (h : EnvelopeResolved s) : EnvelopeResolved (updateGov us s) := by
  rcases updateGov_cases us s with ⟨-, e⟩ | ⟨-, e⟩ <;> rw [e]
  · exact h
  · exact resolve_envelopeResolved _

/-- An envelope step leaves A at or above E(SPEED_MAX) (R33). -/
theorem le_slewApplied (e : Nat) (im : Bool) (a base slew : Nat) :
    e ≤ slewApplied e im a base slew := by
  unfold slewApplied
  split
  · exact Nat.le_refl e
  split
  · exact Nat.le_refl e
  · exact Nat.le_max_left _ _

theorem EnvelopeResolved.envelopeStep {s : State} (h : EnvelopeResolved s) :
    EnvelopeResolved (envelopeStepState s) := by
  obtain ⟨hl, hr, -⟩ := h
  exact ⟨hl, hr, le_slewApplied _ _ _ _ _⟩

/-! ### The Limit Table's requests and its lease step (R10 to R18) -/

/-- A record rewritten in what the resolver does not read (R10, R15, R16). -/
theorem setRecord_sameResolution {s : State} {i : Fin 39} {r q : Rec}
    (hr : s.table[i.val].record = some r) (ha : q.active = r.active) (hq : q.read = r.read) :
    SameResolution s (setRecord i q s) := by
  refine SameLimits.resolution ⟨rfl, rfl, rfl⟩ fun j => ?_
  rw [setRecord_get]
  split
  · next hj =>
    subst hj
    ext b
    simp [activeOfSlot_eq_some, hr, ha, hq]
  · rfl

theorem placeRecord_resolved {s : State} {q : Rec} (h : EnvelopeResolved s) :
    EnvelopeResolved (placeRecord s q).1 := by
  unfold placeRecord
  split
  · exact h
  split
  · exact h
  · exact resolve_envelopeResolved _

theorem placeWork_resolved {s : State} {kind scope segment immediate : Byte} {value lease : Half}
    {a : Owner} (h : EnvelopeResolved s) :
    EnvelopeResolved (placeWork kind scope value segment lease immediate a s).1 := by
  unfold placeWork
  split
  · exact h
  split
  · exact h
  split
  · exact h
  split
  · exact h
  split
  · exact h
  split
  · exact h
  · exact placeRecord_resolved h

theorem amendRecord_resolved {s : State} {i : Fin 39} {r : Rec} {v : Nat} {l : Option Lease}
    (h : EnvelopeResolved s) (hr : s.table[i.val].record = some r) :
    EnvelopeResolved (amendRecord s i r v l) := by
  unfold amendRecord
  dsimp only
  split
  · next hv => exact h.same (setRecord_sameResolution hr rfl (by rw [hv]; rfl))
  · exact resolve_envelopeResolved _

theorem amendWork_resolved {s : State} {slot gen action : Byte} {value length : Half} {a : Owner}
    (h : EnvelopeResolved s) :
    EnvelopeResolved (amendWork slot gen value action length a s).1 := by
  unfold amendWork
  split
  · exact h
  · exact h
  next i r hm =>
  split
  · exact h
  split
  · exact h
  split
  · exact h
  split
  · exact h
  · exact amendRecord_resolved h (matchHandle_some hm)

theorem renewWork_resolved {s : State} {slot gen : Byte} {a : Owner} (h : EnvelopeResolved s) :
    EnvelopeResolved (renewWork slot gen a s).1 := by
  unfold renewWork
  split
  · exact h
  · exact h
  next i r hm =>
  split
  · exact h
  split
  · exact h
  · exact h.same (setRecord_sameResolution (matchHandle_some hm) rfl rfl)

theorem retireWork_resolved {s : State} {slot gen : Byte} {a : Owner} (h : EnvelopeResolved s) :
    EnvelopeResolved (retireWork slot gen a s).1 := by
  unfold retireWork
  split
  · exact h
  · exact h
  split
  · exact h
  · exact resolve_envelopeResolved _

theorem retireOwnerWork_resolved {s : State} {owner : Byte} {a : Owner} (h : EnvelopeResolved s) :
    EnvelopeResolved (retireOwnerWork owner a s).1 := by
  unfold retireOwnerWork
  split
  · exact h
  split
  · exact h
  split
  · exact h
  dsimp only
  split
  · exact h
  · exact resolve_envelopeResolved _

/-- A lease count is not the resolver's to read (R10, R11). -/
theorem leaseStepped_activeOfSlot {x : Slot} (n : Nat) (h : x.expiring = false) :
    activeOfSlot (x.leaseStepped, n) = activeOfSlot (x, n) := by
  rw [leaseStepped_of_not_expiring h]
  ext b
  simp [activeOfSlot_eq_some, Rec.read]

/-- A lease step is resolved at an expiry, and counts leases alone without one (R11, R12). -/
theorem leaseStepState_resolved {s : State} (h : EnvelopeResolved s) :
    EnvelopeResolved (leaseStepState s) := by
  by_cases he : ∃ i : Fin 39, s.table[i.val].expiring = true
  · obtain ⟨i, hi⟩ := he
    exact (leaseStepState_expires hi).2.envelopeResolved
  · have quiet (i : Fin 39) : s.table[i.val].expiring = false :=
      Bool.eq_false_iff.2 fun hi => he ⟨i, hi⟩
    refine h.same (SameLimits.resolution ⟨?_, ?_, (leaseStepState_quiet quiet).1⟩ fun i => ?_)
    · unfold leaseStepState; dsimp only; split <;> rfl
    · unfold leaseStepState; dsimp only; split <;> rfl
    · rw [leaseStepState_get, leaseStepped_activeOfSlot _ (quiet i)]

/-! ### The Segment Table's requests (R43 to R47) -/

theorem changeSegment_resolved (new : Option Nat) (hd : Heading) (s : State) :
    EnvelopeResolved (changeSegment new hd s) := resolve_envelopeResolved _

theorem loadSegmentWork_resolved {s : State} {id cls : Byte} {grade rr : Half} {a : Owner}
    (h : EnvelopeResolved s) : EnvelopeResolved (loadSegmentWork id grade rr cls a s).1 := by
  unfold loadSegmentWork
  (repeat' split) <;> exact h

theorem amendSegmentWork_resolved {s : State} {id cls : Byte} {grade rr : Half} {a : Owner}
    (h : EnvelopeResolved s) : EnvelopeResolved (amendSegmentWork id grade rr cls a s).1 := by
  unfold amendSegmentWork amendSegmentState
  dsimp only
  (repeat' split) <;> exact h

theorem retireSegmentWork_resolved {s : State} {id : Byte} {a : Owner} (h : EnvelopeResolved s) :
    EnvelopeResolved (retireSegmentWork id a s).1 := by
  unfold retireSegmentWork
  (repeat' split) <;> exact h

theorem enterSegmentWork_resolved {s : State} {id heading : Byte} {a : Owner}
    (h : EnvelopeResolved s) : EnvelopeResolved (enterSegmentWork id heading a s).1 := by
  unfold enterSegmentWork
  split
  · exact h
  split
  · exact h
  dsimp only
  unfold enterSegmentState
  split
  · exact h
  · exact changeSegment_resolved _ _ s

theorem leaveSegmentWork_resolved {s : State} {a : Owner} (h : EnvelopeResolved s) :
    EnvelopeResolved (leaveSegmentWork a s).1 := by
  unfold leaveSegmentWork
  split
  · exact h
  · exact changeSegment_resolved _ _ s

/-! ### SET_PARAM (R28, R190) -/

/-- A changed default is resolved; no other parameter is read by a resolution (R28). -/
theorem setParamState_resolved {p : Param} {v : Nat} {s : State} (h : EnvelopeResolved s) :
    EnvelopeResolved (setParamState p v s) := by
  by_cases hv : s.param p = v
  · rwa [setParamState_same hv]
  by_cases hk : ∃ k : Kind, k.default = p
  · obtain ⟨k, rfl⟩ := hk
    rw [setParamState_changed hv]
    exact (paramEffect_resolved k _).envelopeResolved
  · have hk (k : Kind) : k.default ≠ p := fun e => hk ⟨k, e⟩
    refine h.same ⟨?_, fun k => ?_, (setParamState_untouched p v s).1 hk⟩
    · rw [setParamState_frame]; rfl
    · rw [setParamState_param, if_neg (hk k)]

theorem setParamWork_resolved {s : State} {index : Byte} {value : Half} {a : Owner}
    (h : EnvelopeResolved s) : EnvelopeResolved (setParamWork index value a s).1 := by
  unfold setParamWork
  split
  · exact h
  split
  · exact h
  split
  · exact h
  · exact setParamState_resolved h

/-! ### Restarts (R37, R38, R181) -/

/-- A warm restart leaves the envelope resolved, with A at E(SPEED_MAX) (R38). -/
theorem warmRestart_resolved (s : State) : EnvelopeResolved (warmRestart s) := by
  obtain ⟨-, -, ⟨hl, hr, ha⟩, -⟩ := afterWarm_warmRestart s
  exact ⟨hl, hr, ha.ge⟩

theorem isCold_resolved {straps : Straps} {b : Bool} {t : State} (h : IsCold straps b t) :
    EnvelopeResolved t := by
  obtain ⟨p, q, level, n, l, rfl⟩ := h
  exact cold_resolved straps b

theorem restartState_resolved {s : State} (hdr : Hdr) (kind : Byte) (h : EnvelopeResolved s) :
    EnvelopeResolved (restartState hdr kind s) := by
  unfold restartState
  split
  · exact h
  split
  · exact h
  dsimp only
  split
  · exact isCold_resolved (coldRestart_isCold _)
  · exact warmRestart_resolved _

theorem restartInputState_resolved {s : State} (level : Bool) (h : EnvelopeResolved s) :
    EnvelopeResolved (restartInputState level s) := by
  unfold restartInputState
  dsimp only
  split
  · exact warmRestart_resolved _
  · exact h

/-! ### Steps that hand updates to the Limit Table (R52, R113, R139, R157) -/

theorem windowState_resolved {s : State} (i : WindowIn) (h : EnvelopeResolved s) :
    EnvelopeResolved (windowState i s) := by
  have hu := EnvelopeResolved.updateGov (s := { s with speed := unitSelected i s })
    [(.sourceSpeed, sourceSpeedUpdate { s with speed := unitSelected i s })] h
  refine hu.sameTable ?_ ⟨?_, ?_, ?_⟩ <;> unfold windowState windowHanded <;> dsimp only <;>
    split <;> simp

theorem capacityStepState_resolved {s : State} (i : CapacityIn) (h : EnvelopeResolved s) :
    EnvelopeResolved (capacityStepState i s) := by
  have hu := EnvelopeResolved.updateGov (s := { s with retard := capacityUnit i s })
    (capacityUpdates i s) h
  refine hu.sameTable ?_ ⟨?_, ?_, ?_⟩ <;> unfold capacityStepState <;> dsimp only <;>
    split <;> simp

theorem steerStepState_resolved {s : State} (i : SteerIn) (h : EnvelopeResolved s) :
    EnvelopeResolved (steerStepState i s) := by
  have hu := EnvelopeResolved.updateGov (s := { s with steer := steerUnit i s }) (steerUpdates i s) h
  refine hu.sameTable ?_ ⟨?_, ?_, ?_⟩ <;> simp [steerStepState]

theorem loadWindowState_resolved {s : State} (p : Four Nat) (h : EnvelopeResolved s) :
    EnvelopeResolved (loadWindowState p s) := by
  have hu := EnvelopeResolved.updateGov (s := { s with load := loadUnit p s }) (loadUpdates p s) h
  refine hu.sameTable ?_ ⟨?_, ?_, ?_⟩ <;> simp [loadWindowState]

end Sys2Proof.Machine
end

section
/-! The other commands leave the limits as they are; every step keeps the envelope resolved (O55). -/

namespace Sys2Proof.Machine

/-! ### Requests of the other chapters -/

section
variable (s : State) (a : Owner)

theorem speedFixWork_limits (v q : Half) : SameLimits s (speedFixWork v q a s).1 := by
  unfold speedFixWork; split <;> exact ⟨rfl, rfl, rfl⟩

theorem selectWork_limits (b : Byte) : SameLimits s (selectWork b a s).1 := by
  unfold selectWork
  (repeat' split) <;> exact ⟨rfl, rfl, rfl⟩

theorem lockWork_limits : SameLimits s (lockWork a s).1 := by
  unfold lockWork; dsimp only; split <;> exact ⟨rfl, rfl, rfl⟩

theorem setDemandWork_limits (d st : Half) (b : Byte) :
    SameLimits s (setDemandWork d st b a s).1 := by
  unfold setDemandWork demandTaken
  dsimp only
  (repeat' split) <;> exact ⟨rfl, rfl, rfl⟩

theorem parkState_limits : SameLimits s (parkState s) := by
  unfold parkState; split <;> constructor <;> simp

theorem parkWork_limits : SameLimits s (parkWork a s).1 := by
  unfold parkWork
  split
  · exact .refl s
  split
  · exact .refl s
  split
  · exact .refl s
  · exact parkState_limits s

theorem unparkWork_limits : SameLimits s (unparkWork a s).1 := by
  unfold unparkWork
  (repeat' split) <;> constructor <;> simp [driveDone, unparkState]

theorem clearHoldWork_limits : SameLimits s (clearHoldWork a s).1 := by
  unfold clearHoldWork
  (repeat' split) <;> constructor <;> simp [driveDone, clearHoldState]

theorem safetyHoldWork_limits : SameLimits s (safetyHoldWork a s).1 := by
  unfold safetyHoldWork; split <;> constructor <;> simp [driveDone]

theorem tripWork_limits : SameLimits s (tripWork a s).1 := by
  constructor <;> simp [tripWork, driveDone]

theorem resetTripWork_limits : SameLimits s (resetTripWork a s).1 := by
  unfold resetTripWork
  (repeat' split) <;> constructor <;> simp [driveDone]

theorem setModeWork_limits (m : Byte) : SameLimits s (setModeWork m a s).1 := by
  unfold setModeWork
  (repeat' split) <;> exact ⟨rfl, rfl, rfl⟩

theorem clearGridWork_limits (g : Byte) : SameLimits s (clearGridWork g a s).1 := by
  unfold clearGridWork
  (repeat' split) <;> exact ⟨rfl, rfl, rfl⟩

theorem startSweepWork_limits (l : Link) (g0 gs m0 ms : Half) :
    SameLimits s (startSweepWork l g0 gs m0 ms a s).1 := by
  unfold startSweepWork
  (repeat' split) <;> exact ⟨rfl, rfl, rfl⟩

theorem readSweepWork_limits : SameLimits s (readSweepWork a s).1 := by
  unfold readSweepWork; split <;> exact ⟨rfl, rfl, rfl⟩

theorem setPointWork_limits (k : Byte) (v x : Half) : SameLimits s (setPointWork k v x a s).1 := by
  unfold setPointWork
  dsimp only
  (repeat' split) <;> exact ⟨rfl, rfl, rfl⟩

theorem tareWork_limits : SameLimits s (tareWork a s).1 := by
  unfold tareWork
  (repeat' split) <;> exact ⟨rfl, rfl, rfl⟩

theorem clearAttentionWork_limits (l : Link) (c : Half) :
    SameLimits s (clearAttentionWork l c a s).1 := by
  unfold clearAttentionWork; split <;> exact ⟨rfl, rfl, rfl⟩

theorem setMaskWork_limits (l : Link) (c : Half) : SameLimits s (setMaskWork l c a s).1 := by
  unfold setMaskWork; split <;> exact ⟨rfl, rfl, rfl⟩

/-! ### Periodic steps and inputs of the other chapters -/

theorem commandStepState_limits : SameLimits s (commandStepState s) := by
  constructor <;> simp [commandStepState]

theorem inverterMessageState_limits (w : Wheel) (n : Nat) (f : Bool) :
    SameLimits s (inverterMessageState w n f s) := by
  unfold inverterMessageState
  dsimp only
  constructor <;> split <;> simp

theorem sweepEntryState_limits : SameLimits s (sweepEntryState s) := by
  unfold sweepEntryState
  split
  · exact .refl s
  · exact .refl s
  · dsimp only; split <;> exact ⟨rfl, rfl, rfl⟩

theorem releasedState_limits : SameLimits s (releasedState s) := by
  unfold releasedState
  dsimp only
  constructor <;> split <;> simp

theorem brakeInputState_limits (b : Bool) : SameLimits s (brakeInputState b s) := by
  unfold brakeInputState
  split
  · exact .refl s
  · dsimp only
    split
    · obtain ⟨hg, hp, he⟩ :=
        releasedState_limits { s with drive := { s.drive with brakeReleased := b } }
      exact ⟨hg, hp, he⟩
    · exact ⟨rfl, rfl, rfl⟩

theorem releaseTimeoutState_limits : SameLimits s (releaseTimeoutState s) := by
  unfold releaseTimeoutState; split <;> constructor <;> simp

theorem releaseTick_limits : SameLimits s (releaseTick s) := by
  unfold releaseTick
  split
  · exact .refl s
  split
  · exact releaseTimeoutState_limits s
  · exact ⟨rfl, rfl, rfl⟩

end

/-! ### Every command -/

/-- A command that leaves the tables and the limits as they are. -/
theorem EnvelopeResolved.other {s t : State} (h : EnvelopeResolved s) (ht : SameTables s t)
    (hl : SameLimits s t) : EnvelopeResolved t := h.sameTable ht.table hl

/-- A request keeps the envelope resolved when its work does. -/
theorem EnvelopeResolved.request {s : State} {h : Hdr} {code : Byte} {allowed : Owner → Bool}
    {work : Owner → State → State × Reply} (hs : EnvelopeResolved s)
    (hw : ∀ a, EnvelopeResolved (work a s).1) :
    EnvelopeResolved (takeRequest h code allowed work s) := by
  rcases takeRequest_cases h code allowed work s with e | ⟨a, -, -, e⟩ <;> rw [e]
  · exact hs
  · exact hw a

/-- Every command keeps the envelope resolved. -/
theorem exec_keeps_envelopeResolved {i : Instr} {s t : State} (h : exec i s = .next t)
    (hs : EnvelopeResolved s) : EnvelopeResolved t := by
  have read {h : Hdr} {code : Byte} {f : State → Reply} :
      EnvelopeResolved (takeRequest h code anyAuthority (reading f) s) := hs.request fun _ => hs
  have other {h : Hdr} {code : Byte} {allowed : Owner → Bool}
      {work : Owner → State → State × Reply} (ht : ∀ a, SameTables s (work a s).1)
      (hl : ∀ a, SameLimits s (work a s).1) : EnvelopeResolved (takeRequest h code allowed work s) :=
    hs.request fun a => hs.other (ht a) (hl a)
  have event {e : State → State → Bool} {f : State → State} (hf : EnvelopeResolved (f s)) :
      EnvelopeResolved (whenItComesAbout e f s) := whenItComesAbout_keeps hs hf
  have window (i : WindowIn) := windowState_resolved i hs
  have command := hs.other (commandStepState_same s) (commandStepState_limits s)
  have capacity (i : CapacityIn) := capacityStepState_resolved i hs
  have steer (i : SteerIn) := steerStepState_resolved i hs
  have sweep := hs.other (sweepEntryState_same s) (sweepEntryState_limits s)
  cases i <;> obtain rfl := Host.Outcome.next.inj h
  case nop => exact read
  case frameError => split <;> exact hs
  case unknownRequest => split <;> exact hs
  case placeLimit => exact hs.request fun _ => placeWork_resolved hs
  case amendLimit => exact hs.request fun _ => amendWork_resolved hs
  case renewLimit => exact hs.request fun _ => renewWork_resolved hs
  case retireLimit => exact hs.request fun _ => retireWork_resolved hs
  case retireOwner => exact hs.request fun _ => retireOwnerWork_resolved hs
  case lookupLimit => exact read
  case findLimit => exact read
  case nextLimit => exact read
  case readEnvelope => exact read
  case loadSegment => exact hs.request fun _ => loadSegmentWork_resolved hs
  case amendSegment => exact hs.request fun _ => amendSegmentWork_resolved hs
  case retireSegment => exact hs.request fun _ => retireSegmentWork_resolved hs
  case enterSegment => exact hs.request fun _ => enterSegmentWork_resolved hs
  case leaveSegment => exact hs.request fun _ => leaveSegmentWork_resolved hs
  case readSegment => exact read
  case speedFix =>
    exact other (fun a => speedFixWork_same s a _ _) fun a => speedFixWork_limits s a _ _
  case selectSpeedSource =>
    exact other (fun a => selectWork_same s a _) fun a => selectWork_limits s a _
  case lockSpeedSource => exact other (lockWork_same s) (lockWork_limits s)
  case clearSourceFail => exact hs.request fun _ => hs
  case setDemand =>
    exact other (fun a => setDemandWork_same s a _ _ _) fun a => setDemandWork_limits s a _ _ _
  case park => exact other (parkWork_same s) (parkWork_limits s)
  case unpark => exact other (unparkWork_same s) (unparkWork_limits s)
  case clearHold => exact other (clearHoldWork_same s) (clearHoldWork_limits s)
  case safetyHold => exact other (safetyHoldWork_same s) (safetyHoldWork_limits s)
  case trip => exact other (tripWork_same s) (tripWork_limits s)
  case resetTrip => exact other (resetTripWork_same s) (resetTripWork_limits s)
  case setControlMode =>
    exact other (fun a => setModeWork_same s a _) fun a => setModeWork_limits s a _
  case restart => exact restartState_resolved _ _ hs
  case powerUp straps b => exact isCold_resolved (powerUpState_isCold straps b s)
  case restartInput => exact restartInputState_resolved _ hs
  case clearGridFault =>
    exact other (fun a => clearGridWork_same s a _) fun a => clearGridWork_limits s a _
  case startSweep =>
    exact other (fun a => startSweepWork_same s a _ _ _ _ _) fun a =>
      startSweepWork_limits s a _ _ _ _ _
  case readSweep => exact other (readSweepWork_same s) (readSweepWork_limits s)
  case setSteerPoint =>
    exact other (fun a => setPointWork_same s a _ _ _) fun a => setPointWork_limits s a _ _ _
  case readSteerPoint => exact read
  case tare => exact other (tareWork_same s) (tareWork_limits s)
  case readStatus => exact read
  case clearAttention =>
    exact other (fun a => clearAttentionWork_same s a _ _) fun a =>
      clearAttentionWork_limits s a _ _
  case setAttentionMask =>
    exact other (fun a => setMaskWork_same s a _ _) fun a => setMaskWork_limits s a _ _
  case setParam => exact hs.request fun _ => setParamWork_resolved hs
  case getParam => exact read
  case leaseStep => exact leaseStepState_resolved hs
  case expiry => exact event (leaseStepState_resolved hs)
  case envelopeStep => exact hs.envelopeStep
  case window i => exact window i
  case trackerTracking i => exact event (window i)
  case trackerLost i => exact event (window i)
  case startSelectionTimeout i => exact event (window i)
  case tripApplyCountExpiry i => exact event (window i)
  case reprobeStart i => exact event (window i)
  case holdDwellEnd => exact event command
  case searchDwellEnd => exact event command
  case commandStep => exact command
  case demandLeaseExpiry => exact event command
  case inverterMessage =>
    exact hs.other (inverterMessageState_same s _ _ _) (inverterMessageState_limits s _ _ _)
  case inverterSilent => exact event command
  case capacityStep i => exact capacity i
  case gridFault i => exact event (capacity i)
  case linkVoltageClear i => exact event (capacity i)
  case sweepEntry => exact sweep
  case sweepReady => exact event sweep
  case steerStep i => exact steer i
  case steerFault i => exact event (steer i)
  case steerFaultClear i => exact event (steer i)
  case loadWindow p => exact loadWindowState_resolved p hs
  case latchEnd p => exact event (loadWindowState_resolved p hs)
  case brakeReleasedInput b => exact hs.other (brakeInputState_same s b) (brakeInputState_limits s b)
  case releaseTimeout =>
    exact hs.other (releaseTimeoutState_same s) (releaseTimeoutState_limits s)

/-- Settles O55: a step is a command on the state with the queue's rest, or a tick of the release timer. Each
resolves the envelope or leaves all that a resolution reads. -/
theorem Settled.envelopeInvariant : Obligations.EnvelopeInvariant := by
  intro s t h hs
  unfold step at h
  split at h
  · obtain rfl := Host.Outcome.next.inj h
    exact hs.other (releaseTick_same s) (releaseTick_limits s)
  · exact exec_keeps_envelopeResolved h hs

end Sys2Proof.Machine
end

section
/-! LOAD_SEGMENT, AMEND_SEGMENT and RETIRE_SEGMENT (O22). -/

namespace Sys2Proof.Machine

/-! ### Searches of the changed list of records (R39, R43 to R45) -/

/-- An insertion of a new id is found under that id, and every other search is as before. -/
theorem find?_insertSegment {g : Segment} {l : List Segment}
    (hnew : l.find? (fun x => x.id == g.id) = none) (n : Nat) :
    (insertSegment g l).find? (fun x => x.id == n) =
      if n = g.id then some g else l.find? (fun x => x.id == n) := by
  induction l with
  | nil =>
    by_cases h : g.id = n
    · simp [insertSegment, h]
    · simp [insertSegment, h, Ne.symm h]
  | cons y ys ih =>
    obtain ⟨hy, hys⟩ : y.id ≠ g.id ∧ ys.find? (fun x => x.id == g.id) = none := by
      simpa [List.find?_eq_none] using hnew
    unfold insertSegment
    split
    · by_cases h : n = g.id
      · simp [h]
      · rw [List.find?_cons_of_neg (by simpa using Ne.symm h), if_neg h]
    · by_cases hn : y.id = n
      · have h : n ≠ g.id := fun e => hy (hn.trans e)
        rw [List.find?_cons_of_pos (by simpa using hn), if_neg h,
          List.find?_cons_of_pos (by simpa using hn)]
      · rw [List.find?_cons_of_neg (by simpa using hn), ih hys,
          List.find?_cons_of_neg (by simpa using hn)]

/-- A replacement is found wherever its id was found, and every other search is as before. -/
theorem find?_replaceSegment (g : Segment) (l : List Segment) (n : Nat) :
    (replaceSegment g l).find? (fun x => x.id == n) =
      if n = g.id then (l.find? (fun x => x.id == n)).map (fun _ => g)
      else l.find? (fun x => x.id == n) := by
  induction l with
  | nil => simp [replaceSegment]
  | cons y ys ih =>
    have hcons : replaceSegment g (y :: ys) =
        (if y.id = g.id then g else y) :: replaceSegment g ys := rfl
    have hid : (if y.id = g.id then g else y).id = y.id := by split <;> simp [*]
    by_cases hy : y.id = n
    · rw [hcons, List.find?_cons_of_pos (by simpa [hid] using hy),
        List.find?_cons_of_pos (by simpa using hy)]
      subst hy
      split <;> rfl
    · rw [hcons, List.find?_cons_of_neg (by simpa [hid] using hy),
        List.find?_cons_of_neg (by simpa using hy), ih]

/-- A removed id is found no more, and every other search is as before. -/
theorem find?_filter_ne_id (l : List Segment) (m n : Nat) :
    (l.filter (fun g => g.id != m)).find? (fun x => x.id == n) =
      if n = m then none else l.find? (fun x => x.id == n) := by
  rw [List.find?_filter]
  split
  · next h => simp [List.find?_eq_none, h]
  · next h =>
    congr 1
    funext x
    by_cases hx : x.id = n
    · simp [hx, h]
    · simp [hx]

/-! ### The figures and the senders (R43, R44, R185) -/

section
variable {h : Hdr} {id cls : Byte} {grade rr : Half} {a : Owner} {c : AdhesionClass} {s : State}

theorem segmentFigures_of (hc : classOfCode cls = some c) (h1 : -200 ≤ grade.toInt)
    (h2 : grade.toInt ≤ 200) (h3 : rr.toNat ≤ 100) :
    segmentFigures id grade rr cls = some ⟨id.toNat, grade.toInt, rr.toNat, c⟩ := by
  simp only [segmentFigures, hc, if_pos (And.intro h1 (And.intro h2 h3))]

/-- The figures that are BAD_VALUE. -/
theorem segmentFigures_none_iff : segmentFigures id grade rr cls = none ↔
    classOfCode cls = none ∨ grade.toInt < -200 ∨ 200 < grade.toInt ∨ 100 < rr.toNat := by
  unfold segmentFigures
  cases classOfCode cls with
  | none => simp
  | some c =>
    simp only [reduceCtorEq, false_or]
    split <;> simp <;> omega

theorem dispatchOrSafety_of (hw : a = .dispatch ∨ a = .safety) : dispatchOrSafety a = true := by
  rcases hw with rfl | rfl <;> rfl

/-- Senders other than DISPATCH and SAFETY may not change the Segment Table (R185). -/
theorem dispatchOrSafety_false (h1 : authorityOf h ≠ some .dispatch)
    (h2 : authorityOf h ≠ some .safety) (a : Owner) (ha : authorityOf h = some a) :
    dispatchOrSafety a = false := by
  rw [ha] at h1 h2
  cases a <;> simp_all [dispatchOrSafety]

theorem exec_loadSegment (ha : authorityOf h = some a) (hw : a = .dispatch ∨ a = .safety) :
    exec (.loadSegment h id grade rr cls) s =
      .next ((loadSegmentWork id grade rr cls a s).1.exchanged h.link
        (answerOf h 0x20 (loadSegmentWork id grade rr cls a s).2)) :=
  congrArg Host.Outcome.next (takeRequest_of ha (dispatchOrSafety_of hw))

theorem exec_amendSegment (ha : authorityOf h = some a) (hw : a = .dispatch ∨ a = .safety) :
    exec (.amendSegment h id grade rr cls) s =
      .next ((amendSegmentWork id grade rr cls a s).1.exchanged h.link
        (answerOf h 0x21 (amendSegmentWork id grade rr cls a s).2)) :=
  congrArg Host.Outcome.next (takeRequest_of ha (dispatchOrSafety_of hw))

theorem exec_retireSegment (ha : authorityOf h = some a) (hw : a = .dispatch ∨ a = .safety) :
    exec (.retireSegment h id) s =
      .next ((retireSegmentWork id a s).1.exchanged h.link
        (answerOf h 0x22 (retireSegmentWork id a s).2)) :=
  congrArg Host.Outcome.next (takeRequest_of ha (dispatchOrSafety_of hw))

/-! ### LOAD_SEGMENT (R43) -/

/-- LOAD_SEGMENT past its checks. -/
theorem loadSegmentWork_done {g : Segment} (hn : findSegment s id.toNat = none)
    (hg : segmentFigures id grade rr cls = some g) (hz : id ≠ 0) (hl : s.segs.records.length < 64) :
    loadSegmentWork id grade rr cls a s = (withSegments (insertSegment g s.segs.records) s,
      .ok ([id] ++ u8 (s.segs.records.length + 1))) := by
  have hz : id.toNat ≠ 0 := fun e => hz (word_eq_zero.2 e)
  have hu : u8 id.toNat = [id] := by simp [u8]
  have hc : loadedCount (withSegments (insertSegment g s.segs.records) s) =
      s.segs.records.length + 1 := length_insertSegment ..
  have hf : ¬ 64 ≤ loadedCount s := Nat.not_le.2 hl
  simp only [loadSegmentWork, hn, hg, Option.isSome_none, Bool.false_eq_true, if_false, if_neg hz,
    if_neg hf, hc, hu]

theorem loadSegmentWork_exists (hs : (findSegment s id.toNat).isSome = true) :
    loadSegmentWork id grade rr cls a s = (s, .refuse .exists) := if_pos hs

theorem loadSegmentWork_badValue (hn : findSegment s id.toNat = none)
    (hbad : segmentFigures id grade rr cls = none ∨ id = 0) :
    loadSegmentWork id grade rr cls a s = (s, .refuse .badValue) := by
  simp only [loadSegmentWork, hn, Option.isSome_none, Bool.false_eq_true, if_false]
  cases hg : segmentFigures id grade rr cls with
  | none => rfl
  | some g => exact if_pos (word_eq_zero.1 (hbad.resolve_left (by simp [hg])))

theorem loadSegmentWork_full (hn : findSegment s id.toNat = none)
    (hg : segmentFigures id grade rr cls ≠ none) (hz : id ≠ 0) (hl : 64 ≤ s.segs.records.length) :
    loadSegmentWork id grade rr cls a s = (s, .refuse .full) := by
  obtain ⟨g, hg⟩ := Option.ne_none_iff_exists'.1 hg
  simp only [loadSegmentWork, hn, hg, Option.isSome_none, Bool.false_eq_true, if_false]
  rw [if_neg fun e => hz (word_eq_zero.2 e)]
  exact if_pos hl

/-! ### AMEND_SEGMENT (R44, R107) -/

/-- AMEND_SEGMENT past its checks. -/
theorem amendSegmentWork_done {old g : Segment} (ho : findSegment s id.toNat = some old)
    (hg : segmentFigures id grade rr cls = some g) :
    amendSegmentWork id grade rr cls a s = (amendSegmentState old g s, .ok [id]) := by
  have hu : u8 id.toNat = [id] := by simp [u8]
  simp only [amendSegmentWork, ho, hg, hu]

theorem amendSegmentWork_notFound (hn : findSegment s id.toNat = none) :
    amendSegmentWork id grade rr cls a s = (s, .refuse .notFound) := by
  simp only [amendSegmentWork, hn]

theorem amendSegmentWork_badValue (hs : (findSegment s id.toNat).isSome = true)
    (hg : segmentFigures id grade rr cls = none) :
    amendSegmentWork id grade rr cls a s = (s, .refuse .badValue) := by
  obtain ⟨old, ho⟩ := Option.isSome_iff_exists.1 hs
  simp only [amendSegmentWork, ho, hg]

/-- The preset of a class on both wheels, when it comes about at an amendment (R44, R107). -/
theorem amendSegmentState_grip (old g : Segment) (s : State) :
    (s.segs.current ≠ some g.id ∨ old.cls = g.cls → (amendSegmentState old g s).grip = s.grip) ∧
    (s.segs.current = some g.id → old.cls ≠ g.cls → (amendSegmentState old g s).grip =
      s.grip.map (Grip.preset (s.param .wheelRated) g.cls)) := by
  unfold amendSegmentState
  dsimp only
  refine ⟨fun hno => ?_, fun hc hne => ?_⟩
  · rw [if_neg fun hyes => hno.elim (· hyes.1) hyes.2]; rfl
  · rw [if_pos ⟨hc, hne⟩]; rfl

theorem amendSegmentState_frame (old g : Segment) (s : State) :
    amendSegmentState old g s = { s with
      segs := { s.segs with records := replaceSegment g s.segs.records }
      grip := (amendSegmentState old g s).grip } := by
  unfold amendSegmentState; dsimp only; split <;> rfl

theorem amendSegmentState_records (old g : Segment) (s : State) :
    (amendSegmentState old g s).segs.records = replaceSegment g s.segs.records := by
  rw [amendSegmentState_frame]

/-- The amended record is found under its id, and every other search is as before. -/
theorem findSegment_amendSegmentState {old g : Segment} (ho : findSegment s g.id = some old) (n : Nat) :
    findSegment (amendSegmentState old g s) n = if n = g.id then some g else findSegment s n := by
  rw [findSegment, amendSegmentState_records, find?_replaceSegment]
  split
  · next e => subst e; exact congrArg _ ho
  · rfl

/-! ### RETIRE_SEGMENT (R45) -/

theorem retireSegmentWork_notFound (hn : findSegment s id.toNat = none) :
    retireSegmentWork id a s = (s, .refuse .notFound) := by
  simp only [retireSegmentWork, hn]

section
variable {old : Segment} (ho : findSegment s id.toNat = some old)
include ho

theorem retireSegmentWork_inUse (hc : s.segs.current = some id.toNat) :
    retireSegmentWork id a s = (s, .refuse .inUse) := by
  simp only [retireSegmentWork, ho, if_pos hc]

theorem retireSegmentWork_bound (hc : s.segs.current ≠ some id.toNat)
    (hb : boundCount s id.toNat ≠ 0) :
    retireSegmentWork id a s = (s, ⟨.bound, u8 (boundCount s id.toNat)⟩) := by
  simp only [retireSegmentWork, ho, if_neg hc, if_pos hb]

/-- RETIRE_SEGMENT past its checks. -/
theorem retireSegmentWork_done (hc : s.segs.current ≠ some id.toNat)
    (hb : boundCount s id.toNat = 0) : retireSegmentWork id a s =
      (withSegments (s.segs.records.filter (fun g => g.id != id.toNat)) s,
        .ok ([id] ++ u8 (s.segs.records.filter (fun g => g.id != id.toNat)).length)) := by
  have hu : u8 id.toNat = [id] := by simp [u8]
  simp only [retireSegmentWork, ho, if_neg hc, if_neg (not_not.2 hb), hu]
  rfl

end

end

/-- Settles O22, request by request: each is its work past its checks, and each check refuses in its
table's order. -/
theorem Settled.segmentTableRequests : Obligations.SegmentTableRequests := by
  refine ⟨fun h id a s ha hw => ⟨fun grade rr cls c hc h1 h2 h3 => ?_,
    fun old ho => ⟨fun hc => ?_, fun hc hb => ?_, fun hc hb => ?_⟩,
    fun grade rr cls bad hbad => ?_, fun hn => ?_⟩, fun h id grade rr cls s h1 h2 => ?_⟩
  · have hg := segmentFigures_of (id := id) hc h1 h2 h3
    refine ⟨fun hn hz hl => ?_, fun old ho => ?_⟩
    · rw [exec_loadSegment ha hw, loadSegmentWork_done hn hg hz hl, answerOf_ok]
      have hfind := find?_insertSegment (g := ⟨id.toNat, grade.toInt, rr.toNat, c⟩) hn
      exact ⟨_, rfl, (hfind _).trans (if_pos rfl), fun n hne => (hfind n).trans (if_neg hne),
        length_insertSegment .., rfl⟩
    · rw [exec_amendSegment ha hw, amendSegmentWork_done ho hg, answerOf_ok]
      have hfind := findSegment_amendSegmentState (g := ⟨id.toNat, grade.toInt, rr.toNat, c⟩) ho
      obtain ⟨hkeep, hpreset⟩ := amendSegmentState_grip old ⟨id.toNat, grade.toInt, rr.toNat, c⟩ s
      refine ⟨_, rfl, (hfind _).trans (if_pos rfl), fun n hne => (hfind n).trans (if_neg hne), ?_,
        hkeep, fun hcur hne => ⟨hpreset hcur hne, fun w => ?_⟩, ?_⟩
      · rw [amendSegmentState_records, replaceSegment, List.length_map]
      · rw [hpreset hcur hne]
        cases w <;> exact afterPreset_preset _ _ _
      · rw [amendSegmentState_records]
        exact amendSegmentState_frame ..
  · rw [exec_retireSegment ha hw, retireSegmentWork_inUse ho hc, answerOf_refuse]
  · rw [exec_retireSegment ha hw, retireSegmentWork_bound ho hc hb]; rfl
  · rw [exec_retireSegment ha hw, retireSegmentWork_done ho hc hb, answerOf_ok]
    have hfind := find?_filter_ne_id s.segs.records id.toNat
    exact ⟨_, rfl, (hfind _).trans (if_pos rfl), fun n hne => (hfind n).trans (if_neg hne), rfl⟩
  · rw [← segmentFigures_none_iff (id := id)] at hbad
    simp only [hbad]
    refine ⟨fun hn => ⟨?_, fun hv => ?_, fun hv hz hl => ?_⟩, fun hs => ⟨?_, fun hv => ?_⟩⟩
    · rw [exec_amendSegment ha hw, amendSegmentWork_notFound hn, answerOf_refuse]
    · rw [exec_loadSegment ha hw, loadSegmentWork_badValue hn hv, answerOf_refuse]
    · rw [exec_loadSegment ha hw, loadSegmentWork_full hn hv hz hl, answerOf_refuse]
    · rw [exec_loadSegment ha hw, loadSegmentWork_exists hs, answerOf_refuse]
    · rw [exec_amendSegment ha hw, amendSegmentWork_badValue hs hv, answerOf_refuse]
  · rw [exec_retireSegment ha hw, retireSegmentWork_notFound hn, answerOf_refuse]
  · have refused := dispatchOrSafety_false h1 h2
    exact ⟨congrArg Host.Outcome.next (takeRequest_refused refused),
      congrArg Host.Outcome.next (takeRequest_refused refused),
      congrArg Host.Outcome.next (takeRequest_refused refused)⟩

end Sys2Proof.Machine
end

section
/-! The capacity step's frame, and its grade speed (O41). -/

namespace Sys2Proof.Machine

/-! ### What a trip cause can touch, and what keeps a resolution standing (R31, R93, R173) -/

/-- The frame of a handed trip cause. -/
theorem handTrip_frame (c : TripCause) (s : State) : handTrip c s = { s with
    drive := (handTrip c s).drive, torque := (handTrip c s).torque, ports := (handTrip c s).ports
    retard := { s.retard with
      assist := (handTrip c s).retard.assist, causes := (handTrip c s).retard.causes } } := by
  by_cases h : s.drive.state = .tripped
  · rw [handTrip_tripped h]
  · rw [handTrip_other h]
    obtain ⟨p, e⟩ := enter_eq .tripped { s with drive := { s.drive with
      trip := some c, later := .empty, hold := .empty, timer := none
      outcome := if s.drive.state = .releasing then .aborted else s.drive.outcome
      applyCount := 0 } }
    rw [e]; rfl

/-- A resolution stands where all that it reads and gives stands. -/
theorem ResolvedFrom.sameTable {a : Nat} {s t : State} (h : ResolvedFrom a s)
    (ht : t.table = s.table) (e : SameLimits s t) : ResolvedFrom a t := by
  obtain ⟨records, defaults, env⟩ := e.resolution fun i => by rw [ht]
  have him (b : Option Handle) : immediateBinding t b = immediateBinding s b := by
    simp only [immediateBinding, State.extRecord, ht]
  unfold ResolvedFrom
  simp only [resolveWheel_congr records defaults, env, him]
  exact h

/-! ### The capacity step (R113) -/

section
variable (i : CapacityIn) (s : State)

/-- A capacity step leaves the unit of stages 1 to 7, but for the brake assist that a trip evaluates. -/
theorem capacityStepState_retard : (capacityStepState i s).retard = { capacityUnit i s with
    assist := (capacityStepState i s).retard.assist
    causes := (capacityStepState i s).retard.causes } := by
  unfold capacityStepState
  dsimp only
  split
  · rw [handTrip_frame, raiseIf_retard, updateGov_keeps]
  · rw [raiseIf_retard, updateGov_keeps]

theorem capacityStepState_gov :
    (capacityStepState i s).gov = (capacityUpdates i s).foldl applyGov s.gov := by
  unfold capacityStepState
  dsimp only
  split <;> simp [updateGov_gov]

/-- The records that a capacity step leaves as they are (R113). -/
theorem capacityStepState_frame : capacityStepState i s = { s with
    retard := (capacityStepState i s).retard, gov := (capacityStepState i s).gov
    env := (capacityStepState i s).env, ports := (capacityStepState i s).ports
    drive := (capacityStepState i s).drive, torque := (capacityStepState i s).torque } := by
  unfold capacityStepState
  dsimp only
  split
  · rw [handTrip_frame, raiseIf_eq, updateGov_keeps]
  · rw [raiseIf_eq, updateGov_keeps]

/-- The envelope is resolved at a capacity step exactly when a governor record changes (R9, R31). -/
theorem capacityStepState_env :
    ((capacityStepState i s).gov = s.gov → (capacityStepState i s).env = s.env) ∧
    ((capacityStepState i s).gov ≠ s.gov →
      ResolvedFrom s.env.applied (capacityStepState i s)) := by
  obtain ⟨same, changed⟩ := updateGov_env (capacityUpdates i s) { s with retard := capacityUnit i s }
  have hgov := capacityStepState_gov i s
  have hl : SameLimits (updateGov (capacityUpdates i s) { s with retard := capacityUnit i s })
      (capacityStepState i s) := by
    unfold capacityStepState
    dsimp only
    constructor <;> split <;> simp
  have ht : (capacityStepState i s).table =
      (updateGov (capacityUpdates i s) { s with retard := capacityUnit i s }).table := by
    unfold capacityStepState
    dsimp only
    split <;> simp
  rw [hl.gov, hl.env]
  exact ⟨same, fun hne => (changed hne).sameTable ht hl⟩

/-- The two governor records of a capacity step, and the seven others (R125, R127). -/
theorem capacityStepState_records : (capacityStepState i s).gov = { s.gov with
    gradeSpeed := (applyGov s.gov (.gradeSpeed, (capacityStepState i s).retard.grade)).gradeSpeed
    linkVoltage := (capacityStepState i s).gov.linkVoltage } := by
  rw [capacityStepState_gov, capacityStepState_retard]
  simp only [capacityUpdates, List.foldl, applyGov]
  cases (capacityUnit i s).grade <;> split <;> rfl

/-! ### Stage 6: mass, slope and grade speed (R41, R123 to R125) -/

theorem slopeOf_segment {g : Segment} (hg : currentSegment s = some g) : slopeOf s =
    -(if (s.segs.heading = .along ↔ s.torque.direction = .forward) then g.grade else -g.grade) -
      g.rr := by
  simp only [slopeOf, hg, effectiveGrade_eq]

theorem slopeOf_noSegment (hg : currentSegment s = none) :
    slopeOf s = (s.param .gradeWorst : Int) - s.param .rrDefault := by
  simp only [slopeOf, hg]

/-- A capacity step's figures of stage 6. -/
theorem capacityStepState_grade :
    let u := (capacityStepState i s).retard
    let f := gradeFigures u.pcap (massOf s) (slopeOf s) (s.param .gradeMargin)
      (s.param .speedRated)
    u.mass = massOf s ∧ u.slope = slopeOf s ∧ u.vraw = f.vraw ∧ u.vm = f.vm ∧
      u.grade = f.result ∧ u.gradeShort = f.short := by
  dsimp only
  rw [capacityStepState_retard]
  exact ⟨rfl, rfl, rfl, rfl, rfl, rfl⟩

end

/-- A slope that needs no retarding has no figure: NO_SLOPE (R125). -/
theorem gradeFigures_noSlope {pcap mass margin rated : Nat} {slope : Int} (h : slope ≤ 0) :
    gradeFigures pcap mass slope margin rated = ⟨0, 0, none, false⟩ := if_pos h

/-- The figures of a slope downhill (R124, R125). -/
theorem gradeFigures_slope {pcap mass margin rated slope : Nat} (h : 0 < slope) :
    gradeFigures pcap mass slope margin rated =
      { vraw := pcap * 36000000 / (mass * 981 * slope)
        vm := pcap * 36000000 / (mass * 981 * slope) * (1000 - margin) / 1000
        result := some (max 30 (min
          (pcap * 36000000 / (mass * 981 * slope) * (1000 - margin) / 1000) rated))
        short := decide (pcap * 36000000 / (mass * 981 * slope) < 30) } :=
  if_neg (by omega)

/-- Settles O41: stage 6 by the sign of the slope, and the step's frame. -/
theorem Settled.gradeSpeed : Obligations.GradeSpeed := by
  intro i s
  obtain ⟨hmass, hslope, hvraw, hvm, hgrade, hshort⟩ := capacityStepState_grade i s
  have hgov := capacityStepState_records i s
  obtain ⟨hsame, hchanged⟩ := capacityStepState_env i s
  refine ⟨capacityStepState i s, rfl, fun hi => ?_, fun hi => ?_, fun g hg => ?_, fun hg => ?_,
    fun hle => ?_, fun slope hs hpos => ?_, ?_, hsame, hchanged, capacityStepState_frame i s, ?_⟩
  · rw [hmass, massOf, if_pos hi]
  · rw [hmass, massOf, if_neg hi]
  · rw [hslope, slopeOf_segment s hg]
  · rw [hslope, slopeOf_noSegment s hg]
  · rw [gradeFigures_noSlope (hslope ▸ hle)] at hvraw hvm hgrade hshort
    refine ⟨hgrade, hshort, hvraw, hvm, ?_⟩
    rw [hgov, hgrade]; rfl
  · rw [← hslope, ← hmass, hs, gradeFigures_slope hpos] at hvraw hvm hgrade hshort
    refine ⟨hvraw, by rw [hvm, hvraw], by rw [hgrade, hvm], ?_,
      by rw [hshort, hvraw, decide_eq_true_iff]⟩
    rw [hgov, hgrade, hvm]; rfl
  · conv_lhs => rw [hgov]
    rw [hgov]
  · rw [capacityStepState_retard]; rfl

end Sys2Proof.Machine
end

section
/-! What the stages of a window leave in the Speed Reference Unit, stage by stage (R53 to R60, R63, R64,
R68). -/

namespace Sys2Proof.Machine

/-! ### Stages 1 to 3: readings, ground speed, trackers (R53 to R59) -/

namespace SpeedUnit

variable (u : SpeedUnit)

/-- Stage 2 writes v alone. -/
theorem measured_eq : u.measured = { u with v := u.measured.v } := by
  unfold measured; split <;> rfl

theorem measured_v_none (h : u.current = none) : u.measured.v = u.v := by simp [measured, h]

theorem measured_v_some {c : Source} (h : u.current = some c) : u.measured.v =
    if (u.trackers.get c).passed then (u.trackers.get c).value else u.v := by
  simp [measured, h, follow]

@[simp] theorem measured_current : u.measured.current = u.current := by rw [measured_eq]
@[simp] theorem measured_trackers : u.measured.trackers = u.trackers := by rw [measured_eq]

end SpeedUnit

/-- A tracker's step keeps the value and the self-check of the window (R57). -/
@[simp] theorem Tracker.stepped_value (b : Bool) (t : Tracker) : (t.stepped b).value = t.value := by
  unfold stepped; (repeat' split) <;> rfl
@[simp] theorem Tracker.stepped_passed (b : Bool) (t : Tracker) : (t.stepped b).passed = t.passed := by
  unfold stepped; (repeat' split) <;> rfl

section
variable (i : WindowIn) (s : State) (x : Source)

/-- Stage 1 leaves state, count and misses of every tracker (R57). -/
theorem readSources_tracker : (readSources i s).trackers.get x = { s.speed.trackers.get x with
    value := ((readSources i s).trackers.get x).value
    passed := ((readSources i s).trackers.get x).passed } := by
  cases x <;> rfl

/-- A tracker after stage 3. -/
theorem unitTracked_tracker : (unitTracked i s).trackers.get x =
    ((readSources i s).trackers.get x).stepped ((readSources i s).measured.agrees x) := by
  cases x <;> simp only [unitTracked, SpeedUnit.tracked, SpeedUnit.measured_trackers] <;> rfl

/-- Stages 1 to 3 do not touch the selection. -/
theorem unitTracked_eq : unitTracked i s = { readSources i s with
    trackers := (unitTracked i s).trackers, v := (unitTracked i s).v } := by
  unfold unitTracked SpeedUnit.tracked
  rw [SpeedUnit.measured_eq]

@[simp] theorem unitTracked_current : (unitTracked i s).current = s.speed.current := by
  rw [unitTracked_eq]; rfl
@[simp] theorem unitTracked_reference : (unitTracked i s).reference = s.speed.reference := by
  rw [unitTracked_eq]; rfl
@[simp] theorem unitTracked_pending : (unitTracked i s).pending = s.speed.pending := by
  rw [unitTracked_eq]; rfl
@[simp] theorem unitTracked_sourceFail : (unitTracked i s).sourceFail = s.speed.sourceFail := by
  rw [unitTracked_eq]; rfl
@[simp] theorem unitTracked_windows : (unitTracked i s).windows = min 255 (s.speed.windows + 1) := by
  rw [unitTracked_eq]; rfl

/-- v after stage 3 is that of stage 2 (R59). -/
theorem unitTracked_v : (unitTracked i s).v = (readSources i s).measured.v := rfl

/-- v after stage 3 without a current source. -/
theorem unitTracked_v_none (h : s.speed.current = none) : (unitTracked i s).v = s.speed.v :=
  (readSources i s).measured_v_none h

/-- v after stage 3 with a current source (R59). -/
theorem unitTracked_v_some {c : Source} (h : s.speed.current = some c) : (unitTracked i s).v =
    if ((unitTracked i s).trackers.get c).passed then ((unitTracked i s).trackers.get c).value
    else s.speed.v := by
  rw [unitTracked_tracker, Tracker.stepped_passed, Tracker.stepped_value]
  exact (readSources i s).measured_v_some h

/-- The selection leaves the trackers of stage 3. -/
@[simp] theorem unitSelected_trackers : (unitSelected i s).trackers = (unitTracked i s).trackers :=
  (congrArg SpeedUnit.trackers (unitSelected_readings i s) :)

/-- The values and the self-checks that a window leaves are those of stage 1 (R57). -/
theorem unitSelected_value : ((unitSelected i s).trackers.get x).value =
    ((readSources i s).trackers.get x).value := by
  rw [unitSelected_trackers, unitTracked_tracker, Tracker.stepped_value]
theorem unitSelected_passed : ((unitSelected i s).trackers.get x).passed =
    ((readSources i s).trackers.get x).passed := by
  rw [unitSelected_trackers, unitTracked_tracker, Tracker.stepped_passed]

/-- What a window's unit writes after stage 1: the trackers and the selection. -/
theorem unitSelected_frame : unitSelected i s = { readSources i s with
    trackers := (unitTracked i s).trackers, v := (unitSelected i s).v
    current := (unitSelected i s).current, pending := (unitSelected i s).pending
    reference := (unitSelected i s).reference, sourceFail := (unitSelected i s).sourceFail } := by
  have h : (unitSelected i s).readings =
      { (readSources i s).readings with trackers := (unitTracked i s).trackers } := by
    rw [unitSelected_readings, unitTracked_eq]; rfl
  exact congrArg (fun u : SpeedUnit => { u with
    v := (unitSelected i s).v, current := (unitSelected i s).current
    pending := (unitSelected i s).pending, reference := (unitSelected i s).reference
    sourceFail := (unitSelected i s).sourceFail }) h

end

/-! ### Stage 4: selection (R60, R63, R64, R68) -/

namespace SpeedUnit

variable {u : SpeedUnit} {n p : Source}

@[simp] theorem fallback_trackers (u : SpeedUnit) : u.fallback.trackers = u.trackers :=
  (congrArg SpeedUnit.trackers u.readings_fallback :)
@[simp] theorem switched_trackers (u : SpeedUnit) : u.switched.trackers = u.trackers :=
  (congrArg SpeedUnit.trackers u.readings_switched :)

/-- Which sources are TRACKING the trackers alone say. -/
theorem isTracking_congr {w : SpeedUnit} (h : w.trackers = u.trackers) :
    w.isTracking = u.isTracking := by
  funext x; simp only [isTracking, h]

theorem firstTracking_congr {w : SpeedUnit} (h : w.trackers = u.trackers) :
    w.firstTracking = u.firstTracking := by
  simp only [firstTracking, isTracking_congr h]

@[simp] theorem fallback_isTracking (u : SpeedUnit) : u.fallback.isTracking = u.isTracking :=
  isTracking_congr u.fallback_trackers
@[simp] theorem fallback_firstTracking (u : SpeedUnit) : u.fallback.firstTracking = u.firstTracking :=
  firstTracking_congr u.fallback_trackers

theorem isTracking_iff : u.isTracking n = true ↔ (u.trackers.get n).state = .tracking := by
  simp [isTracking]

theorem isTracking_of_first (h : u.firstTracking = some n) : u.isTracking n = true :=
  List.find?_some h

theorem firstTracking_none_iff : u.firstTracking = none ↔ ∀ x, u.isTracking x = false := by
  simp only [firstTracking, List.find?_eq_none, Bool.not_eq_true]
  exact ⟨fun h x => h x (by cases x <;> decide), fun h x _ => h x⟩

/-- The first TRACKING source is the TRACKING one of the lowest code (R63). -/
theorem firstTracking_least (h : u.isTracking n = true)
    (hl : ∀ m, sourceCode m < sourceCode n → u.isTracking m = false) : u.firstTracking = some n := by
  refine find?_least (f := sourceCode) (by decide) (by cases n <;> decide) h fun q _ hq => ?_
  by_contra hlt
  rw [hl q (by omega)] at hq
  exact absurd hq (by decide)

theorem currentLost_iff :
    u.currentLost = true ↔ ∃ c, u.current = some c ∧ (u.trackers.get c).state = .lost := by
  simp [currentLost, Option.any_eq_true]

/-- What `take` makes of v where the source passes its self-check (R59). -/
theorem take_v_passed (h : (u.trackers.get n).passed = true) :
    (u.take n).v = (u.trackers.get n).value := if_pos h

/-- All that the fallback can do (R63, R64). -/
theorem fallback_cases (u : SpeedUnit) :
    (u.currentLost = false ∧ u.fallback = u) ∨
    (u.currentLost = true ∧ ∃ n, u.firstTracking = some n ∧
      u.fallback = { u.take n with sourceFail := true }) ∨
    (u.referenceLost = true ∧ u.firstTracking = none ∧
      u.fallback = { u with current := none, reference := .lost, sourceFail := true }) := by
  cases h : u.currentLost with
  | false => exact .inl ⟨rfl, by simp [fallback, h]⟩
  | true =>
    cases hf : u.firstTracking with
    | none => exact .inr (.inr ⟨by simp [referenceLost, h, hf], rfl, by simp [fallback, h, hf]⟩)
    | some n => exact .inr (.inl ⟨rfl, n, rfl, by simp [fallback, h, hf]⟩)

theorem fallback_none (h : u.current = none) : u.fallback = u := by
  simp [fallback, currentLost, h]

/-- All that the pending switch can do (R60). -/
theorem switched_cases (u : SpeedUnit) :
    (u.pending = none ∧ u.switched = u) ∨
    ∃ p, u.pending = some p ∧
      ((u.current = some p ∧ u.switched = { u with pending := none }) ∨
      (u.current ≠ some p ∧ u.isTracking p = true ∧
        u.switched = { u.take p with pending := none }) ∨
      (u.current ≠ some p ∧ u.isTracking p = false ∧ u.switched = u)) := by
  cases hp : u.pending with
  | none => exact .inl ⟨rfl, by simp [switched, hp]⟩
  | some p =>
    refine .inr ⟨p, rfl, ?_⟩
    by_cases hc : u.current = some p
    · exact .inl ⟨hc, by simp [switched, hp, hc]⟩
    · cases ht : u.isTracking p with
      | true => exact .inr (.inl ⟨hc, rfl, by simp [switched, hp, hc, ht]⟩)
      | false => exact .inr (.inr ⟨hc, rfl, by simp [switched, hp, hc, ht]⟩)

/-- With a current source neither the start-up nor the recovery selection acts (R64, R68). -/
theorem started_of_isSome (h : u.current.isSome = true) : u.started p = u := by simp [started, h]

theorem started_preferred (hc : u.current = none) (hr : u.reference = .seeking)
    (ht : u.isTracking p = true) : u.started p = u.take p := by
  simp [started, hc, hr, ht]

theorem started_other (hc : u.current = none) (hr : u.reference = .seeking)
    (ht : u.isTracking p = false) (hw : 20 ≤ u.windows) (hf : u.firstTracking = some n) :
    u.started p = { u.take n with sourceFail := true } := by
  simp [started, hc, hr, ht, hw, hf]

theorem started_waits (hc : u.current = none) (hr : u.reference = .seeking)
    (ht : u.isTracking p = false) (hw : u.windows < 20 ∨ u.firstTracking = none) :
    u.started p = u := by
  rcases hw with hw | hf
  · simp [started, hc, hr, ht, Nat.not_le.2 hw]
  · simp [started, hc, hr, ht, hf]

theorem started_recovers (hc : u.current = none) (hr : u.reference = .lost)
    (hf : u.firstTracking = some n) : u.started p = u.take n := by
  simp [started, hc, hr, hf]

theorem started_lost (hc : u.current = none) (hr : u.reference = .lost)
    (hf : u.firstTracking = none) : u.started p = u := by
  simp [started, hc, hr, hf]

/-- All that the start-up and the recovery selection can do: nothing, or a TRACKING source taken. -/
theorem started_cases (u : SpeedUnit) (p : Source) :
    u.started p = u ∨ (u.current = none ∧ ∃ n b, u.isTracking n = true ∧
      u.started p = { u.take n with sourceFail := b }) := by
  by_cases hs : u.current.isSome = true
  · exact .inl (started_of_isSome hs)
  have hc : u.current = none := by simpa using hs
  cases hr : u.reference with
  | seeking =>
    cases ht : u.isTracking p with
    | true => exact .inr ⟨hc, p, u.sourceFail, ht, started_preferred hc hr ht⟩
    | false =>
      by_cases hw : u.windows < 20 ∨ u.firstTracking = none
      · exact .inl (started_waits hc hr ht hw)
      · obtain ⟨hw, hf⟩ := not_or.1 hw
        obtain ⟨n, hf⟩ := Option.ne_none_iff_exists'.1 hf
        exact .inr ⟨hc, n, true, isTracking_of_first hf, started_other hc hr ht (by omega) hf⟩
  | lost =>
    cases hf : u.firstTracking with
    | none => exact .inl (started_lost hc hr hf)
    | some n =>
      exact .inr ⟨hc, n, u.sourceFail, isTracking_of_first hf, started_recovers hc hr hf⟩
  | valid => exact .inl (by simp [started, hc, hr])

/-- The whole of stage 4. -/
def selected (p : Source) (u : SpeedUnit) : SpeedUnit := u.fallback.switched.started p

theorem switched_isSome (h : u.current.isSome = true) : u.switched.current.isSome = true := by
  rcases u.switched_cases with ⟨-, e⟩ | ⟨q, -, ⟨-, e⟩ | ⟨-, -, e⟩ | ⟨-, -, e⟩⟩ <;> rw [e]
  exacts [h, h, rfl, h]

/-- A reference loss ends stage 4: no source is TRACKING, so none is taken (R64). -/
theorem selected_of_referenceLost (h : u.referenceLost = true) : u.selected p =
    { u with current := none, reference := .lost, sourceFail := true } := by
  simp only [referenceLost, Bool.and_eq_true, Option.isNone_iff_eq_none] at h
  obtain ⟨hl, hf⟩ := h
  have ef : u.fallback = { u with current := none, reference := .lost, sourceFail := true } := by
    simp [fallback, hl, hf]
  have es : u.fallback.switched = u.fallback := by
    have hn := firstTracking_none_iff.1 hf
    rcases u.fallback.switched_cases with ⟨-, e⟩ | ⟨q, -, ⟨hc, -⟩ | ⟨-, ht, -⟩ | ⟨-, -, e⟩⟩
    · exact e
    · simp [ef] at hc
    · simp [hn q] at ht
    · exact e
  unfold selected
  rw [es, started_lost (by rw [ef]) (by rw [ef]) (by simpa using hf), ef]

/-- The reference is lost exactly where stage 4 leaves no source that had one (R64). -/
theorem referenceLost_iff (u : SpeedUnit) (p : Source) : u.referenceLost = true ↔
    u.current.isSome = true ∧ (u.selected p).current = none := by
  constructor
  · intro h
    refine ⟨?_, by rw [selected_of_referenceLost h]⟩
    simp only [referenceLost, Bool.and_eq_true] at h
    obtain ⟨c, hc, -⟩ := currentLost_iff.1 h.1
    simp [hc]
  · rintro ⟨hs, hn⟩
    by_contra hr
    have hf : u.fallback.current.isSome = true := by
      rcases u.fallback_cases with ⟨-, e⟩ | ⟨-, n, -, e⟩ | ⟨h, -, -⟩
      · rw [e]; exact hs
      · rw [e]; rfl
      · exact absurd h hr
    have := switched_isSome hf
    rw [selected, started_of_isSome this] at hn
    simp [hn] at this

/-- Where stage 4 leaves the current source, it leaves v and the reference state: every source that it takes
is TRACKING, and the one it leaves is LOST, another or none. -/
theorem selected_of_current (h : (u.selected p).current = u.current) :
    (u.selected p).v = u.v ∧ (u.selected p).reference = u.reference := by
  have hst {w : SpeedUnit} (hw : (w.started p).current = u.current) (hn : w.current = u.current) :
      w.started p = w := by
    rcases w.started_cases p with e | ⟨hc, n, b, -, e⟩
    · exact e
    · rw [e] at hw; rw [hn, ← hw] at hc; cases hc
  unfold selected at *
  rcases u.fallback_cases with ⟨-, e⟩ | ⟨hl, n, hf, e⟩ | ⟨hl, -, -⟩
  · rw [e] at h ⊢
    rcases u.switched_cases with ⟨-, e⟩ | ⟨q, -, ⟨-, e⟩ | ⟨hq, -, e⟩ | ⟨-, -, e⟩⟩ <;> rw [e] at h ⊢
    · rw [hst h rfl]; exact ⟨rfl, rfl⟩
    · rw [hst h rfl]; exact ⟨rfl, rfl⟩
    · rw [started_of_isSome rfl] at h; exact absurd h.symm hq
    · rw [hst h rfl]; exact ⟨rfl, rfl⟩
  · obtain ⟨c, hc, hlost⟩ := currentLost_iff.1 hl
    have key (q : Source) (hq : u.isTracking q = true) : u.current ≠ some q := fun hcq => by
      rw [hc] at hcq; cases hcq
      rw [isTracking_iff, hlost] at hq; cases hq
    have hsome : u.fallback.current.isSome = true := by rw [e]; rfl
    rw [started_of_isSome (switched_isSome hsome)] at h
    exfalso
    rcases u.fallback.switched_cases with ⟨-, e'⟩ | ⟨q, -, ⟨-, e'⟩ | ⟨-, hq, e'⟩ | ⟨-, -, e'⟩⟩ <;>
      rw [e'] at h
    · rw [e] at h; exact key n (isTracking_of_first hf) h.symm
    · rw [e] at h; exact key n (isTracking_of_first hf) h.symm
    · exact key q (by simpa using hq) h.symm
    · rw [e] at h; exact key n (isTracking_of_first hf) h.symm
  · obtain ⟨hs, hn⟩ := (u.referenceLost_iff p).1 hl
    unfold selected at hn
    rw [← h, hn] at hs
    cases hs

/-- What stage 4 keeps: a predicate that every take of a TRACKING source keeps and that does not read the
pending source or SOURCE_FAIL, if the fallback meets it. -/
theorem selected_keeps {P : SpeedUnit → Prop}
    (htake : ∀ (w : SpeedUnit) (n : Source) (q : Option Source) (b : Bool), P w →
      w.trackers = u.trackers → w.isTracking n = true → P { w.take n with pending := q, sourceFail := b })
    (hpend : ∀ w : SpeedUnit, P w → P { w with pending := none }) (hf : P u.fallback) :
    P (u.selected p) := by
  have hs : P u.fallback.switched := by
    rcases u.fallback.switched_cases with ⟨-, e⟩ | ⟨q, -, ⟨-, e⟩ | ⟨-, ht, e⟩ | ⟨-, -, e⟩⟩ <;> rw [e]
    exacts [hf, hpend _ hf, htake _ q none _ hf u.fallback_trackers ht, hf]
  unfold selected
  rcases u.fallback.switched.started_cases p with e | ⟨-, n, b, ht, e⟩ <;> rw [e]
  exacts [hs, htake _ n _ b hs (by simp) ht]

/-- Where no source is TRACKING and none is current, none is taken. -/
theorem selected_none (hc : u.current = none) (hf : u.firstTracking = none) :
    (u.selected p).current = none := by
  refine selected_keeps (P := fun w => w.current = none) (fun w n _ _ _ hw ht => ?_) (fun _ h => h)
    (by rw [fallback_none hc]; exact hc)
  rw [isTracking_congr hw, firstTracking_none_iff.1 hf n] at ht
  cases ht

/-- After a fallback to a source only the pending switch can act (R60, R63). -/
theorem selected_of_fallback (hl : u.currentLost = true) (hf : u.firstTracking = some n) :
    u.selected p = switched { u.take n with sourceFail := true } := by
  have e : u.fallback = { u.take n with sourceFail := true } := by simp [fallback, hl, hf]
  rw [selected, e, started_of_isSome (switched_isSome rfl)]

@[simp] theorem switched_sourceFail (u : SpeedUnit) : u.switched.sourceFail = u.sourceFail := by
  rcases u.switched_cases with ⟨-, e⟩ | ⟨q, -, ⟨-, e⟩ | ⟨-, -, e⟩ | ⟨-, -, e⟩⟩ <;> rw [e]
  rfl

theorem switched_of_none (h : u.pending = none) : u.switched = u := by simp [switched, h]

end SpeedUnit

theorem unitSelected_eq (i : WindowIn) (s : State) :
    unitSelected i s = (unitTracked i s).selected (preferredSource s.straps.srcPref) := rfl

end Sys2Proof.Machine
end

section
/-! What a window does beyond its unit: the hand-overs to the Limit Table, the links and the Drive State
Controller (R52, R65, R67, R99, R171, R182). -/

namespace Sys2Proof.Machine

/-! ### What the changes of drive state can touch (R77, R87, R92, R93, R129, R170 to R173) -/

/-- The drive, the torque, the brake assist and the links alone may change, and a cause that is pending stays
pending. -/
structure DriveStep (s t : State) : Prop where
  frame : t = { s with
    drive := t.drive, torque := t.torque, ports := t.ports
    retard := { s.retard with assist := t.retard.assist, causes := t.retard.causes } }
  pending : ∀ c, PendingOnBoth c s → PendingOnBoth c t

namespace DriveStep

variable {s t u : State}

theorem refl (s : State) : DriveStep s s := ⟨rfl, fun _ h => h⟩

theorem trans (h : DriveStep s t) (g : DriveStep t u) : DriveStep s u := by
  refine ⟨?_, fun c hc => g.pending c (h.pending c hc)⟩
  rw [g.frame, h.frame]

/-- A change of the drive's and the torque's records alone. -/
theorem of_records (s : State) (d : DriveCtl) (q : TorqueGov) :
    DriveStep s { s with drive := d, torque := q } := ⟨rfl, fun _ h => h⟩

theorem enter (d : Drive) (s : State) : DriveStep s (enter d s) := by
  refine ⟨?_, fun c hc => enter_keeps d hc⟩
  obtain ⟨p, e⟩ := enter_eq d s
  rw [e]; rfl

/-- An entry after a change of the drive's record. -/
theorem enter_with (d : Drive) (s : State) (x : DriveCtl) :
    DriveStep s (Machine.enter d { s with drive := x }) :=
  (of_records s x s.torque).trans (.enter d _)

theorem handHold (c : HoldCause) (s : State) : DriveStep s (handHold c s) := by
  by_cases h1 : s.drive.state = .ready
  · rw [handHold_ready h1]; exact enter_with _ s _
  by_cases h2 : s.drive.state = .hold
  · rw [handHold_hold h2]; exact of_records s _ s.torque
  · rw [handHold_other h1 h2]; exact of_records s _ s.torque

theorem handTrip (c : TripCause) (s : State) : DriveStep s (handTrip c s) := by
  by_cases h : s.drive.state = .tripped
  · rw [handTrip_tripped h]; exact of_records s _ s.torque
  · rw [handTrip_other h]; exact enter_with _ s _

theorem handWheelLoss (s : State) : DriveStep s (handWheelLoss s) := by
  unfold Machine.handWheelLoss
  split
  · split
    · exact .handTrip _ s
    · split
      · exact .handHold _ s
      · exact .refl s
  · exact .refl s

theorem endStarting (s : State) : DriveStep s (endStarting s) := by
  unfold Machine.endStarting
  split
  · exact enter_with _ s _
  split
  · exact (enter_with _ s _).trans (.handWheelLoss _)
  split
  · exact (enter_with _ s _).trans (.handWheelLoss _)
  · exact enter_with _ s _

theorem driveAtWindow (d : Drive) (s : State) : DriveStep s (driveAtWindow d s) := by
  cases d with
  | tripped => exact of_records s _ s.torque
  | starting =>
    unfold Machine.driveAtWindow
    dsimp only
    split
    · exact .endStarting s
    · exact .refl s
  | parked => exact .refl s
  | releasing => exact .refl s
  | ready => exact .refl s
  | hold => exact .refl s

end DriveStep

/-! ### The window, hand-over by hand-over (R52) -/

section
variable (i : WindowIn) (s : State)

/-- The state after the unit, its SOURCE_SPEED update and its SOURCE_FAIL attention (R65, R67). -/
def windowSelected : State :=
  let t : State := { s with speed := unitSelected i s }
  raiseIf (setsSourceFail i s) .sourceFail (updateGov [(.sourceSpeed, sourceSpeedUpdate t)] t)

/-- A window hands a reference loss on as a trip cause, and then the drive acts (R64, R171, R182). -/
theorem windowHanded_eq : windowHanded i s =
    if (unitTracked i s).referenceLost then handTrip .referenceLost (windowSelected i s)
    else windowSelected i s := rfl

@[simp] theorem windowSelected_speed : (windowSelected i s).speed = unitSelected i s := by
  simp [windowSelected]
@[simp] theorem windowSelected_drive : (windowSelected i s).drive = s.drive := by
  simp [windowSelected]
@[simp] theorem windowSelected_torque : (windowSelected i s).torque = s.torque := by
  simp [windowSelected]
@[simp] theorem windowSelected_retard : (windowSelected i s).retard = s.retard := by
  simp [windowSelected]

theorem windowSelected_frame : windowSelected i s = { s with
    speed := (windowSelected i s).speed, gov := (windowSelected i s).gov
    env := (windowSelected i s).env, ports := (windowSelected i s).ports } := by
  unfold windowSelected
  dsimp only
  rw [raiseIf_eq, updateGov_keeps]

@[simp] theorem windowHanded_speed : (windowHanded i s).speed = unitSelected i s := by
  rw [windowHanded_eq]; split <;> simp

theorem windowHanded_step : DriveStep (windowSelected i s) (windowHanded i s) := by
  rw [windowHanded_eq]
  split
  · exact .handTrip _ _
  · exact .refl _

/-- The window past its selection, but for the slip window at its end. -/
def windowDriven : State := driveAtWindow s.drive.state (windowHanded i s)

theorem windowState_eq : windowState i s = slipWindow (surfaceSpeeds s) (windowDriven i s) := rfl

@[simp] theorem windowState_speed : (windowState i s).speed = unitSelected i s := by
  simp only [windowState, slipWindow_speed, driveAtWindow_speed, windowHanded_speed]
@[simp] theorem windowState_drive : (windowState i s).drive = (windowDriven i s).drive := rfl
@[simp] theorem windowState_torque : (windowState i s).torque = (windowDriven i s).torque := rfl
@[simp] theorem windowState_retard : (windowState i s).retard = (windowDriven i s).retard := rfl

/-- After its selection a window changes the drive, the torque, the brake assist and the links alone. -/
theorem windowDriven_step : DriveStep (windowSelected i s) (windowDriven i s) :=
  (windowHanded_step i s).trans (.driveAtWindow _ _)

/-- A cause pending after the selection is pending after the window. -/
theorem windowState_pending {c : Attention} (h : PendingOnBoth c (windowSelected i s)) :
    PendingOnBoth c (windowState i s) := (windowDriven_step i s).pending c h

/-- A selection that sets SOURCE_FAIL makes its cause pending (R65). -/
theorem windowState_sourceFail (h : setsSourceFail i s = true) :
    PendingOnBoth .sourceFail (windowState i s) :=
  windowState_pending i s (raiseIf_raises h)

/-- Without a reference loss a window hands no trip cause. -/
theorem windowHanded_kept {i : WindowIn} {s : State} (h : (unitTracked i s).referenceLost = false) :
    windowHanded i s = windowSelected i s := by
  rw [windowHanded_eq, h]; rfl

theorem windowHanded_lost {i : WindowIn} {s : State} (h : (unitTracked i s).referenceLost = true) :
    windowHanded i s = handTrip .referenceLost (windowSelected i s) := by
  rw [windowHanded_eq, if_pos h]

end

/-! ### The Drive State Controller's part by the drive state (R171, R182) -/

section
variable {i : WindowIn} {s : State}

/-- In TRIPPED a window does the brake rule. -/
theorem windowDriven_tripped (h : s.drive.state = .tripped) :
    windowDriven i s = trippedWindow (windowHanded i s) := by
  simp only [windowDriven, h, driveAtWindow]

/-- In STARTING a window that leaves a current source ends STARTING. -/
theorem windowDriven_ends (h : s.drive.state = .starting)
    (hk : (unitTracked i s).referenceLost = false) (hc : (unitSelected i s).current.isSome = true) :
    windowDriven i s = endStarting (windowSelected i s) := by
  simp only [windowDriven, h, driveAtWindow, windowHanded_kept hk, windowSelected_drive,
    windowSelected_speed, hc, and_self, if_true]

/-- In STARTING a window without a current source after it, or with a reference loss, goes no further. -/
theorem windowDriven_waits (h : s.drive.state = .starting)
    (hc : (unitSelected i s).current = none) : windowDriven i s = windowHanded i s := by
  simp [windowDriven, h, driveAtWindow, hc]

/-- In the other drive states the controller does nothing of its own at a window. -/
theorem windowDriven_other (h1 : s.drive.state ≠ .tripped) (h2 : s.drive.state ≠ .starting) :
    windowDriven i s = windowHanded i s := by
  unfold windowDriven driveAtWindow
  cases h : s.drive.state <;> simp_all

/-- The reference is lost at a window that leaves none of the current sources it found (R64). -/
theorem window_referenceLost_iff : (unitTracked i s).referenceLost = true ↔
    s.speed.current.isSome = true ∧ (unitSelected i s).current = none := by
  rw [unitSelected_eq,
    (unitTracked i s).referenceLost_iff (preferredSource s.straps.srcPref), unitTracked_current]

/-- Without a current source before it a window cannot lose the reference. -/
theorem not_referenceLost (h : s.speed.current = none) : (unitTracked i s).referenceLost = false := by
  by_contra hl
  have := (window_referenceLost_iff.1 (Bool.not_eq_false _ ▸ hl)).1
  simp [h] at this

/-- Nor can a window that leaves one. -/
theorem not_referenceLost_of_isSome (h : (unitSelected i s).current.isSome = true) :
    (unitTracked i s).referenceLost = false := by
  by_contra hl
  have := (window_referenceLost_iff.1 (Bool.not_eq_false _ ▸ hl)).2
  simp [this] at h

/-- Outside TRIPPED a reference loss is a trip cause, and the window goes no further (R64, R173). -/
theorem windowDriven_trips (h : (unitTracked i s).referenceLost = true)
    (h1 : s.drive.state ≠ .tripped) :
    windowDriven i s = handTrip .referenceLost (windowSelected i s) := by
  rw [← windowHanded_lost h]
  by_cases h2 : s.drive.state = .starting
  · exact windowDriven_waits h2 (window_referenceLost_iff.1 h).2
  · exact windowDriven_other h1 h2

/-- After a reference loss the drive is TRIPPED (R64, R173). -/
theorem windowDriven_lost (h : (unitTracked i s).referenceLost = true) :
    (windowDriven i s).drive.state = .tripped := by
  by_cases h1 : s.drive.state = .tripped
  · rw [windowDriven_tripped h1, windowHanded_lost h]
    simp [trippedWindow]
  · rw [windowDriven_trips h h1]; simp

/-- The drive's record after a window in TRIPPED: a reference loss joins the later causes (R64, R173), and
then the brake rule (R171). -/
theorem windowDriven_tripped_drive (h : s.drive.state = .tripped) {n : Nat}
    (hn : n = if (unitSelected i s).current = none then min 50 (s.drive.applyCount + 1)
      else s.drive.applyCount) : (windowDriven i s).drive = { s.drive with
        later := if (unitTracked i s).referenceLost = true ∧ s.drive.trip ≠ some .referenceLost then
          { s.drive.later with referenceLost := true } else s.drive.later
        applyCount := n
        brakeApply := s.drive.brakeApply || decide ((unitSelected i s).v < 5) ||
          ((unitSelected i s).current.isNone && decide (50 ≤ n)) } := by
  have hd : (windowHanded i s).drive = { s.drive with
      later := if (unitTracked i s).referenceLost = true ∧ s.drive.trip ≠ some .referenceLost then
        { s.drive.later with referenceLost := true } else s.drive.later } := by
    cases hl : (unitTracked i s).referenceLost with
    | false => rw [windowHanded_kept hl]; simp
    | true =>
      rw [windowHanded_lost hl, handTrip_tripped (by simpa using h)]
      by_cases ht : s.drive.trip = some .referenceLost <;> simp [ht, TripSet.add]
  rw [windowDriven_tripped h, hn]
  simp only [trippedWindow, hd, windowHanded_speed, Option.isNone_iff_eq_none]

end

/-! ### Commands that are a window (log entry 1) -/

section
variable (i : WindowIn) (s : State)

theorem exec_window : exec (.window i) s = .next (windowState i s) := rfl

theorem exec_trackerTracking (x : Source) : exec (.trackerTracking x i) s =
    .next (if (s.speed.trackers.get x).state = .qualifying ∧
      ((unitTracked i s).trackers.get x).state = .tracking then windowState i s else s) := by
  show Host.Outcome.next (if becomesTracking x s (windowState i s) = true then _ else _) = _
  simp only [becomesTracking, Bool.and_eq_true, beq_iff_eq, windowState_speed, unitSelected_trackers]

theorem exec_trackerLost (x : Source) : exec (.trackerLost x i) s =
    .next (if (s.speed.trackers.get x).state = .tracking ∧
      ((unitTracked i s).trackers.get x).state = .lost then windowState i s else s) := by
  show Host.Outcome.next (if becomesLost x s (windowState i s) = true then _ else _) = _
  simp only [becomesLost, Bool.and_eq_true, beq_iff_eq, windowState_speed, unitSelected_trackers]

theorem exec_startSelectionTimeout : exec (.startSelectionTimeout i) s =
    .next (if startsOtherAt i s = true then windowState i s else s) := rfl

theorem exec_tripApplyCountExpiry : exec (.tripApplyCountExpiry i) s =
    .next (if s.drive.state = .tripped ∧ s.drive.applyCount < 50 ∧
      (windowState i s).drive.applyCount = 50 then windowState i s else s) := by
  show Host.Outcome.next (if applyCountExpires s (windowState i s) = true then _ else _) = _
  simp only [applyCountExpires, Bool.and_eq_true, beq_iff_eq, decide_eq_true_eq, and_assoc]

end

end Sys2Proof.Machine
end

section
/-! What the drive state and the reference state fix (R57, R59, R77, R129, R170 to R176), and the changes of
drive state that keep it. -/

namespace Sys2Proof.Machine

/-! ### The reference (R57, R59) -/

/-- A current source exists exactly when the reference is VALID, and is TRACKING. -/
structure SpeedUnit.InForce (u : SpeedUnit) : Prop where
  valid : u.current.isSome = true ↔ u.reference = .valid
  tracking : ∀ c, u.current = some c → (u.trackers.get c).state = .tracking

/-- The drive states that have a current source (R170). -/
def Drive.NeedsSource (d : Drive) : Prop := d = .ready ∨ d = .hold ∨ d = .releasing

theorem sourceInForce_iff {s : State} : SourceInForce s ↔ s.speed.InForce ∧
    (s.drive.state.NeedsSource → s.speed.current.isSome = true) ∧
    (s.drive.state = .starting → s.speed.reference = .seeking) :=
  ⟨fun ⟨hv, ht, hn, hs⟩ => ⟨⟨hv, ht⟩, hn, hs⟩, fun ⟨⟨hv, ht⟩, hn, hs⟩ => ⟨hv, ht, hn, hs⟩⟩

/-- The current source, the reference state and the trackers stand. -/
structure SameSource (s t : State) : Prop where
  current : t.speed.current = s.speed.current
  reference : t.speed.reference = s.speed.reference
  trackers : t.speed.trackers = s.speed.trackers

theorem SameSource.of_speed {s t : State} (h : t.speed = s.speed) : SameSource s t := by
  constructor <;> rw [h]

/-- With the reference as it is the drive state may go where no source is needed, or where there is one. -/
theorem SourceInForce.move {s t : State} (h : SourceInForce s) (e : SameSource s t)
    (hn : t.drive.state.NeedsSource → s.drive.state.NeedsSource ∨ s.speed.current.isSome = true)
    (hs : t.drive.state = .starting → s.drive.state = .starting) : SourceInForce t := by
  obtain ⟨⟨hv, ht⟩, needs, seeks⟩ := sourceInForce_iff.1 h
  refine sourceInForce_iff.2 ⟨⟨?_, ?_⟩, fun hd => ?_, fun hd => ?_⟩
  · rw [e.current, e.reference]; exact hv
  · rw [e.current, e.trackers]; exact ht
  · rw [e.current]; exact (hn hd).elim needs id
  · rw [e.reference]; exact seeks (hs hd)

/-! ### The drive's record (R170, R171, R173, R175) -/

/-- What the drive state fixes in the drive's own record. -/
structure DriveCtl.InOrder (d : DriveCtl) : Prop where
  parked : d.state = .parked → d.brakeApply = true
  released : (d.state = .starting ∨ d.state = .releasing ∨ d.state = .ready ∨ d.state = .hold) →
    d.brakeApply = false
  timer : d.timer.isSome = true ↔ d.state = .releasing
  range : ∀ n, d.timer = some n → 1 ≤ n ∧ n ≤ 2000
  held : d.state = .hold → d.hold ≠ .empty
  kept : d.state = .starting → d.hold = { HoldSet.empty with safetyHold := d.hold.safetyHold }
  empty : d.state ≠ .hold → d.state ≠ .starting → d.hold = .empty
  cause : (d.state = .tripped ∨ d.tripMark = true) → d.trip.isSome = true
  mark : d.tripMark = true → d.state = .starting

/-- Another figure in a field that it does not read leaves the record in order. -/
theorem DriveCtl.InOrder.unread {d : DriveCtl} (h : d.InOrder) (c : Conditions) (l : TripSet)
    (m : ControlMode) (b : Bool) :
    DriveCtl.InOrder { d with conditions := c, later := l, mode := m, brakeReleased := b } :=
  ⟨h.parked, h.released, h.timer, h.range, h.held, h.kept, h.empty, h.cause, h.mark⟩

/-- What the drive state fixes in the demand and its lease (R77). -/
structure TorqueGov.InOrder (d : Drive) (q : TorqueGov) : Prop where
  demand : q.demand.isSome = true → d = .ready
  lease : q.lease.isSome = true ↔ d = .ready
  range : ∀ n, q.lease = some n → 1 ≤ n ∧ n ≤ 25

/-- What the drive state fixes in the brake assist level (R129). -/
structure RetardUnit.Assists (d : Drive) (u : RetardUnit) : Prop where
  tripped : d = .tripped → u.assist = 1000
  bound : u.assist ≤ 1000

theorem driveInOrder_iff {s : State} : DriveInOrder s ↔ s.drive.InOrder ∧
    s.torque.InOrder s.drive.state ∧ s.retard.Assists s.drive.state :=
  ⟨fun ⟨h1, h2, h3, h4, h5, h6, h7, h8, h9, h10, h11, h12, h13, h14⟩ =>
      ⟨⟨h1, h2, h3, h4, h5, h6, h7, h8, h9⟩, ⟨h10, h11, h12⟩, h13, h14⟩,
    fun ⟨⟨h1, h2, h3, h4, h5, h6, h7, h8, h9⟩, ⟨h10, h11, h12⟩, h13, h14⟩ =>
      ⟨h1, h2, h3, h4, h5, h6, h7, h8, h9, h10, h11, h12, h13, h14⟩⟩

/-- Outside RELEASING the release timer is idle (R175). -/
theorem DriveCtl.InOrder.idle {d : DriveCtl} (h : d.InOrder) (hd : d.state ≠ .releasing) :
    d.timer = none := by
  by_contra hn
  exact hd (h.timer.1 (Option.isSome_iff_ne_none.2 hn))

/-- What the entry to a drive state asks of the drive's record. -/
structure DriveCtl.MayEnter (x : DriveCtl) (d : Drive) : Prop where
  timer : x.timer.isSome = true ↔ d = .releasing
  range : ∀ n, x.timer = some n → 1 ≤ n ∧ n ≤ 2000
  held : d = .hold → x.hold ≠ .empty
  empty : d ≠ .hold → x.hold = .empty
  cause : d = .tripped → x.trip.isSome = true
  mark : x.tripMark = true → x.state = .starting

/-- A record with the release timer idle. -/
theorem DriveCtl.MayEnter.of_idle {x : DriveCtl} {d : Drive} (ht : x.timer = none)
    (hr : d ≠ .releasing) (held : d = .hold → x.hold ≠ .empty) (empty : d ≠ .hold → x.hold = .empty)
    (cause : d = .tripped → x.trip.isSome = true) (mark : x.tripMark = true → x.state = .starting) :
    x.MayEnter d :=
  ⟨by simp [ht, hr], by simp [ht], held, empty, cause, mark⟩

/-- The level of every brake assist evaluation (R129). -/
theorem setAssist_assists (s : State) : (setAssist s).retard.Assists s.drive.state := by
  obtain ⟨hle, htrip⟩ := assistLevel_le (assistCauses s)
    (retardShortLevel_le s.speed.v s.torque.vmax (s.param .assistGain))
  exact ⟨fun h => htrip (by simp [assistCauses, h]), hle⟩

theorem evaluateAssist_assists (s : State) : (evaluateAssist s).retard.Assists s.drive.state := by
  rw [evaluateAssist_eq]; exact setAssist_assists s

theorem enter_assists (d : Drive) (s : State) : (enter d s).retard.Assists d := by
  obtain ⟨p, e⟩ := enter_eq d s
  rw [e]
  exact setAssist_assists (entered d s)

/-- Every entry from a record that may enter leaves the drive in order. -/
theorem enter_driveInOrder {d : Drive} {s : State} (hd : d ≠ .starting) (h : s.drive.MayEnter d) :
    DriveInOrder (enter d s) := by
  have hmark : (s.drive.tripMark && s.drive.state != .starting) = false := by
    cases hm : s.drive.tripMark with
    | false => rfl
    | true => simp [h.mark hm]
  refine driveInOrder_iff.2 ⟨?_, ?_, by rw [enter_state]; exact enter_assists d s⟩
  · rw [enter_drive, hmark]
    refine ⟨fun e => ?_, fun e => ?_, h.timer, h.range, h.held, fun e => absurd e hd,
      fun e _ => h.empty e, fun e => h.cause (e.resolve_right (by simp)), by simp⟩
    · dsimp only at e ⊢; rw [e]; rfl
    · rcases e with e | e | e | e <;> dsimp only at e ⊢ <;> rw [e] <;> rfl
  · rw [enter_state, enter_torque]
    refine ⟨by simp [torqueOnEntry], ?_, ?_⟩ <;> simp only [torqueOnEntry, beq_iff_eq]
    · split <;> simp [*]
    · intro n hn
      split at hn <;> cases hn
      omega

/-- A hold set with a cause added is not empty (R170). -/
theorem HoldSet.add_ne_empty (h : HoldSet) (c : HoldCause) : h.add c ≠ .empty := by
  intro e
  have : (h.add c).has c = true := by cases c <;> rfl
  rw [e] at this
  cases c <;> cases this

/-! ### What a command keeps -/

/-- The command keeps both. -/
structure KeepsDrive (s t : State) : Prop where
  source : SourceInForce s → SourceInForce t
  order : DriveInOrder s → DriveInOrder t

/-- All that the two read stands. -/
structure SameDrive (s t : State) : Prop where
  source : SameSource s t
  drive : t.drive = s.drive
  demand : t.torque.demand = s.torque.demand
  lease : t.torque.lease = s.torque.lease
  assist : t.retard.assist = s.retard.assist

namespace KeepsDrive

variable {s t u : State}

theorem refl (s : State) : KeepsDrive s s := ⟨id, id⟩

theorem trans (h : KeepsDrive s t) (g : KeepsDrive t u) : KeepsDrive s u :=
  ⟨fun hs => g.source (h.source hs), fun hs => g.order (h.order hs)⟩

theorem same (h : SameDrive s t) : KeepsDrive s t := by
  refine ⟨fun hs => hs.move h.source (by rw [h.drive]; exact .inl) (by rw [h.drive]; exact id),
    fun hs => ?_⟩
  obtain ⟨hd, hq, ha⟩ := driveInOrder_iff.1 hs
  refine driveInOrder_iff.2 ⟨h.drive ▸ hd, ⟨?_, ?_, ?_⟩, ⟨?_, ?_⟩⟩ <;>
    simp only [h.drive, h.demand, h.lease, h.assist]
  exacts [hq.demand, hq.lease, hq.range, ha.tripped, ha.bound]

/-- An entry to a state that needs no source, or from one that needed it, or with a source. -/
theorem enter {d : Drive} {x : State} (hx : x.speed = s.speed) (hd : d ≠ .starting)
    (hn : d.NeedsSource → s.drive.state.NeedsSource ∨ s.speed.current.isSome = true)
    (h : s.drive.InOrder → x.drive.MayEnter d) : KeepsDrive s (enter d x) :=
  ⟨fun hs => hs.move (.of_speed (by simp [hx])) (by simpa using hn) (by simp [hd]),
    fun hs => enter_driveInOrder hd (h (driveInOrder_iff.1 hs).1)⟩

/-- A change of the drive's record that leaves its state. -/
theorem record {x : DriveCtl} (hd : x.state = s.drive.state) (h : s.drive.InOrder → x.InOrder) :
    KeepsDrive s { s with drive := x } := by
  refine ⟨fun hs => hs.move ⟨rfl, rfl, rfl⟩ (by simp only [hd]; exact .inl) (by simp only [hd, imp_self]),
    fun hs => ?_⟩
  obtain ⟨ho, hq, ha⟩ := driveInOrder_iff.1 hs
  exact driveInOrder_iff.2 ⟨h ho, hd ▸ hq, hd ▸ ha⟩

/-- A brake assist evaluation (R129). -/
theorem evaluateAssist (s : State) : KeepsDrive s (evaluateAssist s) := by
  refine ⟨fun hs => hs.move (.of_speed (by simp)) (by simpa using .inl) (by simp), fun hs => ?_⟩
  obtain ⟨hd, hq, -⟩ := driveInOrder_iff.1 hs
  exact driveInOrder_iff.2 ⟨by simpa using hd, by simpa using hq,
    by simpa using evaluateAssist_assists s⟩

/-! ### The changes of drive state (R172 to R176, R182) -/

/-- An entry to PARKED outside RELEASING. -/
theorem enterParked (h : s.drive.state ≠ .releasing) : KeepsDrive s (enterParked s) :=
  .enter rfl (by simp) (by simp [Drive.NeedsSource]) fun ho => .of_idle (ho.idle h) (by simp)
    (by simp) (fun _ => rfl) (by simp) ho.mark

/-- The end of RELEASING in PARKED (R174, R176). -/
theorem parkReleased (o : ReleaseOutcome) (s : State) :
    KeepsDrive s (Machine.enterParked (endRelease o s)) :=
  .enter rfl (by simp) (by simp [Drive.NeedsSource]) fun ho => .of_idle rfl (by simp)
    (by simp) (fun _ => rfl) (by simp) ho.mark

/-- A hold cause in READY, whatever has become of the demand (R75, R172). -/
theorem handHold_of_ready {x : State} (c : HoldCause) (hx : x.speed = s.speed)
    (hd : x.drive = s.drive) (h : s.drive.state = .ready) : KeepsDrive s (handHold c x) := by
  rw [handHold_ready (by rw [hd]; exact h)]
  refine .enter hx (by simp) (fun _ => .inl (.inl h)) fun ho => ?_
  rw [hd]
  exact .of_idle (ho.idle (by simp [h])) (by simp) (fun _ => HoldSet.add_ne_empty _ c) (by simp) (by simp)
    ho.mark

theorem handHold (c : HoldCause) (s : State) : KeepsDrive s (handHold c s) := by
  by_cases h1 : s.drive.state = .ready
  · exact handHold_of_ready c rfl rfl h1
  by_cases h2 : s.drive.state = .hold
  · rw [handHold_hold h2]
    exact .record rfl fun ho => ⟨ho.parked, ho.released, ho.timer, ho.range,
      fun _ => HoldSet.add_ne_empty _ c, by simp [h2], by simp [h2], ho.cause, ho.mark⟩
  · rw [handHold_other h1 h2]
    exact .record rfl fun ho => ho.unread _ _ _ _

theorem handTrip (c : TripCause) (s : State) : KeepsDrive s (handTrip c s) := by
  by_cases h : s.drive.state = .tripped
  · rw [handTrip_tripped h]
    exact .record rfl fun ho => ho.unread _ _ _ _
  · rw [handTrip_other h]
    exact .enter rfl (by simp) (by simp [Drive.NeedsSource]) fun ho =>
      .of_idle rfl (by simp) (by simp) (fun _ => rfl) (fun _ => rfl) ho.mark

theorem handWheelLoss (s : State) : KeepsDrive s (handWheelLoss s) := by
  unfold Machine.handWheelLoss
  split
  · split
    · exact .handTrip _ s
    · split
      · exact .handHold _ s
      · exact .refl s
  · exact .refl s

/-- The end of STARTING, once there is a current source (R182). -/
theorem endStarting (h : s.drive.state = .starting) (hc : s.speed.current.isSome = true) :
    KeepsDrive s (endStarting s) := by
  have hold (x : HoldSet) (hx : x ≠ .empty) : KeepsDrive s (enterHold x s) :=
    .enter rfl (by simp) (fun _ => .inr hc) fun ho => .of_idle (ho.idle (by simp [h])) (by simp)
      (fun _ => hx) (by simp) (by simp) ho.mark
  unfold Machine.endStarting
  split
  · next hm =>
    exact .enter rfl (by simp) (by simp [Drive.NeedsSource]) fun ho =>
      .of_idle (ho.idle (by simp [h])) (by simp) (by simp) (fun _ => rfl)
        (fun _ => ho.cause (.inr hm)) ho.mark
  split
  · exact (hold _ (by simp [startHold, HoldSet.empty])).trans (.handWheelLoss _)
  split
  · next hs => exact (hold _ (by simp [startHold, HoldSet.empty, hs])).trans (.handWheelLoss _)
  · exact .enterParked (by simp [h])

end KeepsDrive

end Sys2Proof.Machine
end

section
/-! What every command keeps of the reference and the drive (O59), and of the lock and the pending source
(R62). -/

namespace Sys2Proof.Machine

/-- The command keeps what the drive state and the reference state fix, a set lock, and that nothing is
pending. -/
structure KeepsReference (s t : State) : Prop where
  drive : KeepsDrive s t
  lock : s.speed.lock = true → t.speed.lock = true
  pending : s.speed.pending = none → t.speed.pending = none

/-- The speed unit, the drive, the demand, its lease and the brake assist level stand. -/
structure Untouched (s t : State) : Prop where
  speed : t.speed = s.speed
  drive : t.drive = s.drive
  demand : t.torque.demand = s.torque.demand
  lease : t.torque.lease = s.torque.lease
  assist : t.retard.assist = s.retard.assist

theorem Untouched.refl (s : State) : Untouched s s := ⟨rfl, rfl, rfl, rfl, rfl⟩

theorem KeepsDrive.untouched {s t : State} (h : Untouched s t) : KeepsDrive s t :=
  .same ⟨.of_speed h.speed, h.drive, h.demand, h.lease, h.assist⟩

namespace KeepsReference

variable {s t : State}

theorem of_speed (hs : t.speed = s.speed) (h : KeepsDrive s t) : KeepsReference s t :=
  ⟨h, by rw [hs]; exact id, by rw [hs]; exact id⟩

theorem untouched (h : Untouched s t) : KeepsReference s t := of_speed h.speed (.untouched h)

theorem refl (s : State) : KeepsReference s s := untouched (.refl s)

/-- A request keeps what its work keeps: its answer touches the link alone. -/
theorem request {h : Hdr} {code : Byte} {allowed : Owner → Bool} {work : Owner → State → State × Reply}
    (hw : ∀ a, KeepsReference s (work a s).1) : KeepsReference s (takeRequest h code allowed work s) := by
  have answered {t : State} (a : Answer) (k : KeepsReference s t) :
      KeepsReference s (t.exchanged h.link a) :=
    ⟨k.drive.trans (.untouched ⟨rfl, rfl, rfl, rfl, rfl⟩), k.lock, k.pending⟩
  rcases takeRequest_cases h code allowed work s with e | ⟨a, -, -, e⟩ <;> rw [e]
  · exact answered _ (.refl s)
  · exact answered _ (hw a)

/-- An event inside a periodic step keeps what the step keeps. -/
theorem event {e : State → State → Bool} {f : State → State} (hf : KeepsReference s (f s)) :
    KeepsReference s (whenItComesAbout e f s) := whenItComesAbout_keeps (.refl s) hf

end KeepsReference

/-! ### Requests of other chapters leave the speed unit and the drive alone -/

section
variable (s : State) (a : Owner)

theorem placeWork_untouched (kind scope seg im : Byte) (v l : Half) :
    Untouched s (placeWork kind scope v seg l im a s).1 := by
  unfold placeWork placeRecord
  (repeat' split) <;> exact ⟨rfl, rfl, rfl, rfl, rfl⟩

theorem amendWork_untouched (slot gen act : Byte) (v l : Half) :
    Untouched s (amendWork slot gen v act l a s).1 := by
  unfold amendWork
  split
  · exact .refl s
  · exact .refl s
  split
  · exact .refl s
  split
  · exact .refl s
  split
  · exact .refl s
  split
  · exact .refl s
  · dsimp only
    rw [amendRecord_frame]
    exact ⟨rfl, rfl, rfl, rfl, rfl⟩

theorem renewWork_untouched (slot gen : Byte) : Untouched s (renewWork slot gen a s).1 := by
  unfold renewWork
  (repeat' split) <;> exact ⟨rfl, rfl, rfl, rfl, rfl⟩

theorem retireWork_untouched (slot gen : Byte) : Untouched s (retireWork slot gen a s).1 := by
  unfold retireWork
  (repeat' split) <;> exact ⟨rfl, rfl, rfl, rfl, rfl⟩

theorem retireOwnerWork_untouched (owner : Byte) :
    Untouched s (retireOwnerWork owner a s).1 := by
  unfold retireOwnerWork
  dsimp only
  (repeat' split) <;> exact ⟨rfl, rfl, rfl, rfl, rfl⟩

theorem loadSegmentWork_untouched (id cls : Byte) (grade rr : Half) :
    Untouched s (loadSegmentWork id grade rr cls a s).1 := by
  unfold loadSegmentWork
  (repeat' split) <;> exact ⟨rfl, rfl, rfl, rfl, rfl⟩

theorem amendSegmentWork_untouched (id cls : Byte) (grade rr : Half) :
    Untouched s (amendSegmentWork id grade rr cls a s).1 := by
  unfold amendSegmentWork amendSegmentState
  dsimp only
  (repeat' split) <;> exact ⟨rfl, rfl, rfl, rfl, rfl⟩

theorem retireSegmentWork_untouched (id : Byte) : Untouched s (retireSegmentWork id a s).1 := by
  unfold retireSegmentWork
  (repeat' split) <;> exact ⟨rfl, rfl, rfl, rfl, rfl⟩

theorem enterSegmentWork_untouched (id hd : Byte) : Untouched s (enterSegmentWork id hd a s).1 := by
  unfold enterSegmentWork enterSegmentState
  dsimp only
  (repeat' split) <;> exact ⟨rfl, rfl, rfl, rfl, rfl⟩

theorem leaveSegmentWork_untouched : Untouched s (leaveSegmentWork a s).1 := by
  unfold leaveSegmentWork
  (repeat' split) <;> exact ⟨rfl, rfl, rfl, rfl, rfl⟩

theorem clearGridWork_untouched (g : Byte) : Untouched s (clearGridWork g a s).1 := by
  unfold clearGridWork
  (repeat' split) <;> exact ⟨rfl, rfl, rfl, rfl, rfl⟩

theorem startSweepWork_untouched (l : Link) (g0 gs m0 ms : Half) :
    Untouched s (startSweepWork l g0 gs m0 ms a s).1 := by
  unfold startSweepWork
  (repeat' split) <;> exact ⟨rfl, rfl, rfl, rfl, rfl⟩

theorem readSweepWork_untouched : Untouched s (readSweepWork a s).1 := by
  unfold readSweepWork; split <;> exact ⟨rfl, rfl, rfl, rfl, rfl⟩

theorem setPointWork_untouched (k : Byte) (v x : Half) : Untouched s (setPointWork k v x a s).1 := by
  unfold setPointWork
  dsimp only
  (repeat' split) <;> exact ⟨rfl, rfl, rfl, rfl, rfl⟩

theorem tareWork_untouched : Untouched s (tareWork a s).1 := by
  unfold tareWork
  (repeat' split) <;> exact ⟨rfl, rfl, rfl, rfl, rfl⟩

theorem clearAttentionWork_untouched (l : Link) (c : Half) :
    Untouched s (clearAttentionWork l c a s).1 := by
  unfold clearAttentionWork; split <;> exact ⟨rfl, rfl, rfl, rfl, rfl⟩

theorem setMaskWork_untouched (l : Link) (c : Half) : Untouched s (setMaskWork l c a s).1 := by
  unfold setMaskWork; split <;> exact ⟨rfl, rfl, rfl, rfl, rfl⟩

theorem setParamWork_untouched (i : Byte) (v : Half) : Untouched s (setParamWork i v a s).1 := by
  unfold setParamWork
  split
  · exact .refl s
  split
  · exact .refl s
  split
  · exact .refl s
  · dsimp only
    rw [setParamState_frame]
    exact ⟨rfl, rfl, rfl, rfl, rfl⟩

theorem leaseStepState_untouched : Untouched s (leaseStepState s) := by
  unfold leaseStepState
  dsimp only
  split <;> exact ⟨rfl, rfl, rfl, rfl, rfl⟩

theorem sweepEntryState_untouched : Untouched s (sweepEntryState s) := by
  unfold sweepEntryState
  dsimp only
  (repeat' split) <;> exact ⟨rfl, rfl, rfl, rfl, rfl⟩

theorem loadWindowState_untouched (p : Four Nat) : Untouched s (loadWindowState p s) := by
  constructor <;> simp [loadWindowState]

/-! ### The requests of the speed unit (R56, R61, R62, R66) -/

theorem speedFixWork_keeps (v q : Half) : KeepsReference s (speedFixWork v q a s).1 := by
  unfold speedFixWork
  split
  · exact .refl s
  · exact ⟨.same ⟨⟨rfl, rfl, rfl⟩, rfl, rfl, rfl, rfl⟩, id, id⟩

theorem lockWork_keeps : KeepsReference s (lockWork a s).1 := by
  unfold lockWork
  dsimp only
  split
  · exact .refl s
  · exact ⟨.same ⟨⟨rfl, rfl, rfl⟩, rfl, rfl, rfl, rfl⟩, fun _ => rfl, fun _ => rfl⟩

theorem clearSourceFailWork_keeps : KeepsReference s (clearSourceFailWork a s).1 :=
  ⟨.same ⟨⟨rfl, rfl, rfl⟩, rfl, rfl, rfl, rfl⟩, id, id⟩

theorem selectWork_keepsDrive (b : Byte) : KeepsDrive s (selectWork b a s).1 := by
  unfold selectWork
  dsimp only
  (repeat' split) <;> exact .same ⟨⟨rfl, rfl, rfl⟩, rfl, rfl, rfl, rfl⟩

theorem selectWork_lock (b : Byte) : (selectWork b a s).1.speed.lock = s.speed.lock := by
  unfold selectWork
  dsimp only
  (repeat' split) <;> rfl

/-! ### The demand (R73 to R75, R77) -/

/-- A change of the torque record alone. -/
theorem KeepsDrive.torque {s : State} {q : TorqueGov}
    (h : s.torque.InOrder s.drive.state → q.InOrder s.drive.state) : KeepsDrive s (withTorque q s) := by
  refine ⟨fun hs => hs.move ⟨rfl, rfl, rfl⟩ .inl id, fun hs => ?_⟩
  obtain ⟨hd, hq, ha⟩ := driveInOrder_iff.1 hs
  exact driveInOrder_iff.2 ⟨hd, h hq, ha⟩

theorem demandTaken_keeps (d st : Half) (dir : Direction) :
    KeepsReference s (demandTaken d st dir s) := by
  unfold demandTaken
  split
  · next hr =>
    refine .of_speed rfl (.torque fun _ => ⟨fun _ => hr, by simp [hr], fun n hn => ?_⟩)
    cases hn; omega
  · exact .of_speed rfl (.torque fun ⟨hd, hl, hr⟩ => ⟨hd, hl, hr⟩)

theorem setDemandWork_keeps (d st : Half) (b : Byte) :
    KeepsReference s (setDemandWork d st b a s).1 := by
  unfold setDemandWork
  split
  · exact .refl s
  split
  · exact .refl s
  split
  · exact demandTaken_keeps s d st _
  · exact .refl s

/-- The lease count (R75): below its end it stays in its range, at its end HOLD is entered. -/
theorem leaseCounted_keeps : KeepsDrive s (leaseCounted s) := by
  unfold leaseCounted
  split
  · next h =>
    simp only [leaseExpires, Bool.and_eq_true, beq_iff_eq] at h
    exact .handHold_of_ready _ rfl rfl h.1
  · next h =>
    split
    · next hr =>
      refine .torque fun ⟨hd, hl, hrange⟩ => ⟨hd, by simpa using hl, fun n hn => ?_⟩
      obtain ⟨m, hm, rfl⟩ := Option.map_eq_some_iff.1 hn
      have : ¬ m ≤ 1 := fun hle => h (by simp [leaseExpires, hr, hm, hle])
      have := hrange m hm
      omega
    · exact .refl s

theorem silenceCounted_keeps : KeepsDrive s (silenceCounted s) := by
  have hw : KeepsDrive s (withTorque
      { s.torque with wheels := s.torque.wheels.map (WheelState.silenced s.torque.direction) } s) :=
    .same ⟨⟨rfl, rfl, rfl⟩, rfl, rfl, rfl, rfl⟩
  unfold silenceCounted
  dsimp only
  split
  · exact hw.trans (.handWheelLoss _)
  · exact hw

theorem handOver_untouched : Untouched s (handOver s) := ⟨rfl, rfl, rfl, rfl, rfl⟩

theorem commandStepState_keeps : KeepsReference s (commandStepState s) := by
  have counted : KeepsDrive s (silenceCounted (leaseCounted s)) :=
    (leaseCounted_keeps s).trans (silenceCounted_keeps _)
  exact .of_speed (by simp [commandStepState])
    ((counted.trans (.untouched (handOver_untouched _))).trans (.evaluateAssist _))

/-! ### The requests and inputs of the drive (R174 to R180) -/

theorem parkState_keeps : KeepsReference s (parkState s) := by
  unfold parkState
  split
  · exact .refl s
  · exact .of_speed (by simp) (.parkReleased _ s)
  · next h => exact .of_speed (by simp) (.enterParked (by simp [h]))
  · next h => exact .of_speed (by simp) (.enterParked (by simp [h]))
  · exact .refl s
  · exact .refl s

theorem parkWork_keeps : KeepsReference s (parkWork a s).1 := by
  unfold parkWork
  split
  · exact .refl s
  split
  · exact .refl s
  split
  · exact .refl s
  · exact parkState_keeps s

/-- UNPARK starts the release timer in PARKED, where there is a current source (R175). -/
theorem unparkWork_keeps : KeepsReference s (unparkWork a s).1 := by
  unfold unparkWork
  split
  · exact .refl s
  split
  · exact .refl s
  split
  · exact .refl s
  next hp =>
  split
  · exact .refl s
  next hn =>
  have hd : s.drive.state = .parked := not_not.1 hp
  refine .of_speed (by simp [driveDone, unparkState]) (.enter rfl (by simp) (fun _ => .inr ?_) fun ho =>
    ⟨by simp, fun n h => ?_, by simp, fun _ => ho.empty (by simp [hd]) (by simp [hd]), by simp, ho.mark⟩)
  · exact Option.isSome_iff_ne_none.2 (not_or.1 hn).1
  · cases h; omega

theorem clearHoldWork_keeps : KeepsReference s (clearHoldWork a s).1 := by
  unfold clearHoldWork
  split
  · exact .refl s
  split
  · exact .refl s
  next hp =>
  split
  · exact .refl s
  split
  · exact .refl s
  have hd : s.drive.state = .hold := not_not.1 hp
  exact .of_speed (by simp [driveDone, clearHoldState]) (.enter rfl (by simp)
    (fun _ => .inl (.inr (.inl hd))) fun ho => .of_idle (ho.idle (by simp [hd])) (by simp) (by simp)
      (fun _ => rfl) (by simp) ho.mark)

theorem safetyHoldWork_keeps : KeepsReference s (safetyHoldWork a s).1 := by
  unfold safetyHoldWork
  split
  · exact .of_speed (by simp [driveDone]) (.handHold _ s)
  · exact .refl s

theorem tripWork_keeps : KeepsReference s (tripWork a s).1 :=
  .of_speed (by simp [tripWork, driveDone]) (.handTrip _ s)

theorem resetTripWork_keeps : KeepsReference s (resetTripWork a s).1 := by
  unfold resetTripWork
  split
  · exact .refl s
  next hp =>
  split
  · exact .refl s
  split
  · exact .refl s
  have hd : s.drive.state = .tripped := not_not.1 hp
  exact .of_speed (by simp [driveDone]) (.enterParked (by simp [hd]))

theorem setModeWork_keeps (m : Byte) : KeepsReference s (setModeWork m a s).1 := by
  unfold setModeWork
  split
  · exact .refl s
  split
  · exact .refl s
  · exact .of_speed rfl (.record rfl fun ho => ho.unread _ _ _ _)

theorem releaseTimeoutState_keeps : KeepsReference s (releaseTimeoutState s) := by
  unfold releaseTimeoutState
  split
  · exact .of_speed (by simp) (.parkReleased _ s)
  · exact .refl s

/-- A millisecond of the release timer: above 1 it counts, at 1 RELEASING ends (R175, R176). -/
theorem releaseTick_keeps : KeepsReference s (releaseTick s) := by
  unfold releaseTick
  split
  · exact .refl s
  next n hn =>
  split
  · exact releaseTimeoutState_keeps s
  · refine .of_speed rfl (.record rfl fun ho =>
      ⟨ho.parked, ho.released, by simpa [hn] using ho.timer, fun m hm => ?_, ho.held, ho.kept,
        ho.empty, ho.cause, ho.mark⟩)
    cases hm
    have := ho.range n hn
    omega

/-- The end of RELEASING at the brake-released input (R176). -/
theorem releasedState_keeps (h : s.drive.state = .releasing) : KeepsDrive s (releasedState s) := by
  have needs : s.drive.state.NeedsSource := .inr (.inr h)
  unfold releasedState
  dsimp only
  refine .trans ?_ (.handWheelLoss _)
  split
  · next hc =>
    refine .enter rfl (by simp) (fun _ => .inl needs) fun ho => .of_idle rfl (by simp) (fun _ e => ?_)
      (by simp) (by simp) ho.mark
    simp only [HoldSet.empty, HoldSet.mk.injEq, Conditions.any, Bool.or_eq_true] at e hc
    simp [e] at hc
  · exact .enter rfl (by simp) (fun _ => .inl needs) fun ho => .of_idle rfl (by simp) (by simp)
      (fun _ => ho.empty (by simp [h]) (by simp [h])) (by simp) ho.mark

theorem brakeInputState_keeps (b : Bool) : KeepsReference s (brakeInputState b s) := by
  have hb : KeepsDrive s { s with drive := { s.drive with brakeReleased := b } } :=
    .record rfl fun ho => ho.unread _ _ _ _
  unfold brakeInputState
  split
  · exact .refl s
  dsimp only
  split
  · next h =>
    refine .of_speed ?_ (hb.trans (releasedState_keeps _ h.2))
    unfold releasedState
    dsimp only
    split <;> simp
  · exact .of_speed rfl hb

/-! ### Steps that hand causes (R89, R93, R113, R128, R139, R172) -/

theorem inverterMessageState_keeps (w : Wheel) (n : Nat) (f : Bool) :
    KeepsReference s (inverterMessageState w n f s) := by
  have ht : KeepsDrive s ({ s with speed := s.speed.told w n }.setWheel w
      ((s.wheel w).reported f s.torque.direction s.drive.state)) :=
    .same ⟨⟨rfl, rfl, rfl⟩, rfl, rfl, rfl, rfl⟩
  unfold inverterMessageState
  dsimp only
  split
  · refine ⟨ht.trans (.handWheelLoss _), ?_, ?_⟩ <;> simp [SpeedUnit.told]
  · exact ⟨ht, id, id⟩

theorem capacityStepState_keeps (i : CapacityIn) : KeepsReference s (capacityStepState i s) := by
  have h1 : Untouched s (raiseIf (anyGridFaulted s { s with retard := capacityUnit i s }) .gridFault
      (updateGov (capacityUpdates i s) { s with retard := capacityUnit i s })) := by
    constructor <;> simp only [raiseIf_speed, updateGov_speed, raiseIf_drive, updateGov_drive,
      raiseIf_torque, updateGov_torque, raiseIf_retard, updateGov_retard]
    rfl
  unfold capacityStepState
  dsimp only
  split
  · exact .of_speed (by simp) ((KeepsDrive.untouched h1).trans (.handTrip _ _))
  · exact .untouched h1

theorem KeepsDrive.handCondition (c : HoldCause) (x y : Bool) (s : State) :
    KeepsDrive s (handCondition c x y s) := by
  unfold Machine.handCondition
  split
  · exact .refl s
  split
  · exact .handHold c s
  · exact .record rfl fun ho => ho.unread _ _ _ _

theorem steerStepState_keeps (i : SteerIn) : KeepsReference s (steerStepState i s) := by
  have h1 : Untouched s (updateGov (steerUpdates i s) { s with steer := steerUnit i s }) := by
    constructor <;> simp
  exact .of_speed (by simp [steerStepState])
    ((KeepsDrive.untouched h1).trans (.trans (.handCondition _ _ _ _) (.handCondition _ _ _ _)))

/-! ### The window (R52) -/

/-- Stage 3 moves a TRACKING tracker to TRACKING or LOST alone (R57). -/
theorem Tracker.stepped_tracking {b : Bool} {t : Tracker} (h : t.state = .tracking) :
    (t.stepped b).state = .tracking ∨ (t.stepped b).state = .lost := by
  unfold stepped
  simp only [h]
  (repeat' split) <;> simp

/-- After a window a current source is TRACKING and the reference VALID (R57, R59). -/
theorem unitSelected_inForce (i : WindowIn) {s : State} (h : s.speed.InForce) :
    (unitSelected i s).InForce := by
  rw [unitSelected_eq]
  refine SpeedUnit.selected_keeps (P := SpeedUnit.InForce) (fun w n q b _ _ ht => ?_)
    (fun w hw => ⟨hw.valid, hw.tracking⟩) ?_
  · exact ⟨⟨fun _ => rfl, fun _ => rfl⟩, fun c hc => by
      cases hc; exact SpeedUnit.isTracking_iff.1 ht⟩
  · rcases (unitTracked i s).fallback_cases with ⟨hl, e⟩ | ⟨-, n, hf, e⟩ | ⟨-, -, e⟩ <;> rw [e]
    · refine ⟨by simpa using h.valid, fun c hc => ?_⟩
      have hs : ((readSources i s).trackers.get c).state = .tracking := by
        rw [readSources_tracker]
        exact h.tracking c (by simpa using hc)
      rw [unitTracked_tracker]
      refine (Tracker.stepped_tracking hs).resolve_right fun hlost => ?_
      rw [SpeedUnit.currentLost_iff.2 ⟨c, hc, by rw [unitTracked_tracker]; exact hlost⟩] at hl
      cases hl
    · exact ⟨⟨fun _ => rfl, fun _ => rfl⟩, fun c hc => by
        cases hc; exact SpeedUnit.isTracking_iff.1 (SpeedUnit.isTracking_of_first hf)⟩
    · exact ⟨by simp, by simp⟩

/-- Without a current source after it a window that lost none leaves the drive state (R171, R182). -/
theorem windowDriven_state {i : WindowIn} {s : State} (hc : (unitSelected i s).current = none)
    (hk : (unitTracked i s).referenceLost = false) :
    (windowDriven i s).drive.state = s.drive.state := by
  by_cases h1 : s.drive.state = .tripped
  · rw [windowDriven_tripped h1, windowHanded_kept hk]
    simp [trippedWindow]
  by_cases h2 : s.drive.state = .starting
  · rw [windowDriven_waits h2 hc, windowHanded_kept hk]
    simp
  · rw [windowDriven_other h1 h2, windowHanded_kept hk]
    simp

/-- Handed causes never enter STARTING. -/
theorem handWheelLoss_starting {s : State} (h : s.drive.state ≠ .starting) :
    (handWheelLoss s).drive.state ≠ .starting := by
  unfold handWheelLoss
  split
  · split
    · simp
    · split
      · unfold handHold; dsimp only; split <;> simp_all [enterHold]
      · exact h
  · exact h

theorem endStarting_starting (s : State) : (endStarting s).drive.state ≠ .starting := by
  unfold endStarting
  split
  · simp
  split
  · exact handWheelLoss_starting (by simp [enterHold])
  split
  · exact handWheelLoss_starting (by simp [enterHold])
  · simp [enterParked]

/-- A window leaves STARTING only where it found it and left no current source (R182). -/
theorem windowDriven_starting {i : WindowIn} {s : State}
    (h : (windowDriven i s).drive.state = .starting) :
    s.drive.state = .starting ∧ (unitSelected i s).current = none := by
  have handed : (windowHanded i s).drive.state = .starting → s.drive.state = .starting := by
    rw [windowHanded_eq]; split <;> simp
  by_cases h1 : s.drive.state = .tripped
  · rw [windowDriven_tripped h1] at h
    simpa [h1] using handed h
  by_cases h2 : s.drive.state = .starting
  · refine ⟨h2, ?_⟩
    by_contra hc
    have hc : (unitSelected i s).current.isSome = true := Option.isSome_iff_ne_none.2 hc
    rw [windowDriven_ends h2 (not_referenceLost_of_isSome hc) hc] at h
    exact endStarting_starting _ h
  · rw [windowDriven_other h1 h2] at h
    exact absurd (handed h) h2

theorem windowState_source (i : WindowIn) {s : State} (h : SourceInForce s) :
    SourceInForce (windowState i s) := by
  obtain ⟨hf, needs, seeks⟩ := sourceInForce_iff.1 h
  refine sourceInForce_iff.2 ⟨by simpa using unitSelected_inForce i hf, fun hd => ?_, fun hd => ?_⟩ <;>
    simp only [windowState_speed, windowState_drive] at hd ⊢
  · by_contra hn
    have hc : (unitSelected i s).current = none := by simpa using hn
    cases hk : (unitTracked i s).referenceLost with
    | true => rw [windowDriven_lost hk] at hd; simp [Drive.NeedsSource] at hd
    | false =>
      rw [windowDriven_state hc hk] at hd
      rw [window_referenceLost_iff.2 ⟨needs hd, hc⟩] at hk
      cases hk
  · obtain ⟨hs, hc⟩ := windowDriven_starting hd
    have hr := seeks hs
    have hn : s.speed.current = none := by
      by_contra hsome
      rw [hf.valid.1 (Option.isSome_iff_ne_none.2 hsome)] at hr
      cases hr
    have := (SpeedUnit.selected_of_current (u := unitTracked i s)
      (p := preferredSource s.straps.srcPref) (by rw [← unitSelected_eq, hc]; simp [hn])).2
    rw [unitSelected_eq, this]
    simpa using hr

/-- The brake rule of TRIPPED touches the apply count and the park brake output alone (R171). -/
theorem trippedWindow_keeps {s : State} (h : s.drive.state = .tripped) :
    KeepsDrive s (trippedWindow s) := by
  unfold trippedWindow
  exact .record rfl fun ho =>
    ⟨by simp [h], by simp [h], ho.timer, ho.range, ho.held, ho.kept, ho.empty, ho.cause, ho.mark⟩

theorem windowState_order (i : WindowIn) {s : State} (h : DriveInOrder s) :
    DriveInOrder (windowState i s) := by
  have selected : DriveInOrder (windowSelected i s) := by
    obtain ⟨hd, hq, ha⟩ := driveInOrder_iff.1 h
    exact driveInOrder_iff.2 ⟨by simpa using hd, by simpa using hq, by simpa using ha⟩
  have handed : DriveInOrder (windowHanded i s) := by
    rw [windowHanded_eq]
    split
    · exact (KeepsDrive.handTrip _ _).order selected
    · exact selected
  suffices hw : DriveInOrder (windowDriven i s) from
    (KeepsDrive.untouched ⟨rfl, rfl, rfl, rfl, rfl⟩).order hw
  by_cases h1 : s.drive.state = .tripped
  · have ht : (windowHanded i s).drive.state = .tripped := by
      rw [windowHanded_eq]; split <;> simp [h1]
    rw [windowDriven_tripped h1]
    exact (trippedWindow_keeps ht).order handed
  by_cases h2 : s.drive.state = .starting
  · by_cases hc : (unitSelected i s).current.isSome = true
    · rw [windowDriven_ends h2 (not_referenceLost_of_isSome hc) hc]
      exact (KeepsDrive.endStarting (by simpa using h2) (by simpa using hc)).order selected
    · rw [windowDriven_waits h2 (by simpa using hc)]
      exact handed
  · rw [windowDriven_other h1 h2]
    exact handed

theorem unitSelected_lock (i : WindowIn) (s : State) : (unitSelected i s).lock = s.speed.lock := by
  rw [unitSelected_frame]; rfl

/-- With nothing pending before it, nothing is pending after a window (R62). -/
theorem unitSelected_pending {i : WindowIn} {s : State} (h : s.speed.pending = none) :
    (unitSelected i s).pending = none := by
  rw [unitSelected_eq]
  have hf : (unitTracked i s).fallback.pending = none := by
    rcases (unitTracked i s).fallback_cases with ⟨-, e⟩ | ⟨-, n, -, e⟩ | ⟨-, -, e⟩ <;> rw [e] <;>
      exact (unitTracked_pending i s).trans h
  have hs : (unitTracked i s).fallback.switched.pending = none := by
    rcases (unitTracked i s).fallback.switched_cases with ⟨-, e⟩ | ⟨q, hq, -⟩
    · rw [e]; exact hf
    · rw [hf] at hq; cases hq
  rcases (unitTracked i s).fallback.switched.started_cases (preferredSource s.straps.srcPref) with
    e | ⟨-, n, b, -, e⟩ <;> unfold SpeedUnit.selected <;> rw [e] <;> exact hs

theorem windowState_keeps (i : WindowIn) : KeepsReference s (windowState i s) :=
  ⟨⟨windowState_source i, windowState_order i⟩, by simp [unitSelected_lock],
    by simpa using unitSelected_pending⟩

/-! ### Restarts (R181) -/

theorem isCold_keepsDrive {straps : Straps} {b : Bool} {t : State} (h : IsCold straps b t) :
    KeepsDrive s t := by
  obtain ⟨p, q, level, n, l, rfl⟩ := h
  exact ⟨fun _ => cold_source straps b, fun _ => cold_drive straps b⟩

/-- A warm restart keeps the trip cause that its mark stands for (R170, R181). -/
theorem warmRestart_keeps : KeepsReference s (warmRestart s) := by
  rw [warmRestart_eq]
  refine ⟨⟨fun _ => ?_, fun h => ?_⟩, id, fun _ => rfl⟩
  · exact ⟨⟨nofun, nofun⟩, nofun, (by rintro (h | h | h) <;> cases h), fun _ => rfl⟩
  · obtain ⟨⟨-, -, -, -, -, -, -, cause, -⟩, -, -⟩ := driveInOrder_iff.1 h
    refine driveInOrder_iff.2 ⟨⟨nofun, fun _ => rfl, ⟨nofun, nofun⟩, nofun, nofun, fun _ => rfl,
      fun _ h => absurd rfl h, fun hm => ?_, fun _ => rfl⟩, ⟨nofun, ⟨nofun, nofun⟩, nofun⟩, nofun, ?_⟩
    · have hm := hm.resolve_left nofun
      change (s.drive.state == .tripped || (s.drive.state == .starting && s.drive.tripMark)) = true at hm
      simp only [Bool.or_eq_true, beq_iff_eq, Bool.and_eq_true] at hm
      exact cause (hm.imp id And.right)
    · dsimp only
      split <;> omega

theorem restartInputState_keeps (level : Bool) : KeepsReference s (restartInputState level s) := by
  unfold restartInputState
  dsimp only
  split
  · obtain ⟨⟨hs, ho⟩, hl, hp⟩ := warmRestart_keeps { s with pins := { s.pins with restart := level } }
    exact ⟨⟨hs, ho⟩, hl, hp⟩
  · exact .untouched ⟨rfl, rfl, rfl, rfl, rfl⟩

end

/-- RESTART keeps the reference, or it is a cold one. -/
theorem restartState_cases (h : Hdr) (kind : Byte) (s : State) :
    KeepsReference s (restartState h kind s) ∨
      (KeepsDrive s (restartState h kind s) ∧ kind = 0 ∧ authorityOf h = some .safety) := by
  unfold restartState
  split
  · exact .inl (.untouched ⟨rfl, rfl, rfl, rfl, rfl⟩)
  next a ha =>
  split
  · exact .inl (.untouched ⟨rfl, rfl, rfl, rfl, rfl⟩)
  next cold hc =>
  dsimp only
  split
  · next hcold =>
    refine .inr ⟨isCold_keepsDrive s (coldRestart_isCold _), ?_⟩
    unfold restartCheck at hc
    split at hc
    · cases hc
    · next hk =>
      split at hc
      · next hs =>
        refine ⟨?_, by rw [ha, hs]⟩
        unfold coldOfCode at hk
        split at hk
        · next h0 => exact word_eq_zero.2 h0
        · cases hk
        · cases hk
      · cases hc
    · cases hc; cases hcold
  · obtain ⟨⟨hs, ho⟩, hl, hp⟩ := warmRestart_keeps (exchangeEnded h.link s)
    exact .inl ⟨⟨hs, ho⟩, hl, hp⟩

/-! ### Every command -/

/-- Every command keeps what the drive state and the reference state fix, the lock unless it is a cold
restart, and that nothing is pending unless it is SELECT_SPEED_SOURCE (R62). -/
theorem exec_keepsReference {i : Instr} {s t : State} (h : exec i s = .next t) :
    KeepsReference s t ∨ (KeepsDrive s t ∧ ColdRestartBy i) ∨
      (KeepsDrive s t ∧ t.speed.lock = s.speed.lock ∧
        ∃ (h : Hdr) (source : Byte), i = .selectSpeedSource h source) := by
  have read {h : Hdr} {code : Byte} {f : State → Reply} :
      KeepsReference s (takeRequest h code anyAuthority (reading f) s) := .request fun _ => .refl s
  have other {h : Hdr} {code : Byte} {allowed : Owner → Bool} {work : Owner → State → State × Reply}
      (hw : ∀ a, Untouched s (work a s).1) : KeepsReference s (takeRequest h code allowed work s) :=
    .request fun a => .untouched (hw a)
  have sweep := KeepsReference.untouched (sweepEntryState_untouched s)
  have lease := KeepsReference.untouched (leaseStepState_untouched s)
  have load (p : Four Nat) := KeepsReference.untouched (loadWindowState_untouched s p)
  cases i <;> obtain rfl := Host.Outcome.next.inj h
  case restart hdr kind =>
    rcases restartState_cases hdr kind s with hk | ⟨hk, h0, ha⟩
    · exact .inl hk
    · exact .inr (.inl ⟨hk, .inr ⟨hdr, kind, rfl, h0, ha⟩⟩)
  case powerUp straps b =>
    exact .inr (.inl ⟨isCold_keepsDrive s (powerUpState_isCold straps b s), .inl ⟨straps, b, rfl⟩⟩)
  case selectSpeedSource hdr source =>
    refine .inr (.inr ?_)
    rcases takeRequest_cases hdr 0x31 anyAuthority (selectWork source) s with e | ⟨a, -, -, e⟩ <;>
      rw [e]
    · exact ⟨.untouched ⟨rfl, rfl, rfl, rfl, rfl⟩, rfl, hdr, source, rfl⟩
    · exact ⟨(selectWork_keepsDrive s a source).trans (.untouched ⟨rfl, rfl, rfl, rfl, rfl⟩),
        selectWork_lock s a source, hdr, source, rfl⟩
  all_goals refine .inl ?_
  case nop => exact read
  case frameError => split <;> exact .untouched ⟨rfl, rfl, rfl, rfl, rfl⟩
  case unknownRequest => split <;> exact .untouched ⟨rfl, rfl, rfl, rfl, rfl⟩
  case placeLimit => exact other fun a => placeWork_untouched s a _ _ _ _ _ _
  case amendLimit => exact other fun a => amendWork_untouched s a _ _ _ _ _
  case renewLimit => exact other fun a => renewWork_untouched s a _ _
  case retireLimit => exact other fun a => retireWork_untouched s a _ _
  case retireOwner => exact other fun a => retireOwnerWork_untouched s a _
  case lookupLimit => exact read
  case findLimit => exact read
  case nextLimit => exact read
  case readEnvelope => exact read
  case loadSegment => exact other fun a => loadSegmentWork_untouched s a _ _ _ _
  case amendSegment => exact other fun a => amendSegmentWork_untouched s a _ _ _ _
  case retireSegment => exact other fun a => retireSegmentWork_untouched s a _
  case enterSegment => exact other fun a => enterSegmentWork_untouched s a _ _
  case leaveSegment => exact other (leaveSegmentWork_untouched s)
  case readSegment => exact read
  case speedFix => exact .request fun a => speedFixWork_keeps s a _ _
  case lockSpeedSource => exact .request (lockWork_keeps s)
  case clearSourceFail => exact .request (clearSourceFailWork_keeps s)
  case setDemand => exact .request fun a => setDemandWork_keeps s a _ _ _
  case park => exact .request (parkWork_keeps s)
  case unpark => exact .request (unparkWork_keeps s)
  case clearHold => exact .request (clearHoldWork_keeps s)
  case safetyHold => exact .request (safetyHoldWork_keeps s)
  case trip => exact .request (tripWork_keeps s)
  case resetTrip => exact .request (resetTripWork_keeps s)
  case setControlMode => exact .request fun a => setModeWork_keeps s a _
  case restartInput => exact restartInputState_keeps s _
  case clearGridFault => exact other fun a => clearGridWork_untouched s a _
  case startSweep => exact other fun a => startSweepWork_untouched s a _ _ _ _ _
  case readSweep => exact other (readSweepWork_untouched s)
  case setSteerPoint => exact other fun a => setPointWork_untouched s a _ _ _
  case readSteerPoint => exact read
  case tare => exact other (tareWork_untouched s)
  case readStatus => exact read
  case clearAttention => exact other fun a => clearAttentionWork_untouched s a _ _
  case setAttentionMask => exact other fun a => setMaskWork_untouched s a _ _
  case setParam => exact other fun a => setParamWork_untouched s a _ _
  case getParam => exact read
  case leaseStep => exact lease
  case expiry => exact .event lease
  case envelopeStep => exact .untouched ⟨rfl, rfl, rfl, rfl, rfl⟩
  case window i => exact windowState_keeps s i
  case trackerTracking i => exact .event (windowState_keeps s i)
  case trackerLost i => exact .event (windowState_keeps s i)
  case startSelectionTimeout i => exact .event (windowState_keeps s i)
  case tripApplyCountExpiry i => exact .event (windowState_keeps s i)
  case reprobeStart i => exact .event (windowState_keeps s i)
  case holdDwellEnd => exact .event (commandStepState_keeps s)
  case searchDwellEnd => exact .event (commandStepState_keeps s)
  case commandStep => exact commandStepState_keeps s
  case demandLeaseExpiry => exact .event (commandStepState_keeps s)
  case inverterMessage => exact inverterMessageState_keeps s _ _ _
  case inverterSilent => exact .event (commandStepState_keeps s)
  case capacityStep i => exact capacityStepState_keeps s i
  case gridFault i => exact .event (capacityStepState_keeps s i)
  case linkVoltageClear i => exact .event (capacityStepState_keeps s i)
  case sweepEntry => exact sweep
  case sweepReady => exact .event sweep
  case steerStep i => exact steerStepState_keeps s i
  case steerFault i => exact .event (steerStepState_keeps s i)
  case steerFaultClear i => exact .event (steerStepState_keeps s i)
  case loadWindow p => exact load p
  case latchEnd p => exact .event (load p)
  case brakeReleasedInput b => exact brakeInputState_keeps s b
  case releaseTimeout => exact releaseTimeoutState_keeps s

/-- Settles O59: a step is a tick of the release timer or a command on the state with the queue's rest, and
each keeps both predicates. -/
theorem Settled.driveAndSourceInvariant : Obligations.DriveAndSourceInvariant := by
  intro s t h
  suffices hk : KeepsDrive s t from ⟨hk.source, hk.order⟩
  unfold step at h
  split at h
  · obtain rfl := Host.Outcome.next.inj h
    exact (releaseTick_keeps s).drive
  · next rest _ =>
    have queue : KeepsDrive s { s with pending := rest } := .untouched ⟨rfl, rfl, rfl, rfl, rfl⟩
    exact queue.trans ((exec_keepsReference h).elim (·.drive) fun h => h.elim And.left And.left)

end Sys2Proof.Machine
end

section
/-! SPEED_FIX, SELECT_SPEED_SOURCE, CLEAR_SOURCE_FAIL (O24), and the lock of the speed source (O25). -/

namespace Sys2Proof.Machine

/-! ### The requests past their senders' checks (R56, R61, R62, R66, R185) -/

section
variable {h : Hdr} {a : Owner} {s : State}

theorem exec_speedFix {speed quality : Half} (ha : authorityOf h = some a)
    (hw : a = .dispatch ∨ a = .autonomy) : exec (.speedFix h speed quality) s =
      .next ((speedFixWork speed quality a s).1.exchanged h.link
        (answerOf h 0x30 (speedFixWork speed quality a s).2)) :=
  congrArg Host.Outcome.next (takeRequest_of ha (by rcases hw with rfl | rfl <;> rfl))

theorem exec_selectSpeedSource {source : Byte} (ha : authorityOf h = some a) :
    exec (.selectSpeedSource h source) s = .next ((selectWork source a s).1.exchanged h.link
      (answerOf h 0x31 (selectWork source a s).2)) :=
  congrArg Host.Outcome.next (takeRequest_of ha rfl)

theorem exec_lockSpeedSource (ha : authorityOf h = some .safety) : exec (.lockSpeedSource h) s =
    .next ((lockWork .safety s).1.exchanged h.link (answerOf h 0x32 (lockWork .safety s).2)) :=
  congrArg Host.Outcome.next (takeRequest_of ha rfl)

theorem selectWork_done {source : Byte} {x : Source} (hx : sourceOfCode source = some x)
    (hl : s.speed.lock = false) : selectWork source a s =
      (withSpeed { s.speed with pending := selectedPending s.speed.current x } s,
        .ok (optU8 (s.speed.current.map sourceCode) ++
          optU8 ((selectedPending s.speed.current x).map sourceCode) ++
          u8 (s.speed.trackers.get x).state.code)) := by
  simp only [selectWork, hx, hl]; rfl

theorem selectWork_locked {source : Byte} (hx : sourceOfCode source ≠ none)
    (hl : s.speed.lock = true) : selectWork source a s = (s, .refuse .locked) := by
  obtain ⟨x, hx⟩ := Option.ne_none_iff_exists'.1 hx
  simp only [selectWork, hx, hl, if_true]

end

/-- Settles O24, by each request's checks. -/
theorem Settled.speedRequests : Obligations.SpeedRequests := by
  refine ⟨fun h speed quality s h1 h2 => ?_, fun h a s ha => ⟨fun speed quality hw =>
    ⟨fun hv hq => ?_, fun hbad => ?_⟩, fun source hx => ?_, fun source x hx hl =>
    ⟨selectedPending s.speed.current x, fun hc => if_pos hc, fun hc => if_neg hc, ?_⟩, ?_⟩⟩
  · exact congrArg Host.Outcome.next (takeRequest_refused (dispatchOrAutonomy_false h1 h2))
  · rw [exec_speedFix ha hw, speedFixWork, if_neg (by omega)]
    rfl
  · rw [exec_speedFix ha hw, speedFixWork, if_pos hbad, answerOf_refuse]
  · rw [exec_selectSpeedSource ha]
    simp only [selectWork, hx, answerOf_refuse]
  · rw [exec_selectSpeedSource ha, selectWork_done hx hl]
    rfl
  · exact congrArg Host.Outcome.next (takeRequest_of ha rfl)

/-! ### A window with the lock set (R62) -/

/-- The unit with its lock set. -/
def SpeedUnit.locked (u : SpeedUnit) : SpeedUnit := { u with lock := true }

/-- The state with the lock set. -/
def State.locked (s : State) : State := { s with speed := s.speed.locked }

namespace SpeedUnit

variable (u : SpeedUnit)

theorem measured_locked : u.locked.measured = u.measured.locked := by
  have hc : u.locked.current = u.current := rfl
  unfold measured
  rw [hc]
  split <;> rfl

theorem fallback_locked : u.locked.fallback = u.fallback.locked := by
  have hl : u.locked.currentLost = u.currentLost := rfl
  have hf : u.locked.firstTracking = u.firstTracking := rfl
  unfold fallback
  rw [hl, hf]
  split
  · split <;> rfl
  · rfl

theorem switched_locked : u.locked.switched = u.switched.locked := by
  have hp : u.locked.pending = u.pending := rfl
  have hc : u.locked.current = u.current := rfl
  have ht : u.locked.isTracking = u.isTracking := rfl
  unfold switched
  rw [hp, hc, ht]
  split
  · rfl
  · split
    · rfl
    · split <;> rfl

theorem started_locked (p : Source) : u.locked.started p = (u.started p).locked := by
  have hc : u.locked.current = u.current := rfl
  have hr : u.locked.reference = u.reference := rfl
  have hw : u.locked.windows = u.windows := rfl
  have ht : u.locked.isTracking = u.isTracking := rfl
  have hf : u.locked.firstTracking = u.firstTracking := rfl
  unfold started
  rw [hc, hr, hw, ht, hf]
  (repeat' split) <;> rfl

end SpeedUnit

section
variable (s : State)

theorem unitTracked_locked (i : WindowIn) : unitTracked i s.locked = (unitTracked i s).locked := by
  have hr : readSources i s.locked = (readSources i s).locked := rfl
  unfold unitTracked
  rw [hr, SpeedUnit.measured_locked]
  rfl

theorem unitSelected_locked (i : WindowIn) : unitSelected i s.locked = (unitSelected i s).locked := by
  unfold unitSelected
  rw [unitTracked_locked, SpeedUnit.fallback_locked, SpeedUnit.switched_locked,
    SpeedUnit.started_locked]
  rfl

theorem setsSourceFail_locked (i : WindowIn) : setsSourceFail i s.locked = setsSourceFail i s := by
  unfold setsSourceFail startsOtherAt
  rw [unitTracked_locked, SpeedUnit.fallback_locked, SpeedUnit.switched_locked]
  rfl

theorem updateGov_locked (us : List (Gov × Option Nat)) :
    updateGov us s.locked = (updateGov us s).locked := by
  have hg : s.locked.gov = s.gov := rfl
  unfold updateGov
  rw [hg]
  dsimp only
  split <;> rfl

theorem raiseIf_locked (b : Bool) (c : Attention) : raiseIf b c s.locked = (raiseIf b c s).locked := by
  cases b <;> rfl

theorem evaluateAssist_locked : evaluateAssist s.locked = (evaluateAssist s).locked :=
  raiseIf_locked (setAssist s) _ _

theorem enter_locked (d : Drive) : enter d s.locked = (enter d s).locked := by
  have he : entered d s.locked = (entered d s).locked := rfl
  have h (x : State) : enter d x =
    evaluateAssist (raiseIf (d == .tripped) .tripped (raiseIf (d == .hold) .holdEntered (entered d x))) :=
    rfl
  rw [h, h, he, raiseIf_locked, raiseIf_locked, evaluateAssist_locked]

/-- An entry after a change of the drive's record. -/
theorem enter_with_locked (d : Drive) (x : DriveCtl) :
    enter d { s.locked with drive := x } = (enter d { s with drive := x }).locked :=
  enter_locked { s with drive := x } d

theorem handHold_locked (c : HoldCause) : handHold c s.locked = (handHold c s).locked := by
  by_cases h1 : s.drive.state = .ready
  · rw [handHold_ready h1, handHold_ready (s := s.locked) h1]
    exact enter_with_locked s _ _
  by_cases h2 : s.drive.state = .hold
  · rw [handHold_hold h2, handHold_hold (s := s.locked) h2]; rfl
  · rw [handHold_other h1 h2, handHold_other (s := s.locked) h1 h2]; rfl

theorem handTrip_locked (c : TripCause) : handTrip c s.locked = (handTrip c s).locked := by
  by_cases h : s.drive.state = .tripped
  · rw [handTrip_tripped h, handTrip_tripped (s := s.locked) h]; rfl
  · rw [handTrip_other h, handTrip_other (s := s.locked) h]
    exact enter_with_locked s _ _

theorem handWheelLoss_locked : handWheelLoss s.locked = (handWheelLoss s).locked := by
  have hd : s.locked.drive = s.drive := rfl
  have ht : s.locked.torque = s.torque := rfl
  unfold handWheelLoss
  rw [hd, ht, handTrip_locked, handHold_locked]
  (repeat' split) <;> rfl

theorem enterHold_locked (x : HoldSet) : enterHold x s.locked = (enterHold x s).locked :=
  enter_with_locked s _ _

theorem endStarting_locked : endStarting s.locked = (endStarting s).locked := by
  have hd : s.locked.drive = s.drive := rfl
  have hv : s.locked.speed.v = s.speed.v := rfl
  unfold endStarting
  rw [hd, hv, enterHold_locked, enterHold_locked, handWheelLoss_locked, handWheelLoss_locked]
  split
  · exact enter_with_locked s _ _
  split
  · rfl
  split
  · rfl
  · exact enter_with_locked s _ _

theorem driveAtWindow_locked (d : Drive) :
    driveAtWindow d s.locked = (driveAtWindow d s).locked := by
  cases d with
  | starting =>
    have hd : s.locked.drive = s.drive := rfl
    have hc : s.locked.speed.current = s.speed.current := rfl
    unfold driveAtWindow
    dsimp only
    rw [hd, hc, endStarting_locked]
    split <;> rfl
  | tripped => rfl
  | parked => rfl
  | releasing => rfl
  | ready => rfl
  | hold => rfl

/-- A window reads the lock nowhere: it does with the lock set what it does without (R62). -/
theorem windowState_locked (i : WindowIn) : windowState i s.locked = (windowState i s).locked := by
  have hs : windowSelected i s.locked = (windowSelected i s).locked := by
    have hu (x : State) (u : SpeedUnit) : ({ x.locked with speed := u.locked } : State) =
      State.locked { x with speed := u } := rfl
    unfold windowSelected
    dsimp only
    rw [unitSelected_locked, setsSourceFail_locked, hu, updateGov_locked, raiseIf_locked]
    rfl
  have hh : windowHanded i s.locked = (windowHanded i s).locked := by
    have hl : (unitTracked i s).locked.referenceLost = (unitTracked i s).referenceLost := rfl
    rw [windowHanded_eq, windowHanded_eq, hs, unitTracked_locked, hl, handTrip_locked]
    split <;> rfl
  have hd : windowDriven i s.locked = (windowDriven i s).locked := by
    unfold windowDriven
    rw [hh]
    exact driveAtWindow_locked _ _
  rw [windowState_eq, windowState_eq, hd]
  rfl

end

/-! ### Cold restarts (R25, R70, R181) -/

theorem isCold_unlocked {straps : Straps} {b : Bool} {t : State} (h : IsCold straps b t) :
    t.speed.lock = false ∧ t.speed.pending = none := by
  obtain ⟨p, q, level, n, l, rfl⟩ := h
  exact ⟨rfl, rfl⟩

theorem coldRestart_unlocked {i : Instr} {s t : State} (h : exec i s = .next t)
    (hc : ColdRestartBy i) : t.speed.lock = false ∧ t.speed.pending = none := by
  rcases hc with ⟨straps, b, rfl⟩ | ⟨hdr, kind, rfl, rfl, ha⟩
  · obtain rfl := Host.Outcome.next.inj h
    exact isCold_unlocked (powerUpState_isCold straps b s)
  · rw [exec_restart_done (cold := true) ha rfl] at h
    obtain rfl := Host.Outcome.next.inj h
    exact isCold_unlocked (coldRestart_isCold _)

/-- Settles O25: only a cold restart clears the lock and only SELECT_SPEED_SOURCE makes a source pending, as
what every command keeps says; a window does not read the lock. -/
theorem Settled.speedSourceLock : Obligations.SpeedSourceLock := by
  refine ⟨fun h s ha => ⟨fun hl => ?_, fun hl => ?_⟩, fun h s ha => ?_, fun i s t he hs ht => ?_,
    fun i s t he hc => ?_, fun h source s ha hx hl => ?_, fun i s t he => ?_, fun i s t he hs ht => ?_⟩
  · rw [exec_lockSpeedSource ha, lockWork, if_neg (by simp [hl])]; rfl
  · rw [exec_lockSpeedSource ha, lockWork, if_pos hl]; rfl
  · refine congrArg Host.Outcome.next (takeRequest_refused fun a ha' => ?_)
    simpa [safetyOnly] using fun e : a = .safety => ha (e ▸ ha')
  · rcases exec_keepsReference he with hk | ⟨-, hc⟩ | ⟨-, hk, -⟩
    · rw [hk.lock hs] at ht; cases ht
    · exact hc
    · rw [hk, hs] at ht; cases ht
  · exact coldRestart_unlocked he hc
  · obtain ⟨a, ha⟩ := Option.ne_none_iff_exists'.1 ha
    rw [exec_selectSpeedSource ha, selectWork_locked hx hl, answerOf_refuse]
  · obtain rfl := Host.Outcome.next.inj he
    exact congrArg Host.Outcome.next (windowState_locked s i)
  · rcases exec_keepsReference he with hk | ⟨-, hc⟩ | ⟨-, -, hx⟩
    · exact absurd (hk.pending hs) ht
    · exact absurd (coldRestart_unlocked he hc).2 ht
    · exact hx

end Sys2Proof.Machine
end

section
/-! The readings of a window (O26), its ground speed and its frame (O27). -/

namespace Sys2Proof.Machine

/-! ### Readings (R53 to R55, R89, R99) -/

/-- A window hands each wheel's surface speed to the wheel's adhesion record (R53, R99). -/
theorem windowState_lastSpeed (i : WindowIn) (s : State) :
    (windowState i s).grip.left.lastSpeed = some (surfaceSpeed s s.speed.rpm.left) ∧
      (windowState i s).grip.right.lastSpeed = some (surfaceSpeed s s.speed.rpm.right) :=
  ⟨rfl, rfl⟩

theorem frontPasses_iff {n fL fR : Nat} {good : PerWheel Bool} : frontPasses n good fL fR = true ↔
    4 ≤ n ∧ good.left = true ∧ good.right = true ∧
      max fL fR - min fL fR ≤ 5 + max fL fR * 60 / 1000 := by
  simp only [frontPasses, Bool.and_eq_true, decide_eq_true_eq, and_assoc]

theorem satPasses_iff {fix : Option Fix} {fresh : Nat} : satPasses fix fresh = true ↔
    1 ≤ fresh ∧ ∃ f, fix = some f ∧ 2 ≤ f.quality := by
  simp [satPasses, Option.any_eq_true]

/-- An inverter message tells the unit a wheel's speed and marks it (R54, R89). -/
theorem inverterMessageState_speed (w : Wheel) (rpm : Nat) (fault : Bool) (s : State) :
    (inverterMessageState w rpm fault s).speed = s.speed.told w rpm := by
  unfold inverterMessageState
  dsimp only
  split <;> simp

theorem told_eq (w : Wheel) (rpm : Nat) (u : SpeedUnit) :
    (u.told w rpm).rpm.get w = rpm ∧ (u.told w rpm).marks.get w = true ∧
      u.told w rpm = { u with rpm := (u.told w rpm).rpm, marks := (u.told w rpm).marks } ∧
      (u.told w rpm).rpm.get w.other = u.rpm.get w.other ∧
      (u.told w rpm).marks.get w.other = u.marks.get w.other := by
  cases w <;> exact ⟨rfl, rfl, rfl, rfl, rfl⟩

/-- Settles O26: stage 1's values are those that stand after the window. -/
theorem Settled.windowReadings : Obligations.WindowReadings := by
  refine ⟨fun i s => ⟨windowState i s, exec_window i s, ?_⟩, fun w rpm fault s => ?_⟩
  · have hv (x : Source) := unitSelected_value i s x
    have hp (x : Source) := unitSelected_passed i s x
    obtain ⟨hl, hr⟩ := windowState_lastSpeed i s
    have hf := unitSelected_frame i s
    have pulses : (unitSelected i s).pulses = (readSources i s).pulses := by rw [hf]
    have windows : (unitSelected i s).windows = (readSources i s).windows := by rw [hf]
    simp only [windowState_speed]
    refine ⟨sensorSpeed s (readSources i s).pulses.left, sensorSpeed s (readSources i s).pulses.right,
      surfaceSpeed s s.speed.rpm.left, surfaceSpeed s s.speed.rpm.right,
      by rw [pulses]; rfl, by rw [pulses]; rfl, by rw [pulses]; rfl, by rw [pulses]; rfl,
      by rw [hf]; rfl, by rw [windows]; rfl, hv .front, ?_, rfl, rfl, hv .rear, ?_,
      by rw [hf]; rfl, by rw [hf]; rfl, hl, hr, ?_, ?_, by rw [hf]; rfl, by rw [hf]; rfl⟩
    · rw [windows, ← frontPasses_iff]
      exact iff_of_eq (congrArg (· = true) (hp .front))
    · rw [← Bool.and_eq_true]
      exact iff_of_eq (congrArg (· = true) (hp .rear))
    · refine (hv .sat).trans ?_
      show (s.speed.fix.map Fix.speed).getD 0 = _
      cases s.speed.fix <;> rfl
    · rw [← satPasses_iff]
      exact iff_of_eq (congrArg (· = true) (hp .sat))
  · refine ⟨_, rfl, ?_⟩
    rw [inverterMessageState_speed]
    exact told_eq w rpm s.speed

/-! ### Ground speed (R59) -/

/-- v is the current source's value where its self-check passes. -/
def SpeedUnit.Follows (u : SpeedUnit) : Prop :=
  ∀ d, u.current = some d → (u.trackers.get d).passed = true → u.v = (u.trackers.get d).value

/-- A unit that has just taken a source follows it. -/
theorem SpeedUnit.take_follows (u : SpeedUnit) (n : Source) : (u.take n).Follows := by
  intro d hd hp
  cases hd
  exact take_v_passed hp

/-- After a window v follows the current source (R59). -/
theorem unitSelected_follows (i : WindowIn) (s : State) : (unitSelected i s).Follows := by
  have hu : (unitTracked i s).Follows := fun d hd hp => by
    rw [unitTracked_v_some i s (by simpa using hd), if_pos hp]
  refine SpeedUnit.selected_keeps (P := SpeedUnit.Follows)
    (fun w n _ _ _ _ _ => w.take_follows n) (fun w hw => hw) ?_
  rcases (unitTracked i s).fallback_cases with ⟨-, e⟩ | ⟨-, n, -, e⟩ | ⟨-, -, e⟩ <;> rw [e]
  · exact hu
  · exact (unitTracked i s).take_follows n
  · exact fun d hd => by cases hd

/-- Where no source passes its self-check a window leaves v (R59). -/
theorem unitSelected_v_failed {i : WindowIn} {s : State}
    (h : ∀ x, ((unitTracked i s).trackers.get x).passed = false) :
    (unitSelected i s).v = s.speed.v := by
  have hu : (unitTracked i s).v = s.speed.v := by
    cases hc : s.speed.current with
    | none => exact unitTracked_v_none i s hc
    | some c => rw [unitTracked_v_some i s hc, h c]; rfl
  have take (w : SpeedUnit) (n : Source) (hw : w.trackers = (unitTracked i s).trackers)
      (hv : w.v = s.speed.v) : (w.take n).v = s.speed.v := by
    show (if (w.trackers.get n).passed then _ else w.v) = _
    rw [hw, h n]
    exact hv
  refine SpeedUnit.selected_keeps (P := fun w => w.v = s.speed.v)
    (fun w n _ _ hv hw _ => take w n hw hv) (fun w hw => hw) ?_
  rcases (unitTracked i s).fallback_cases with ⟨-, e⟩ | ⟨-, n, -, e⟩ | ⟨-, -, e⟩ <;> rw [e]
  exacts [hu, take _ n rfl hu, hu]

/-- A window that leaves the current source, or none, leaves v as stage 2 set it and the reference state. -/
theorem unitSelected_kept {i : WindowIn} {s : State}
    (h : (unitSelected i s).current = s.speed.current) :
    (unitSelected i s).v = (unitTracked i s).v ∧
      (unitSelected i s).reference = s.speed.reference := by
  rw [unitSelected_eq] at h ⊢
  rw [← unitTracked_reference i s]
  exact SpeedUnit.selected_of_current (h.trans (unitTracked_current i s).symm)

/-! ### SOURCE_SPEED and the frame (R9, R31, R67) -/

section
variable (i : WindowIn) (s : State)

/-- What a window changes at all. -/
theorem windowState_frame : windowState i s = { s with
    speed := (windowState i s).speed, gov := (windowState i s).gov, env := (windowState i s).env
    ports := (windowState i s).ports, drive := (windowState i s).drive
    torque := (windowState i s).torque, grip := (windowState i s).grip
    retard := { s.retard with
      assist := (windowState i s).retard.assist, causes := (windowState i s).retard.causes } } := by
  have hd := (windowDriven_step i s).frame
  rw [windowSelected_frame] at hd
  rw [windowState_eq, hd]
  rfl

/-- After its selection a window leaves the Limit Table and the envelope alone. -/
theorem windowState_limits : SameLimits (windowSelected i s) (windowState i s) ∧
    (windowState i s).table = (windowSelected i s).table := by
  rw [windowState_eq, (windowDriven_step i s).frame]
  exact ⟨⟨rfl, rfl, rfl⟩, rfl⟩

/-- The one update that a window hands to the Limit Table (R67). -/
theorem windowState_gov : (windowState i s).gov = applyGov s.gov
    (.sourceSpeed, sourceSpeedUpdate { s with speed := unitSelected i s }) := by
  rw [(windowState_limits i s).1.gov]
  simp [windowSelected, updateGov_gov]

/-- The update by the current source (R67). -/
theorem sourceSpeedUpdate_cases (s : State) :
    (s.speed.current = some .sat → sourceSpeedUpdate s = some (s.param .srcSatSpeed)) ∧
    (s.speed.current = some .rear → sourceSpeedUpdate s = some (s.param .srcRearSpeed)) ∧
    (s.speed.current = none ∨ s.speed.current = some .front → sourceSpeedUpdate s = none) := by
  refine ⟨fun h => ?_, fun h => ?_, ?_⟩
  · simp only [sourceSpeedUpdate, h]
  · simp only [sourceSpeedUpdate, h]
  · rintro (h | h) <;> simp only [sourceSpeedUpdate, h]

/-- The envelope is resolved at a window exactly when SOURCE_SPEED changes (R9, R31). -/
theorem windowState_env : ((windowState i s).gov = s.gov → (windowState i s).env = s.env) ∧
    ((windowState i s).gov ≠ s.gov → ResolvedFrom s.env.applied (windowState i s)) := by
  obtain ⟨hl, ht⟩ := windowState_limits i s
  obtain ⟨same, changed⟩ := updateGov_env
    [(.sourceSpeed, sourceSpeedUpdate { s with speed := unitSelected i s })]
    { s with speed := unitSelected i s }
  rw [hl.gov, hl.env]
  simp only [windowSelected, raiseIf_gov, raiseIf_env] at hl ht ⊢
  refine ⟨same, fun hne => (changed hne).sameTable ?_ ⟨?_, ?_, ?_⟩⟩
  · rw [ht]; simp
  · rw [hl.gov]; simp
  · rw [hl.params]; simp
  · rw [hl.env]; simp

end

/-- Settles O27: v by the current source, SOURCE_SPEED by its one update, and the window's frame. -/
theorem Settled.windowGroundSpeed : Obligations.WindowGroundSpeed := by
  intro i s
  have hgov := windowState_gov i s
  obtain ⟨hsame, hchanged⟩ := windowState_env i s
  obtain ⟨sat, rear, dormant⟩ := sourceSpeedUpdate_cases { s with speed := unitSelected i s }
  refine ⟨windowState i s, exec_window i s, ?_, ?_, ?_, ?_, fun h => ?_, fun h => ?_, fun h => ?_,
    hchanged, hsame, ?_⟩
  · rw [windowState_speed]; exact unitSelected_follows i s
  · intro c hs hc hp
    rw [windowState_speed] at *
    rw [(unitSelected_kept (hc.trans hs.symm)).1, unitTracked_v_some i s hs]
    rw [unitSelected_trackers] at hp
    simp [hp]
  · simp only [windowState_speed, unitSelected_trackers]
    exact unitSelected_v_failed
  · intro hs hc
    rw [windowState_speed] at *
    rw [(unitSelected_kept (hc.trans hs.symm)).1, unitTracked_v_none i s hs]
  · rw [hgov, sat (by simpa using h)]; rfl
  · rw [hgov, rear (by simpa using h)]; rfl
  · rw [hgov, dormant (by simpa using h)]; rfl
  · have hone : (windowState i s).gov =
        { s.gov with sourceSpeed := (windowState i s).gov.sourceSpeed } := by
      rw [hgov]
      generalize sourceSpeedUpdate _ = o
      cases o <;> rfl
    rw [← hone]
    exact windowState_frame i s

end Sys2Proof.Machine
end

section
/-! The trackers' table (O28). -/

namespace Sys2Proof.Machine

/-! ### Agreement and the rows (R57, R58) -/

/-- The agreement of a source's value with v, where another source is current (R58). -/
theorem SpeedUnit.agrees_iff (u : SpeedUnit) (x : Source) : u.agrees x = true ↔
    ∀ c, u.current = some c → c ≠ x → (((u.trackers.get x).value : Int) - u.v).natAbs ≤
      5 + u.v * (if x = .rear ∨ c = .rear then 150 else 50) / 1000 := by
  unfold agrees
  cases hc : u.current with
  | none => simp
  | some c =>
    by_cases hx : c = x
    · subst hx
      simp only [if_true, true_iff]
      intro d hd hne
      cases hd
      exact absurd rfl hne
    · simp only [hx, if_false, agreesAt, decide_eq_true_eq, Option.some.injEq]
      have hdist : ((u.trackers.get x).value - (u.v : Int)).natAbs =
          max (u.trackers.get x).value u.v - min (u.trackers.get x).value u.v := by omega
      refine ⟨fun h d hd _ => ?_, fun h => ?_⟩
      · subst hd; rw [hdist]; exact h
      · rw [← hdist]; exact h c rfl hx

namespace Tracker

variable {t : Tracker} {b : Bool}

theorem stepped_absent (h : t.state = .absent) :
    (t.passed = true → (t.stepped b).state = .qualifying ∧ (b = true → (t.stepped b).count = 1) ∧
      (¬b = true → (t.stepped b).count = 0)) ∧
    (t.passed = false → (t.stepped b).state = .absent) := by
  constructor <;> intro hp <;> simp only [stepped, h, hp] <;> cases b <;> simp [h]

theorem stepped_qualifying (h : t.state = .qualifying) :
    (t.passed = true → b = true → t.count < 7 →
      (t.stepped b).state = .qualifying ∧ (t.stepped b).count = t.count + 1) ∧
    (t.passed = true → b = true → 7 ≤ t.count →
      (t.stepped b).state = .tracking ∧ (t.stepped b).count = 8 ∧ (t.stepped b).misses = 0) ∧
    (t.passed = true → ¬b = true →
      (t.stepped b).state = .qualifying ∧ (t.stepped b).count = 0) ∧
    (t.passed = false → (t.stepped b).state = .absent ∧ (t.stepped b).count = 0) := by
  refine ⟨fun hp hb hc => ?_, fun hp hb hc => ?_, fun hp hb => ?_, fun hp => ?_⟩
  · simp [stepped, h, hp, hb, show ¬ 8 ≤ t.count + 1 by omega]
  · simp [stepped, h, hp, hb, show 8 ≤ t.count + 1 by omega]
  · simp [stepped, h, hp, hb]
  · simp [stepped, h, hp]

theorem stepped_tracks (h : t.state = .tracking) :
    (t.passed = true → (t.stepped b).state = .tracking ∧ (t.stepped b).misses = 0) ∧
    (t.passed = false → t.misses < 2 →
      (t.stepped b).state = .tracking ∧ (t.stepped b).misses = t.misses + 1) ∧
    (t.passed = false → 2 ≤ t.misses → (t.stepped b).state = .lost ∧ (t.stepped b).misses = 3) := by
  refine ⟨fun hp => ?_, fun hp hm => ?_, fun hp hm => ?_⟩
  · simp [stepped, h, hp]
  · simp [stepped, h, hp, show ¬ 3 ≤ t.misses + 1 by omega]
  · simp [stepped, h, hp, show 3 ≤ t.misses + 1 by omega]

theorem stepped_lost (h : t.state = .lost) :
    (t.passed = true → (t.stepped b).state = .qualifying ∧ (b = true → (t.stepped b).count = 1) ∧
      (¬b = true → (t.stepped b).count = 0)) ∧
    (t.passed = false → (t.stepped b).state = .lost) := by
  constructor <;> intro hp <;> simp only [stepped, h, hp] <;> cases b <;> simp [h]

end Tracker

section
variable {i : WindowIn} {s : State} {x : Source}

/-- Stage 1 leaves the state, the count and the misses that a tracker's step starts from. -/
theorem readSources_figures (i : WindowIn) (s : State) (x : Source) :
    ((readSources i s).trackers.get x).state = (s.speed.trackers.get x).state ∧
    ((readSources i s).trackers.get x).count = (s.speed.trackers.get x).count ∧
    ((readSources i s).trackers.get x).misses = (s.speed.trackers.get x).misses := by
  rw [readSources_tracker]
  exact ⟨rfl, rfl, rfl⟩

/-- Without a current source agreement is not asked (R57). -/
theorem agrees_of_none (h : s.speed.current = none) : (readSources i s).measured.agrees x = true := by
  refine (SpeedUnit.agrees_iff _ _).2 fun c hc => ?_
  rw [SpeedUnit.measured_current] at hc
  exact absurd (hc.symm.trans h) (by simp)

/-- A source in QUALIFYING with seven passes that passes again, with no current source, is TRACKING (R57). -/
theorem unitTracked_qualified (ht : (s.speed.trackers.get x).state = .qualifying)
    (hc : 7 ≤ (s.speed.trackers.get x).count)
    (hp : ((readSources i s).trackers.get x).passed = true) (hn : s.speed.current = none) :
    ((unitTracked i s).trackers.get x).state = .tracking ∧
      ((unitTracked i s).trackers.get x).count = 8 ∧
      ((unitTracked i s).trackers.get x).misses = 0 := by
  obtain ⟨state, count, -⟩ := readSources_figures i s x
  obtain ⟨-, tracks, -, -⟩ := Tracker.stepped_qualifying (state.trans ht)
  rw [unitTracked_tracker]
  exact tracks hp (agrees_of_none hn) (count ▸ hc)

/-! ### The loss of the current source (R63, R64, R65) -/

/-- The current source at its third failing window is LOST (R57). -/
theorem unitTracked_lost (ht : (s.speed.trackers.get x).state = .tracking)
    (hm : 2 ≤ (s.speed.trackers.get x).misses)
    (hp : ((readSources i s).trackers.get x).passed = false) :
    ((unitTracked i s).trackers.get x).state = .lost := by
  obtain ⟨state, -, misses⟩ := readSources_figures i s x
  obtain ⟨-, -, loses⟩ := Tracker.stepped_tracks (state.trans ht)
  rw [unitTracked_tracker]
  exact (loses hp (misses ▸ hm)).1

/-- The loss of the current source sets SOURCE_FAIL, whatever replaces it (R63 to R65). -/
theorem window_currentLost (hl : (unitTracked i s).currentLost = true) :
    (windowState i s).speed.sourceFail = true ∧ PendingOnBoth .sourceFail (windowState i s) := by
  refine ⟨?_, windowState_sourceFail i s (by simp [setsSourceFail, hl])⟩
  rw [windowState_speed, unitSelected_eq]
  cases hf : (unitTracked i s).firstTracking with
  | none => rw [SpeedUnit.selected_of_referenceLost (by simp [SpeedUnit.referenceLost, hl, hf])]
  | some n => rw [SpeedUnit.selected_of_fallback hl hf, SpeedUnit.switched_sourceFail]

/-- The fallback's pick stays where nothing is pending (R60, R63). -/
theorem window_fallback {n : Source} (hl : (unitTracked i s).currentLost = true)
    (hf : (unitTracked i s).firstTracking = some n) (hp : s.speed.pending = none) :
    (windowState i s).speed.current = some n ∧ (windowState i s).speed.reference = .valid := by
  rw [windowState_speed, unitSelected_eq, SpeedUnit.selected_of_fallback hl hf,
    SpeedUnit.switched_of_none]
  · exact ⟨rfl, rfl⟩
  · exact (unitTracked_pending i s).trans hp

/-- Without a reference loss a window outside STARTING leaves the trip cause (R64). -/
theorem window_trip (hk : (unitTracked i s).referenceLost = false) (h : s.drive.state ≠ .starting) :
    (windowState i s).drive.trip = s.drive.trip := by
  by_cases h1 : s.drive.state = .tripped
  · rw [windowState_drive, windowDriven_tripped_drive h1 rfl]
  · rw [windowState_drive, windowDriven_other h1 h, windowHanded_kept hk, windowSelected_drive]

/-- The reference loss (R64). -/
theorem window_referenceLost (hl : (unitTracked i s).referenceLost = true) :
    (windowState i s).speed.current = none ∧ (windowState i s).speed.reference = .lost ∧
      (windowState i s).speed.v = (unitTracked i s).v ∧
      (windowState i s).speed.pending = s.speed.pending ∧
      (windowState i s).drive.state = .tripped ∧
      (s.drive.state ≠ .tripped → (windowState i s).drive.trip = some .referenceLost ∧
        PendingOnBoth .tripped (windowState i s)) := by
  have hu : unitSelected i s = { unitTracked i s with
      current := none, reference := .lost, sourceFail := true } := by
    rw [unitSelected_eq, SpeedUnit.selected_of_referenceLost hl]
  rw [windowState_speed, hu]
  refine ⟨rfl, rfl, rfl, unitTracked_pending i s, windowDriven_lost hl, fun h1 => ?_⟩
  have hd := (windowDriven_trips hl h1).trans
    (handTrip_other (by rw [windowSelected_drive]; exact h1))
  refine ⟨by rw [windowState_drive, hd, enter_drive], ?_⟩
  rw [windowState_eq, hd]
  exact (enter_raises .tripped _).2 rfl

end

/-- Settles O28: each row of R57's table is a step of one tracker, with the agreement of R58 against v of
stage 2; the loss of the current source brings the fallback or the reference loss. -/
theorem Settled.trackerEvents : Obligations.TrackerEvents := by
  refine ⟨fun x i s hq hc hp hn => ⟨windowState i s, ?_, exec_window i s, ?_⟩,
    fun x i s ht hm hp hc => ⟨windowState i s, ?_, exec_window i s, ?_⟩,
    fun x i s hq => by rw [exec_trackerTracking, if_neg (fun h => hq h.1)],
    fun x i s ht => by rw [exec_trackerLost, if_neg (fun h => ht h.1)],
    fun i s => ⟨windowState i s, exec_window i s, ?_⟩⟩
  · rw [exec_trackerTracking, if_pos ⟨hq, (unitTracked_qualified hq hc hp hn).1⟩]
  · rw [windowState_speed, unitSelected_trackers]
    exact unitTracked_qualified hq hc hp hn
  · rw [exec_trackerLost, if_pos ⟨ht, unitTracked_lost ht hm hp⟩]
  · have hlost := unitTracked_lost ht hm hp
    have hl : (unitTracked i s).currentLost = true :=
      SpeedUnit.currentLost_iff.2 ⟨x, by simpa using hc, hlost⟩
    obtain ⟨fail, attention⟩ := window_currentLost hl
    refine ⟨by rw [windowState_speed, unitSelected_trackers, hlost], fail, attention,
      fun n hf hpend => ?_, fun hf => ?_⟩
    · obtain ⟨current, reference⟩ := window_fallback hl hf hpend
      exact ⟨current, reference, window_trip (by simp [SpeedUnit.referenceLost, hf])⟩
    · obtain ⟨current, reference, hv, hrest⟩ :=
        window_referenceLost (i := i) (s := s) (by simp [SpeedUnit.referenceLost, hl, hf])
      refine ⟨current, reference, ?_, hrest⟩
      rw [← unitSelected_passed, unitSelected_trackers] at hp
      rw [hv, unitTracked_v_some i s hc, hp]
      rfl
  · rintro x _ _ v agrees rfl rfl hv0 hvc hag
    rw [windowState_speed, unitSelected_trackers] at *
    obtain ⟨state, count, misses⟩ := readSources_figures i s x
    have hv : v = (readSources i s).measured.v := by
      rw [← unitTracked_v]
      cases hc : s.speed.current with
      | none => rw [hv0 hc, unitTracked_v_none i s hc]
      | some c => rw [hvc c hc, unitTracked_v_some i s hc]
    obtain rfl : agrees = ((readSources i s).measured.agrees x = true) := by
      refine propext (hag.trans ?_)
      rw [SpeedUnit.agrees_iff, hv, unitTracked_tracker, Tracker.stepped_value,
        SpeedUnit.measured_current, SpeedUnit.measured_trackers]
      rfl
    rw [exec_trackerTracking, exec_trackerLost]
    refine ⟨rfl, rfl, ?_⟩
    simp only [unitTracked_tracker, Tracker.stepped_passed, ← state, ← count, ← misses]
    exact ⟨Tracker.stepped_absent, Tracker.stepped_qualifying, Tracker.stepped_tracks,
      Tracker.stepped_lost⟩

end Sys2Proof.Machine
end

section
/-! The park brake in TRIPPED (O30). -/

namespace Sys2Proof.Machine

/-- Settles O30, from the drive's record after a window in TRIPPED. -/
theorem Settled.tripApplyCount : Obligations.TripApplyCount := by
  refine ⟨fun i s h hc hf hn => ?_, fun i s t he h => ?_,
    fun i s => ⟨windowState i s, exec_window i s, exec_tripApplyCountExpiry i s⟩⟩
  · have hcur : (unitSelected i s).current = none :=
      SpeedUnit.selected_none (by simpa using hc) hf
    have hd : (windowState i s).drive = { s.drive with applyCount := 50, brakeApply := true } := by
      rw [windowState_drive, windowDriven_tripped_drive (n := 50) h (by simp [hcur, hn])]
      simp [not_referenceLost hc, hcur]
    exact ⟨windowState i s, by rw [exec_tripApplyCountExpiry, if_pos ⟨h, by omega, by rw [hd]⟩],
      exec_window i s, hd⟩
  · obtain rfl := Host.Outcome.next.inj he
    rw [windowState_drive, windowState_speed, windowDriven_tripped_drive h rfl]
    refine ⟨rfl, ?_, fun hc => if_pos hc, fun hc => if_neg (Option.isSome_iff_ne_none.1 hc), ?_⟩
    · by_cases hc : (unitSelected i s).current = none
      · simp only [hc, if_true, Option.isNone_none, Bool.true_and, Bool.or_eq_true,
          decide_eq_true_eq, true_and, or_assoc]
        rw [show 50 ≤ min 50 (s.drive.applyCount + 1) ↔ 49 ≤ s.drive.applyCount by omega]
      · simp [hc]
    · simp only [window_referenceLost_iff, and_assoc]

end Sys2Proof.Machine
end

section
/-! The start-up selection, the end of STARTING, the pending switch and the recovery selection (O29). -/

namespace Sys2Proof.Machine

/-! ### Selections without a current source (R60, R64, R68) -/

namespace SpeedUnit

variable {u : SpeedUnit} {n p q : Source}

/-- With nothing current and nothing pending the start-up or the recovery selection alone acts. -/
theorem selected_of_none (hc : u.current = none) (hp : u.pending = none) :
    u.selected q = u.started q := by
  rw [selected, fallback_none hc, switched_of_none hp]

theorem startsOther_iff : u.startsOther p = true ↔ u.current = none ∧ u.reference = .seeking ∧
    u.isTracking p = false ∧ 20 ≤ u.windows ∧ ∃ n, u.firstTracking = some n := by
  simp [startsOther, Option.isSome_iff_exists, and_assoc]

/-- The start-up selection takes another source only where none was current before the window and the
reference was SEEKING (R68). -/
theorem startsOther_selected (h : u.fallback.switched.startsOther p = true) :
    u.current = none ∧ u.reference = .seeking := by
  obtain ⟨hc, hr, -⟩ := startsOther_iff.1 h
  have hf : u.fallback.current = none ∧ u.fallback.reference = .seeking := by
    rcases u.fallback.switched_cases with ⟨-, e⟩ | ⟨q, -, ⟨-, e⟩ | ⟨-, -, e⟩ | ⟨-, -, e⟩⟩ <;>
      rw [e] at hc hr
    · exact ⟨hc, hr⟩
    · exact ⟨hc, hr⟩
    · cases hc
    · exact ⟨hc, hr⟩
  rcases u.fallback_cases with ⟨-, e⟩ | ⟨-, n, -, e⟩ | ⟨-, -, e⟩ <;> rw [e] at hf
  · exact hf
  · cases hf.1
  · cases hf.2

@[simp] theorem fallback_pending (u : SpeedUnit) : u.fallback.pending = u.pending := by
  rcases u.fallback_cases with ⟨-, e⟩ | ⟨-, n, -, e⟩ | ⟨-, -, e⟩ <;> rw [e]
  rfl

/-- A pending source that is TRACKING is switched to (R60). -/
theorem selected_of_pending (hp : u.pending = some p) (ht : u.isTracking p = true) :
    (u.selected q).current = some p ∧ (u.selected q).pending = none := by
  have hs : u.fallback.switched.current = some p ∧ u.fallback.switched.pending = none := by
    rcases u.fallback.switched_cases with ⟨h, -⟩ | ⟨x, h, hx⟩ <;>
      rw [fallback_pending, hp] at h <;> cases h
    rcases hx with ⟨hc, e⟩ | ⟨-, -, e⟩ | ⟨-, hn, -⟩
    · rw [e]; exact ⟨hc, rfl⟩
    · rw [e]; exact ⟨rfl, rfl⟩
    · rw [fallback_isTracking, ht] at hn; cases hn
  rw [selected, started_of_isSome (by simp [hs.1])]
  exact hs

/-- A pending source that is not TRACKING waits; where it was current it must be LOST, since a current
source that is still current is no longer pending (R60). -/
theorem selected_waits (hp : u.pending = some p) (ht : u.isTracking p = false)
    (hl : u.current = some p → (u.trackers.get p).state = .lost) :
    (u.selected q).pending = some p := by
  have hc : u.fallback.current ≠ some p := by
    rcases u.fallback_cases with ⟨hk, e⟩ | ⟨-, n, hf, e⟩ | ⟨-, -, e⟩ <;> rw [e]
    · intro hcp
      rw [currentLost_iff.2 ⟨p, hcp, hl hcp⟩] at hk
      cases hk
    · rintro ⟨⟩
      rw [isTracking_of_first hf] at ht
      cases ht
    · simp
  have hs : u.fallback.switched.pending = some p := by
    rcases u.fallback.switched_cases with ⟨-, e⟩ | ⟨x, h, ⟨hx, -⟩ | ⟨-, hx, -⟩ | ⟨-, -, e⟩⟩
    · rw [e, fallback_pending, hp]
    · rw [fallback_pending, hp] at h; cases h; exact absurd hx hc
    · rw [fallback_pending, hp] at h; cases h
      rw [fallback_isTracking, ht] at hx; cases hx
    · rw [e, fallback_pending, hp]
  rw [selected]
  rcases u.fallback.switched.started_cases q with e | ⟨-, n, b, -, e⟩ <;> rw [e] <;> exact hs

/-- The recovery selection where no pending source is TRACKING (R64). -/
theorem selected_recovers (hc : u.current = none) (hr : u.reference = .lost)
    (hp : ∀ p, u.pending = some p → u.isTracking p = false) :
    (∀ n, u.firstTracking = some n → u.selected q = u.take n) ∧
      (u.firstTracking = none → u.selected q = u) := by
  have hs : u.fallback.switched = u := by
    rw [fallback_none hc]
    rcases u.switched_cases with ⟨-, e⟩ | ⟨x, h, ⟨hx, -⟩ | ⟨-, hx, -⟩ | ⟨-, -, e⟩⟩
    · exact e
    · rw [hc] at hx; cases hx
    · rw [hp x h] at hx; cases hx
    · exact e
  rw [selected, hs]
  exact ⟨fun n hf => started_recovers hc hr hf, fun hf => started_lost hc hr hf⟩

/-- The pending switch while the reference is LOST (R60, R64). -/
theorem selected_switches (hc : u.current = none) (hp : u.pending = some p)
    (ht : u.isTracking p = true) : u.selected q = { u.take p with pending := none } := by
  have hs : u.switched = { u.take p with pending := none } := by simp [switched, hp, hc, ht]
  rw [selected, fallback_none hc, hs, started_of_isSome rfl]

end SpeedUnit

section
variable {i : WindowIn} {s : State}

theorem not_startsOtherAt (h : s.speed.current.isSome = true ∨ s.speed.reference ≠ .seeking) :
    startsOtherAt i s = false := by
  by_contra hs
  obtain ⟨hc, hr⟩ := SpeedUnit.startsOther_selected (Bool.not_eq_false _ ▸ hs)
  rw [unitTracked_current] at hc
  rw [unitTracked_reference] at hr
  rcases h with h | h
  · simp [hc] at h
  · exact h hr

/-- Outside TRIPPED a window without a current source before and after it leaves the drive and the torque
(R182). -/
theorem windowDriven_none (hc : s.speed.current = none) (hn : (unitSelected i s).current = none)
    (h1 : s.drive.state ≠ .tripped) : windowDriven i s = windowSelected i s := by
  rw [← windowHanded_kept (not_referenceLost hc)]
  by_cases h2 : s.drive.state = .starting
  · exact windowDriven_waits h2 hn
  · exact windowDriven_other h1 h2

end

/-! ### The end of STARTING (R93, R170, R182) -/

section
variable {s : State}

theorem endStarting_hold (hm : s.drive.tripMark = false)
    (hv : 5 ≤ s.speed.v ∨ s.drive.hold.safetyHold = true) : endStarting s =
      handWheelLoss (enterHold (startHold (decide (5 ≤ s.speed.v)) s.drive) s) := by
  by_cases h5 : 5 ≤ s.speed.v
  · simp [endStarting, hm, h5]
  · simp [endStarting, hm, h5, hv.resolve_left h5]

/-- The drive's record at an entry from STARTING: the restart trip mark is cleared (R182). -/
theorem enter_drive_starting (d : Drive) {x : DriveCtl} (h : x.state = .starting) :
    (enter d { s with drive := x }).drive = { x with
      state := d, brakeApply := brakeOnEntry d s.speed.v, tripMark := false } := by
  rw [enter_drive]; simp [h]

/-- What an entry to any state but READY leaves once the mark is cleared. -/
structure AfterStarting (t : State) : Prop where
  mark : t.drive.tripMark = false
  demand : t.torque.demand = none
  lease : t.torque.lease = none

theorem enter_afterStarting {d : Drive} (hd : d ≠ .ready)
    (h : s.drive.tripMark = false ∨ s.drive.state = .starting) : AfterStarting (enter d s) := by
  refine ⟨?_, ?_, ?_⟩
  · rw [enter_drive]; rcases h with h | h <;> simp [h]
  · rw [enter_torque]; rfl
  · rw [enter_torque]; simp [torqueOnEntry, hd]

theorem handWheelLoss_afterStarting (h : s.drive.state = .hold) (ha : AfterStarting s) :
    AfterStarting (handWheelLoss s) := by
  unfold handWheelLoss
  split
  · split
    · rw [handTrip_other (by simp [h])]
      exact enter_afterStarting (by simp) (.inl ha.mark)
    · split
      · rw [handHold_hold h]
        exact ⟨ha.mark, ha.demand, ha.lease⟩
      · exact ha
  · exact ha

theorem endStarting_afterStarting (h : s.drive.state = .starting) : AfterStarting (endStarting s) := by
  have entered (d : Drive) (hd : d ≠ .ready) (x : DriveCtl) (hx : x.state = .starting) :
      AfterStarting (enter d { s with drive := x }) := enter_afterStarting hd (.inr hx)
  unfold endStarting
  split
  · exact entered .tripped (by simp) _ h
  split
  · exact handWheelLoss_afterStarting (enter_state _ _) (entered .hold (by simp) _ h)
  split
  · exact handWheelLoss_afterStarting (enter_state _ _) (entered .hold (by simp) _ h)
  · exact entered .parked (by simp) _ h

/-- The wheels at the entry to PARKED: a MUTED wheel with its link UP returns to GOVERNED (R87, R92). -/
theorem enterParked_wheel (s : State) (w : Wheel) : ((enterParked s).wheel w).tprev = 0 ∧
    ((enterParked s).wheel w).mode =
      (if (s.wheel w).link = .up then .governed else (s.wheel w).mode) := by
  have e : (enterParked s).wheel w = ((s.wheel w).zeroed s.torque.direction).returned := by
    rw [enterParked, enter_wheel]; rfl
  rw [e]
  unfold WheelState.returned WheelState.zeroed
  by_cases hl : (s.wheel w).link = .up
  · cases (s.wheel w).mode <;> simp [WheelState.isMuted, hl]
  · simp [hl]

/-- The end of STARTING with the restart trip mark set (R182). -/
theorem endStarting_trips (h : s.drive.state = .starting) (hm : s.drive.tripMark = true) :
    (endStarting s).drive = { s.drive with
      state := .tripped, hold := .empty, applyCount := 0, brakeApply := decide (s.speed.v < 5)
      tripMark := false } ∧
    (endStarting s).retard.assist = 1000 ∧ PendingOnBoth .tripped (endStarting s) := by
  have e : endStarting s =
      enter .tripped { s with drive := { s.drive with hold := .empty, applyCount := 0 } } := by
    simp [endStarting, hm]
  rw [e]
  exact ⟨enter_drive_starting _ h, enter_tripped_assist _, (enter_raises .tripped _).2 rfl⟩

/-- The end of STARTING at a standstill without SAFETY_HOLD (R92, R182). -/
theorem endStarting_parks (h : s.drive.state = .starting) (hm : s.drive.tripMark = false)
    (hv : s.speed.v < 5) (hh : s.drive.hold.safetyHold = false) :
    (endStarting s).drive = { s.drive with
      state := .parked, hold := .empty, brakeApply := true, tripMark := false } ∧
    ∀ w : Wheel, ((endStarting s).wheel w).tprev = 0 ∧ ((endStarting s).wheel w).mode =
      (if (s.wheel w).link = .up then .governed else (s.wheel w).mode) := by
  have e : endStarting s = enterParked s := by simp [endStarting, hm, Nat.not_le.2 hv, hh]
  rw [e]
  exact ⟨enter_drive_starting _ h, enterParked_wheel s⟩

/-- The entry to HOLD at the end of STARTING, with the wheel-loss cause of the MUTED wheels (R93, R182). -/
theorem endStarting_held {H : HoldSet} (h : s.drive.state = .starting)
    (hm : s.drive.tripMark = false) (hv : 5 ≤ s.speed.v ∨ s.drive.hold.safetyHold = true)
    (hH : H = startHold (decide (5 ≤ s.speed.v)) s.drive) :
    PendingOnBoth .holdEntered (endStarting s) ∧
    ((∀ w : Wheel, (s.wheel w).mode = .governed) → (endStarting s).drive = { s.drive with
      state := .hold, hold := H, brakeApply := false, tripMark := false }) ∧
    (∀ w : Wheel, (s.wheel w).mode ≠ .governed → (s.wheel w.other).mode = .governed →
      (endStarting s).drive = { s.drive with
        state := .hold, hold := { H with wheelLost := true }
        brakeApply := false, tripMark := false }) ∧
    ((∀ w : Wheel, (s.wheel w).mode ≠ .governed) →
      (endStarting s).drive = { s.drive with
        state := .tripped, trip := some .bothWheelsLost, later := .empty, hold := .empty
        timer := none, applyCount := 0, brakeApply := decide (s.speed.v < 5), tripMark := false } ∧
      (endStarting s).retard.assist = 1000 ∧ PendingOnBoth .tripped (endStarting s)) := by
  subst hH
  have hd : (enterHold (startHold (decide (5 ≤ s.speed.v)) s.drive) s).drive = { s.drive with
      state := .hold, hold := startHold (decide (5 ≤ s.speed.v)) s.drive, brakeApply := false
      tripMark := false } := enter_drive_starting .hold h
  have hmode (w : Wheel) : ((enterHold (startHold (decide (5 ≤ s.speed.v)) s.drive) s).wheel w).mode =
      (s.wheel w).mode := enter_mode (by simp) _ w
  have hspeed : (enterHold (startHold (decide (5 ≤ s.speed.v)) s.drive) s).speed = s.speed := by simp
  have hraised : PendingOnBoth .holdEntered
      (enterHold (startHold (decide (5 ≤ s.speed.v)) s.drive) s) := (enter_raises .hold _).1 rfl
  rw [endStarting_hold hm hv]
  generalize enterHold (startHold (decide (5 ≤ s.speed.v)) s.drive) s = x at *
  have hs : x.drive.state = .hold := by rw [hd]
  obtain ⟨none, one, both⟩ := (handWheelLoss_cases x).2 (.inr hs)
  simp only [hmode] at none one both
  refine ⟨(DriveStep.handWheelLoss x).pending _ hraised, fun hw => ?_, fun w hw ho => ?_, fun hw => ?_⟩
  · rw [none hw, hd]
  · rw [one w hw ho, handHold_hold hs, hd]
    rfl
  · rw [both hw, handTrip_other (by simp [hs])]
    refine ⟨?_, enter_tripped_assist _, (enter_raises .tripped _).2 rfl⟩
    rw [enter_drive]
    simp [hd, hspeed, brakeOnEntry]

end

/-! ### The window's selections without a current source before it -/

section
variable {i : WindowIn} {s : State}

section
variable (hc : s.speed.current = none) (hr : s.speed.reference = .seeking) (hp : s.speed.pending = none)
include hc hr hp

/-- With nothing current and nothing pending the start-up selection works on the unit of stage 3. -/
theorem window_seeking : (unitTracked i s).current = none ∧ (unitTracked i s).reference = .seeking ∧
    unitSelected i s = (unitTracked i s).started (preferredSource s.straps.srcPref) ∧
    (startsOtherAt i s = true ↔
      (unitTracked i s).isTracking (preferredSource s.straps.srcPref) = false ∧
        20 ≤ (unitTracked i s).windows ∧ ∃ n, (unitTracked i s).firstTracking = some n) := by
  have hc' : (unitTracked i s).current = none := by simpa using hc
  have hr' : (unitTracked i s).reference = .seeking := by simpa using hr
  have hp' : (unitTracked i s).pending = none := by simpa using hp
  refine ⟨hc', hr', SpeedUnit.selected_of_none hc' hp', ?_⟩
  rw [startsOtherAt, SpeedUnit.fallback_none hc', SpeedUnit.switched_of_none hp',
    SpeedUnit.startsOther_iff]
  simp [hc, hr]

/-- The preferred source is taken once it is TRACKING (R68). -/
theorem window_preferred
    (ht : (unitTracked i s).isTracking (preferredSource s.straps.srcPref) = true) :
    unitSelected i s = (unitTracked i s).take (preferredSource s.straps.srcPref) ∧
      startsOtherAt i s = false := by
  obtain ⟨current, seeking, selected, other⟩ := window_seeking (i := i) hc hr hp
  exact ⟨selected.trans (SpeedUnit.started_preferred current seeking ht),
    Bool.eq_false_iff.2 fun h => by rw [(other.1 h).1] at ht; cases ht⟩

/-- From the 20th window another source is taken, and sets SOURCE_FAIL (R68). -/
theorem window_startsOther {n : Source}
    (ht : (unitTracked i s).isTracking (preferredSource s.straps.srcPref) = false)
    (hf : (unitTracked i s).firstTracking = some n) (hw : 20 ≤ (unitTracked i s).windows) :
    unitSelected i s = { (unitTracked i s).take n with sourceFail := true } ∧
      startsOtherAt i s = true := by
  obtain ⟨current, seeking, selected, other⟩ := window_seeking (i := i) hc hr hp
  exact ⟨selected.trans (SpeedUnit.started_other current seeking ht hw hf), other.2 ⟨ht, hw, n, hf⟩⟩

/-- Before it, or with none TRACKING, the unit goes on seeking (R68). -/
theorem window_seeks
    (ht : (unitTracked i s).isTracking (preferredSource s.straps.srcPref) = false)
    (hw : (unitTracked i s).windows < 20 ∨ (unitTracked i s).firstTracking = none) :
    unitSelected i s = unitTracked i s ∧ startsOtherAt i s = false := by
  obtain ⟨current, seeking, selected, other⟩ := window_seeking (i := i) hc hr hp
  refine ⟨selected.trans (SpeedUnit.started_waits current seeking ht hw), Bool.eq_false_iff.2 fun h => ?_⟩
  obtain ⟨-, h20, n, hf⟩ := other.1 h
  rcases hw with hw | hw
  · omega
  · rw [hf] at hw; cases hw

end

/-- The selections while the reference is LOST: the pending source once it is TRACKING, else the first
TRACKING source, else none (R60, R64). -/
theorem window_recovery (hc : s.speed.current = none) (hr : s.speed.reference = .lost) :
    (∀ p, s.speed.pending = some p → (unitTracked i s).isTracking p = true →
      unitSelected i s = { (unitTracked i s).take p with pending := none }) ∧
    ((∀ p, s.speed.pending = some p → (unitTracked i s).isTracking p = false) →
      (∀ n, (unitTracked i s).firstTracking = some n → unitSelected i s = (unitTracked i s).take n) ∧
      ((unitTracked i s).firstTracking = none → unitSelected i s = unitTracked i s)) := by
  have hc' : (unitTracked i s).current = none := by simpa using hc
  have hr' : (unitTracked i s).reference = .lost := by simpa using hr
  exact ⟨fun p hp ht => SpeedUnit.selected_switches hc' ((unitTracked_pending i s).trans hp) ht,
    fun hp => SpeedUnit.selected_recovers hc' hr' (by simpa using hp)⟩

/-- A recovery leaves SOURCE_FAIL (R64). -/
theorem window_recovery_sourceFail (hc : s.speed.current = none) (hr : s.speed.reference = .lost) :
    (unitSelected i s).sourceFail = s.speed.sourceFail := by
  obtain ⟨switches, recovers⟩ := window_recovery (i := i) hc hr
  rw [← unitTracked_sourceFail i s]
  by_cases hp : ∃ p, s.speed.pending = some p ∧ (unitTracked i s).isTracking p = true
  · obtain ⟨p, hp, ht⟩ := hp
    rw [switches p hp ht]; rfl
  · obtain ⟨found, wait⟩ := recovers (by simpa using hp)
    cases hf : (unitTracked i s).firstTracking with
    | none => rw [wait hf]
    | some n => rw [found n hf]; rfl

end

/-- Settles O29: the selections of stage 4 case by case, and the end of STARTING at the window that leaves a
current source. -/
theorem Settled.startSelection : Obligations.StartSelection := by
  refine ⟨fun i s hc hr hp => ⟨fun ht => ⟨windowState i s, exec_window i s, ?_⟩,
    fun n ht hf h19 => ⟨windowState i s, ?_, exec_window i s, ?_⟩,
    fun ht hwait => ⟨windowState i s, exec_window i s, ?_⟩⟩,
    fun i s h hc => ⟨windowState i s, exec_window i s, fun hn => ?_, fun hsome => ?_⟩,
    fun i s h => by rw [exec_startSelectionTimeout, not_startsOtherAt h]; rfl,
    fun i s => ⟨windowState i s, exec_window i s, fun tracking htr => ?_⟩⟩
  · obtain ⟨hu, hnot⟩ := window_preferred hc hr hp ht
    rw [windowState_speed, hu, exec_startSelectionTimeout, hnot]
    exact ⟨rfl, rfl, unitTracked_sourceFail i s, rfl⟩
  · have hw := unitTracked_windows i s
    obtain ⟨-, hyes⟩ := window_startsOther hc hr hp ht hf (by omega)
    rw [exec_startSelectionTimeout, if_pos hyes]
  · have hw := unitTracked_windows i s
    obtain ⟨hu, hyes⟩ := window_startsOther hc hr hp ht hf (by omega)
    rw [windowState_speed, hu]
    exact ⟨rfl, rfl, rfl, windowState_sourceFail i s (by simp [setsSourceFail, hyes])⟩
  · have hw := unitTracked_windows i s
    obtain ⟨hu, hnot⟩ := window_seeks hc hr hp ht (hwait.imp (fun h => by omega) id)
    have hn : (unitSelected i s).current = none := by rw [hu]; simpa using hc
    refine ⟨by simpa using hn, by rw [windowState_speed, hu]; simpa using hr, fun h1 => ?_,
      by rw [exec_startSelectionTimeout, hnot]; rfl⟩
    rw [windowState_drive, windowDriven_none hc hn h1, windowSelected_drive]
  · rw [windowState_speed] at hn
    rw [windowState_drive, windowState_torque, windowDriven_none hc hn (by simp [h])]
    exact ⟨windowSelected_drive i s, windowSelected_torque i s⟩
  · rw [windowState_speed] at hsome ⊢
    have he := windowDriven_ends h (not_referenceLost hc) hsome
    have hx : (windowSelected i s).drive.state = .starting := by simpa using h
    have hwheel (w : Wheel) : (windowState i s).wheel w = (endStarting (windowSelected i s)).wheel w :=
      he ▸ rfl
    have hselected (w : Wheel) : (windowSelected i s).wheel w = s.wheel w := by simp [State.wheel]
    have hport {c : Attention} (hp : PendingOnBoth c (endStarting (windowSelected i s))) :
        PendingOnBoth c (windowState i s) := by rw [← he] at hp; exact hp
    obtain ⟨mark, demand, lease⟩ := endStarting_afterStarting hx
    have trips := endStarting_trips hx
    have parks := endStarting_parks hx
    have held (H : HoldSet) := endStarting_held (H := H) hx
    simp only [hselected, windowSelected_drive, windowSelected_speed] at trips parks held
    simp only [windowState_drive, windowState_torque, windowState_retard, hwheel, he]
    refine ⟨mark, demand, lease, fun hm => ?_, parks, fun hm hv H hH => ?_⟩
    · obtain ⟨drive, assist, attention⟩ := trips hm
      exact ⟨drive, assist, hport attention⟩
    · obtain ⟨entered, none, one, both⟩ := held H hm hv hH
      refine ⟨hport entered, none, one, fun hw => ?_⟩
      obtain ⟨drive, assist, attention⟩ := both hw
      exact ⟨drive, assist, hport attention⟩
  · have htr : tracking = fun x => (unitTracked i s).isTracking x = true := by
      funext x
      rw [SpeedUnit.isTracking_iff, ← unitSelected_trackers, ← windowState_speed]
      exact propext (htr x)
    subst htr
    have follows := unitSelected_follows i s
    simp only [windowState_speed, Bool.not_eq_true] at *
    refine ⟨unitSelected_pending, fun p hp => ⟨fun ht => ?_, fun ht hl => ?_⟩, fun hc hr => ?_⟩
    · obtain ⟨current, pending⟩ := SpeedUnit.selected_of_pending
        (q := preferredSource s.straps.srcPref) ((unitTracked_pending i s).trans hp) ht
      exact ⟨current, pending, follows p current⟩
    · exact SpeedUnit.selected_waits ((unitTracked_pending i s).trans hp) ht (by simpa using hl)
    · obtain ⟨switches, recovers⟩ := window_recovery (i := i) hc hr
      refine ⟨window_recovery_sourceFail hc hr,
        fun h1 => ⟨?_, window_trip (not_referenceLost hc) (by simp [h1])⟩, fun p hp ht => ?_,
        fun hp => ⟨fun n ht hl => ?_, fun hnone => ?_⟩⟩
      · rw [windowState_drive, windowDriven_tripped_drive h1 rfl]; exact h1
      · rw [switches p hp ht]
        exact ⟨rfl, rfl⟩
      · obtain ⟨found, -⟩ := recovers hp
        have hu := found n (SpeedUnit.firstTracking_least ht hl)
        have current : (unitSelected i s).current = some n := by rw [hu]; rfl
        exact ⟨current, by rw [hu]; rfl, follows n current⟩
      · obtain ⟨-, wait⟩ := recovers hp
        rw [wait (SpeedUnit.firstTracking_none_iff.2 hnone)]
        exact ⟨(unitTracked_current i s).trans hc, (unitTracked_reference i s).trans hr,
          unitTracked_v_none i s hc⟩

end Sys2Proof.Machine
end

section
/-! What R87 and R89 to R93 fix in the wheels (O57): on one wheel, on both with the drive state, and over the
changes of drive state. -/

namespace Sys2Proof.Machine

/-! ### One wheel (R87, R89 to R92) -/

namespace WheelState

variable {d : Drive} {dir : Direction} {x : WheelState}

theorem AtRest.of_zero (ht : x.tprev = 0) (hs : x.sent.torque = 0) : x.AtRest d :=
  ⟨fun _ => ⟨ht, hs⟩, fun _ => Int.le_of_eq ht⟩

theorem zeroed_atRest : (x.zeroed dir).AtRest d := .of_zero rfl rfl

/-- A MUTED wheel stays as it is, a GOVERNED one is zeroed and MUTED (R87, R91). -/
theorem muted_cases (m : WheelMode) (dir : Direction) (x : WheelState) :
    (x.mode ≠ .governed ∧ x.muted m dir = x) ∨
      (x.mode = .governed ∧ x.muted m dir = { x.zeroed dir with mode := m }) := by
  unfold muted
  by_cases h : x.mode = .governed <;> simp [isMuted, h]

theorem muted_atRest (m : WheelMode) (h : x.AtRest d) : (x.muted m dir).AtRest d := by
  rcases muted_cases m dir x with ⟨-, e⟩ | ⟨-, e⟩ <;> rw [e]
  · exact h
  · exact .of_zero rfl rfl

theorem muted_mode {m : WheelMode} (hm : m ≠ .governed) : (x.muted m dir).mode ≠ .governed := by
  rcases muted_cases m dir x with ⟨h, e⟩ | ⟨-, e⟩ <;> rw [e]
  · exact h
  · exact hm

@[simp] theorem muted_link (m : WheelMode) : (x.muted m dir).link = x.link := by
  rcases muted_cases m dir x with ⟨-, e⟩ | ⟨-, e⟩ <;> rw [e]; rfl

@[simp] theorem muted_silence (m : WheelMode) : (x.muted m dir).silence = x.silence := by
  rcases muted_cases m dir x with ⟨-, e⟩ | ⟨-, e⟩ <;> rw [e]; rfl

/-- A MUTED wheel with its link UP returns to GOVERNED, every other wheel stays as it is (R92). -/
theorem returned_cases (x : WheelState) :
    ((x.mode = .governed ∨ x.link ≠ .up) ∧ x.returned = x) ∨
      (x.mode ≠ .governed ∧ x.link = .up ∧ x.returned = { x with mode := .governed, tprev := 0 }) := by
  unfold returned
  by_cases h : x.mode = .governed <;> by_cases hl : x.link = .up <;> simp [isMuted, h, hl]

theorem returned_atRest (h : x.AtRest d) : x.returned.AtRest d := by
  rcases returned_cases x with ⟨-, e⟩ | ⟨-, -, e⟩ <;> rw [e]
  · exact h
  · exact ⟨fun hz => ⟨rfl, (h.1 (hz.imp id (by simp [isMuted]))).2⟩, fun _ => Int.le_refl 0⟩

theorem returned_agrees (h : x.Agrees) : x.returned.Agrees := by
  rcases returned_cases x with ⟨-, e⟩ | ⟨-, hl, e⟩ <;> rw [e]
  · exact h
  · exact ⟨h.1, h.2.1, fun _ => hl⟩

/-- Link, silence count and mode are all that agreement reads. -/
theorem Agrees.congr {y : WheelState} (h : x.Agrees) (hl : y.link = x.link)
    (hs : y.silence = x.silence) (hm : y.mode = x.mode) : y.Agrees := by
  unfold Agrees
  rw [hl, hs, hm]
  exact h

/-- Whatever drive state is entered, a wheel that was 0 while MUTED keeps R87. -/
theorem wheelOnEntry_atRest {e : Drive} (h : x.AtRest e) : (wheelOnEntry d dir x).AtRest d := by
  cases d with
  | starting => exact zeroed_atRest
  | parked => exact returned_atRest zeroed_atRest
  | releasing => exact zeroed_atRest
  | tripped => exact zeroed_atRest
  | ready => exact ⟨fun hz => h.1 (hz.imp nofun id), nofun⟩
  | hold =>
    unfold wheelOnEntry
    dsimp only
    split
    · exact zeroed_atRest
    · exact ⟨fun hz => h.1 (hz.imp nofun id), fun _ => by omega⟩

theorem wheelOnEntry_agrees (h : x.Agrees) : (wheelOnEntry d dir x).Agrees := by
  cases d with
  | parked => exact returned_agrees (x := x.zeroed dir) h
  | hold => unfold wheelOnEntry; dsimp only; split <;> exact h
  | starting => exact h
  | releasing => exact h
  | tripped => exact h
  | ready => exact h

end WheelState

/-! ### Both wheels and the drive state (R93) -/

theorem exists_wheel {p : Wheel → Prop} : (∃ w, p w) ↔ p .left ∨ p .right := by
  refine ⟨fun ⟨w, h⟩ => ?_, fun h => h.elim (fun h => ⟨.left, h⟩) fun h => ⟨.right, h⟩⟩
  cases w
  · exact .inl h
  · exact .inr h

/-- The wheel-loss causes have been handed: READY has both wheels GOVERNED, HOLD at least one (R93). -/
def LossHanded (s : State) : Prop :=
  (s.drive.state = .ready → ∀ w : Wheel, (s.wheel w).mode = .governed) ∧
    (s.drive.state = .hold → ∃ w : Wheel, (s.wheel w).mode = .governed)

/-- Outside READY and HOLD there is no cause to hand. -/
theorem LossHanded.of_state {s : State} (hr : s.drive.state ≠ .ready) (hh : s.drive.state ≠ .hold) :
    LossHanded s := ⟨fun h => absurd h hr, fun h => absurd h hh⟩

/-- With no wheel newly MUTED a cause that was handed needs no new one. -/
theorem LossHanded.mono {s t : State} (h : LossHanded s) (hd : t.drive.state = s.drive.state)
    (hw : ∀ w, (s.wheel w).mode = .governed → (t.wheel w).mode = .governed) : LossHanded t := by
  obtain ⟨both, one⟩ := h
  refine ⟨fun hr w => hw w (both (hd ▸ hr) w), fun hh => ?_⟩
  obtain ⟨w, hg⟩ := one (hd ▸ hh)
  exact ⟨w, hw w hg⟩

/-- The change keeps R87, and the agreement of link and mode on each wheel. -/
structure KeepsFigures (s t : State) : Prop where
  rest : TorqueAtRest s → TorqueAtRest t
  agrees : (∀ w, (s.wheel w).Agrees) → ∀ w, (t.wheel w).Agrees

/-- The change keeps all that O57 asks. -/
structure KeepsWheels (s t : State) : Prop extends KeepsFigures s t where
  handed : LossHanded s → LossHanded t

/-- The wheels and the drive state stand. -/
structure SameWheels (s t : State) : Prop where
  wheel : ∀ w, t.wheel w = s.wheel w
  state : t.drive.state = s.drive.state

namespace KeepsFigures

variable {s t u : State}

theorem refl (s : State) : KeepsFigures s s := ⟨id, id⟩

theorem trans (h : KeepsFigures s t) (g : KeepsFigures t u) : KeepsFigures s u :=
  ⟨fun hs => g.rest (h.rest hs), fun hs => g.agrees (h.agrees hs)⟩

/-- A change wheel by wheel that leaves the drive state. -/
theorem wheelwise {f : WheelState → WheelState} (hd : t.drive.state = s.drive.state)
    (hw : ∀ w, t.wheel w = f (s.wheel w))
    (hr : ∀ x : WheelState, x.AtRest s.drive.state → (f x).AtRest s.drive.state)
    (ha : ∀ x : WheelState, x.Agrees → (f x).Agrees) : KeepsFigures s t := by
  refine ⟨fun h w => ?_, fun h w => ?_⟩ <;> rw [hw]
  · rw [hd]; exact hr _ (h w)
  · exact ha _ (h w)

theorem enter (d : Drive) (s : State) : KeepsFigures s (enter d s) := by
  refine ⟨fun h w => ?_, fun h w => ?_⟩ <;> rw [enter_wheel]
  · rw [enter_state]; exact WheelState.wheelOnEntry_atRest (h w)
  · exact WheelState.wheelOnEntry_agrees (h w)

/-- An entry after a change of the drive's record. -/
theorem enter_with {d : Drive} {x : DriveCtl} (hx : x.state = s.drive.state) :
    KeepsFigures s (Machine.enter d { s with drive := x }) := by
  have record : KeepsFigures s { s with drive := x } :=
    wheelwise (f := id) hx (fun _ => rfl) (fun _ h => h) fun _ h => h
  exact record.trans (enter d _)

end KeepsFigures

namespace KeepsWheels

variable {s t u : State}

theorem same (h : SameWheels s t) : KeepsWheels s t where
  rest hs w := by rw [h.wheel, h.state]; exact hs w
  agrees hs w := by rw [h.wheel]; exact hs w
  handed hs := hs.mono h.state fun w hg => by rw [h.wheel]; exact hg

theorem refl (s : State) : KeepsWheels s s := same ⟨fun _ => rfl, rfl⟩

theorem trans (h : KeepsWheels s t) (g : KeepsWheels t u) : KeepsWheels s u :=
  ⟨h.toKeepsFigures.trans g.toKeepsFigures, fun hs => g.handed (h.handed hs)⟩

/-- A change of the drive's record that leaves its state. -/
theorem record {x : DriveCtl} (h : x.state = s.drive.state) : KeepsWheels s { s with drive := x } :=
  same ⟨fun _ => rfl, h⟩

/-! ### The changes of drive state (R172 to R176, R182) -/

/-- An entry to a state without wheel-loss causes, after a change of the drive's record. -/
theorem leave {d : Drive} {x : DriveCtl} (hx : x.state = s.drive.state) (hr : d ≠ .ready)
    (hh : d ≠ .hold) : KeepsWheels s (enter d { s with drive := x }) :=
  ⟨.enter_with hx, fun _ => .of_state (by simpa using hr) (by simpa using hh)⟩

theorem enterParked (s : State) : KeepsWheels s (enterParked s) := leave rfl (by simp) (by simp)

end KeepsWheels

/-! ### What handed causes leave of the torque (R77, R87, R93) -/

/-- The wheel-loss cause by the wheels' modes in READY and HOLD; elsewhere nothing (R93). -/
theorem handWheelLoss_split (s : State) : handWheelLoss s = s ∨ handWheelLoss s = handHold .wheelLost s ∨
    handWheelLoss s = handTrip .bothWheelsLost s := by
  unfold handWheelLoss
  split
  · split
    · exact .inr (.inr rfl)
    · split
      · exact .inr (.inl rfl)
      · exact .inl rfl
  · exact .inl rfl

/-- Direction and steer demand stand, and each wheel is as it was or gets a 0 command. -/
structure CauseStep (s t : State) : Prop where
  direction : t.torque.direction = s.torque.direction
  steerDemand : t.torque.steerDemand = s.torque.steerDemand
  wheel : ∀ w, t.wheel w = s.wheel w ∨ t.wheel w = (s.wheel w).zeroed s.torque.direction

namespace CauseStep

variable {s t u : State}

/-- A change of the other records and fields. -/
theorem of_same (hd : t.torque.direction = s.torque.direction)
    (hs : t.torque.steerDemand = s.torque.steerDemand) (hw : t.torque.wheels = s.torque.wheels) :
    CauseStep s t := ⟨hd, hs, fun w => .inl (congrArg (PerWheel.get · w) hw)⟩

theorem refl (s : State) : CauseStep s s := of_same rfl rfl rfl

theorem trans (h : CauseStep s t) (g : CauseStep t u) : CauseStep s u := by
  refine ⟨g.direction.trans h.direction, g.steerDemand.trans h.steerDemand, fun w => ?_⟩
  rcases g.wheel w with eu | eu <;> rcases h.wheel w with et | et <;> rw [eu, et]
  · exact .inl rfl
  · exact .inr rfl
  · rw [h.direction]; exact .inr rfl
  · rw [h.direction]; exact .inr rfl

variable (h : CauseStep s t) (w : Wheel)
include h

theorem link : (t.wheel w).link = (s.wheel w).link := by rcases h.wheel w with e | e <;> rw [e]; rfl

theorem silence : (t.wheel w).silence = (s.wheel w).silence := by
  rcases h.wheel w with e | e <;> rw [e]; rfl

theorem mode : (t.wheel w).mode = (s.wheel w).mode := by rcases h.wheel w with e | e <;> rw [e]; rfl

theorem history : (t.wheel w).history = (s.wheel w).history := by
  rcases h.wheel w with e | e <;> rw [e]; rfl

end CauseStep

namespace CauseStep

/-- An entry to any state but STARTING and PARKED, after a change of the drive's record. -/
theorem enter {d : Drive} (hs : d ≠ .starting) (hp : d ≠ .parked) (s : State) (x : DriveCtl) :
    CauseStep s (enter d { s with drive := x }) := by
  refine ⟨by rw [enter_torque]; simp [torqueOnEntry, hs],
    by rw [enter_torque]; simp [torqueOnEntry, hs], fun w => ?_⟩
  rw [enter_wheel, if_neg hs]
  cases d with
  | starting => exact absurd rfl hs
  | parked => exact absurd rfl hp
  | releasing => exact .inr rfl
  | tripped => exact .inr rfl
  | ready => exact .inl rfl
  | hold =>
    unfold wheelOnEntry
    dsimp only
    split
    · exact .inr rfl
    · exact .inl rfl

theorem handHold (c : HoldCause) (s : State) : CauseStep s (handHold c s) := by
  by_cases h1 : s.drive.state = .ready
  · rw [handHold_ready h1]; exact enter (by simp) (by simp) s _
  by_cases h2 : s.drive.state = .hold
  · rw [handHold_hold h2]; exact of_same rfl rfl rfl
  · rw [handHold_other h1 h2]; exact of_same rfl rfl rfl

theorem handTrip (c : TripCause) (s : State) : CauseStep s (handTrip c s) := by
  by_cases h : s.drive.state = .tripped
  · rw [handTrip_tripped h]; exact of_same rfl rfl rfl
  · rw [handTrip_other h]; exact enter (by simp) (by simp) s _

theorem handWheelLoss (s : State) : CauseStep s (handWheelLoss s) := by
  rcases handWheelLoss_split s with e | e | e <;> rw [e]
  · exact refl s
  · exact handHold _ s
  · exact handTrip _ s

end CauseStep

/-- A hold cause leaves READY for HOLD and no other state (R172). -/
theorem handHold_state (c : HoldCause) (s : State) : (handHold c s).drive.state =
    if s.drive.state = .ready then .hold else s.drive.state := by
  by_cases h1 : s.drive.state = .ready
  · rw [handHold_ready h1, if_pos h1]; exact enter_state _ _
  rw [if_neg h1]
  by_cases h2 : s.drive.state = .hold
  · rw [handHold_hold h2]
  · rw [handHold_other h1 h2]

/-- Both wheels GOVERNED, one of them, or neither. -/
theorem governed_cases (s : State) : (∀ w, (s.wheel w).mode = .governed) ∨
    (∃ w, (s.wheel w).mode ≠ .governed ∧ (s.wheel w.other).mode = .governed) ∨
    (∀ w, (s.wheel w).mode ≠ .governed) := by
  by_cases hl : (s.wheel .left).mode = .governed <;> by_cases hr : (s.wheel .right).mode = .governed
  · exact .inl fun | .left => hl | .right => hr
  · exact .inr (.inl ⟨.right, hr, hl⟩)
  · exact .inr (.inl ⟨.left, hl, hr⟩)
  · exact .inr (.inr fun | .left => hl | .right => hr)

namespace KeepsWheels

variable {s t : State}

theorem handHold (c : HoldCause) (s : State) : KeepsWheels s (handHold c s) := by
  by_cases h1 : s.drive.state = .ready
  · refine ⟨?_, fun hs => ⟨fun h => ?_, fun _ => ⟨.left, ?_⟩⟩⟩
    · rw [handHold_ready h1]; exact .enter_with rfl
    · rw [handHold_state, if_pos h1] at h; cases h
    · rw [(CauseStep.handHold c s).mode]; exact hs.1 h1 .left
  by_cases h2 : s.drive.state = .hold
  · rw [handHold_hold h2]; exact record rfl
  · rw [handHold_other h1 h2]; exact record rfl

theorem handTrip (c : TripCause) (s : State) : KeepsWheels s (handTrip c s) := by
  by_cases h : s.drive.state = .tripped
  · rw [handTrip_tripped h]; exact record rfl
  · rw [handTrip_other h]; exact leave rfl (by simp) (by simp)

end KeepsWheels

theorem KeepsWheels.handWheelLoss (s : State) : KeepsWheels s (handWheelLoss s) := by
  rcases handWheelLoss_split s with e | e | e <;> rw [e]
  · exact .refl s
  · exact .handHold _ s
  · exact .handTrip _ s

/-- Once the wheel-loss cause is handed, it has been handed (R93). -/
theorem handWheelLoss_lossHanded (s : State) : LossHanded (handWheelLoss s) := by
  obtain ⟨out, inside⟩ := handWheelLoss_cases s
  by_cases h : s.drive.state = .ready ∨ s.drive.state = .hold
  · obtain ⟨none, one, both⟩ := inside h
    rcases governed_cases s with hw | ⟨w, hm, ho⟩ | hw
    · rw [none hw]; exact ⟨fun _ => hw, fun _ => ⟨.left, hw .left⟩⟩
    · rw [one w hm ho]
      refine ⟨fun hr => ?_, fun _ => ⟨w.other, by rw [(CauseStep.handHold _ s).mode]; exact ho⟩⟩
      rw [handHold_state] at hr
      split at hr
      · cases hr
      · contradiction
    · rw [both hw]; exact .of_state (by simp) (by simp)
  · rw [out h]
    exact .of_state (fun hr => h (.inl hr)) (fun hh => h (.inr hh))

namespace KeepsWheels

variable {s t : State}

/-- After a change that keeps the figures, the wheel-loss cause of what it leaves. -/
theorem then_handWheelLoss (h : KeepsFigures s t) : KeepsWheels s (Machine.handWheelLoss t) :=
  ⟨h.trans (KeepsWheels.handWheelLoss t).toKeepsFigures, fun _ => handWheelLoss_lossHanded t⟩

theorem endStarting (s : State) : KeepsWheels s (endStarting s) := by
  have held (x : HoldSet) : KeepsFigures s (enterHold x s) := .enter_with rfl
  unfold Machine.endStarting
  split
  · exact leave rfl (by simp) (by simp)
  split
  · exact then_handWheelLoss (held _)
  split
  · exact then_handWheelLoss (held _)
  · exact .enterParked s

end KeepsWheels

/-- A wheel that was GOVERNED is MUTED. -/
theorem newlyMuted_iff {s t : State} : newlyMuted s t = true ↔
    ∃ w, (s.wheel w).mode = .governed ∧ (t.wheel w).mode ≠ .governed := by
  have key (w : Wheel) : (!(s.wheel w).isMuted && (t.wheel w).isMuted) = true ↔
      (s.wheel w).mode = .governed ∧ (t.wheel w).mode ≠ .governed := by
    simp [WheelState.isMuted]
  rw [exists_wheel, ← key, ← key, ← Bool.or_eq_true]
  rfl

/-- An event on the wheels that hands the wheel-loss cause when one becomes MUTED (R93). -/
theorem KeepsWheels.muting {s t : State} (h : KeepsFigures s t) (hd : t.drive.state = s.drive.state) :
    KeepsWheels s (if newlyMuted s t = true then Machine.handWheelLoss t else t) := by
  split
  · exact then_handWheelLoss h
  · next hn =>
    refine ⟨h, fun hs => hs.mono hd fun w hg => ?_⟩
    by_contra hm
    exact hn (newlyMuted_iff.2 ⟨w, hg, hm⟩)

end Sys2Proof.Machine
end

section
/-! The command step wheel by wheel: its counts, what it issues, and what it hands over (R75, R78, R85 to R87,
R90). -/

namespace Sys2Proof.Machine

/-! ### Changes of both wheels at once -/

@[simp] theorem PerWheel.get_map {α β : Type} (f : α → β) (p : PerWheel α) (w : Wheel) :
    (p.map f).get w = f (p.get w) := by cases w <;> rfl

/-- A change of every wheel at once. -/
@[simp] theorem withTorque_map_wheel (q : TorqueGov) (f : WheelState → WheelState) (s : State)
    (w : Wheel) : (withTorque { q with wheels := s.torque.wheels.map f } s).wheel w = f (s.wheel w) :=
  PerWheel.get_map f _ w

/-! ### The lease count (R75) -/

theorem leaseExpires_iff {s : State} : leaseExpires s = true ↔
    s.drive.state = .ready ∧ ∃ r, s.torque.lease = some r ∧ r ≤ 1 := by
  simp [leaseExpires, Option.any_eq_true]

/-- All that the lease count does (R75). -/
theorem leaseCounted_cases (s : State) :
    (leaseExpires s = true ∧ s.drive.state = .ready ∧ leaseCounted s =
      handHold .demandLost (withTorque { s.torque with demand := none, lease := none } s)) ∨
    (leaseExpires s = false ∧ s.drive.state = .ready ∧ leaseCounted s =
      withTorque { s.torque with lease := s.torque.lease.map (fun r => r - 1) } s) ∨
    (leaseExpires s = false ∧ s.drive.state ≠ .ready ∧ leaseCounted s = s) := by
  by_cases h : leaseExpires s = true
  · exact .inl ⟨h, (leaseExpires_iff.1 h).1, if_pos h⟩
  have hf := Bool.not_eq_true _ ▸ h
  by_cases hr : s.drive.state = .ready
  · exact .inr (.inl ⟨hf, hr, by simp [leaseCounted, hf, hr]⟩)
  · exact .inr (.inr ⟨hf, hr, by simp [leaseCounted, hf, hr]⟩)

theorem CauseStep.leaseCounted (s : State) : CauseStep s (leaseCounted s) := by
  rcases leaseCounted_cases s with ⟨-, -, e⟩ | ⟨-, -, e⟩ | ⟨-, -, e⟩ <;> rw [e]
  · exact (of_same (s := s) (t := withTorque { s.torque with demand := none, lease := none } s)
      rfl rfl rfl).trans (handHold _ _)
  · exact of_same rfl rfl rfl
  · exact refl s

theorem DriveStep.leaseCounted (s : State) : DriveStep s (leaseCounted s) := by
  rcases leaseCounted_cases s with ⟨-, -, e⟩ | ⟨-, -, e⟩ | ⟨-, -, e⟩ <;> rw [e]
  · exact (of_records s s.drive _).trans (.handHold _ _)
  · exact of_records s s.drive _
  · exact .refl s

/-! ### The silence count (R90, R91) -/

namespace WheelState

variable {d : Drive} {dir : Direction} {x : WheelState}

theorem silenced_counts (h : x.silence < 4) :
    x.silenced dir = { x with silence := x.silence + 1 } := by
  unfold silenced
  rw [if_neg (by omega), if_neg (by omega)]

theorem silenced_stays (h : 5 ≤ x.silence) : x.silenced dir = x := if_pos h

theorem silenced_falls (h : x.silence = 4) :
    x.silenced dir = ({ x with silence := 5, link := .silent }).muted .mutedSilent dir := by
  unfold silenced
  rw [if_neg (by omega), if_pos h]

/-- The count rises to 4, falls SILENT at 5, and stays from there (R90). -/
theorem silenced_cases (dir : Direction) (x : WheelState) :
    (x.silence < 4 ∧ x.silenced dir = { x with silence := x.silence + 1 }) ∨
    (x.silence = 4 ∧
      x.silenced dir = ({ x with silence := 5, link := .silent }).muted .mutedSilent dir) ∨
    (5 ≤ x.silence ∧ x.silenced dir = x) := by
  rcases Nat.lt_trichotomy x.silence 4 with h | h | h
  · exact .inl ⟨h, silenced_counts h⟩
  · exact .inr (.inl ⟨h, silenced_falls h⟩)
  · exact .inr (.inr ⟨h, silenced_stays h⟩)

theorem silenced_atRest (h : x.AtRest d) : (x.silenced dir).AtRest d := by
  rcases silenced_cases dir x with ⟨-, e⟩ | ⟨-, e⟩ | ⟨-, e⟩ <;> rw [e]
  · exact h
  · exact muted_atRest _ h
  · exact h

theorem silenced_agrees (h : x.Agrees) : (x.silenced dir).Agrees := by
  obtain ⟨hle, hiff, hup⟩ := h
  rcases silenced_cases dir x with ⟨h4, e⟩ | ⟨-, e⟩ | ⟨-, e⟩ <;> rw [e]
  · have hns : x.link ≠ .silent := fun hl => by have := hiff.1 hl; omega
    exact ⟨by dsimp only; omega, ⟨fun hl => absurd hl hns, fun hs => by dsimp only at hs; omega⟩, hup⟩
  · exact ⟨by simp, by simp, fun hm => absurd hm (muted_mode (by simp))⟩
  · exact ⟨hle, hiff, hup⟩

/-- A 0 command before the count is one after it. -/
theorem silenced_zeroed (dir : Direction) (x : WheelState) :
    (x.zeroed dir).silenced dir = (x.silenced dir).zeroed dir := by
  rcases silenced_cases dir x with ⟨h, e⟩ | ⟨h, e⟩ | ⟨h, e⟩ <;> rw [e]
  · exact silenced_counts (x := x.zeroed dir) h
  · rw [silenced_falls (x := x.zeroed dir) h]
    unfold muted isMuted
    cases hm : x.mode <;> simp [zeroed, hm]
  · exact silenced_stays (x := x.zeroed dir) h

/-- Short of the step to 5 the mode stands. -/
theorem silenced_mode (h : x.silence ≠ 4) : (x.silenced dir).mode = x.mode := by
  rcases silenced_cases dir x with ⟨-, e⟩ | ⟨h4, -⟩ | ⟨-, e⟩
  · rw [e]
  · exact absurd h4 h
  · rw [e]

end WheelState

/-- Both wheels after the silence count, before the wheel-loss cause. -/
def silencedState (s : State) : State :=
  withTorque { s.torque with wheels := s.torque.wheels.map (WheelState.silenced s.torque.direction) } s

theorem silenceCounted_eq (s : State) : silenceCounted s =
    if newlyMuted s (silencedState s) then handWheelLoss (silencedState s) else silencedState s := rfl

@[simp] theorem silencedState_wheel (s : State) (w : Wheel) :
    (silencedState s).wheel w = (s.wheel w).silenced s.torque.direction := withTorque_map_wheel _ _ s w

theorem CauseStep.silenceCounted (s : State) : CauseStep (silencedState s) (silenceCounted s) := by
  rw [silenceCounted_eq]
  split
  · exact handWheelLoss _
  · exact refl _

theorem DriveStep.silenceCounted (s : State) : DriveStep s (silenceCounted s) := by
  rw [silenceCounted_eq]
  have h : DriveStep s (silencedState s) := of_records s s.drive _
  split
  · exact h.trans (.handWheelLoss _)
  · exact h

/-! ### The state after the counts -/

/-- The state that the chain of a command step runs on (R78). -/
def counted (s : State) : State := silenceCounted (leaseCounted s)

theorem commandStepState_eq (s : State) : commandStepState s = evaluateAssist (handOver (counted s)) := rfl

theorem counted_step (s : State) : DriveStep s (counted s) :=
  (DriveStep.leaseCounted s).trans (.silenceCounted _)

/-- A wheel after the counts: counted, and zeroed where a cause did it (R87, R90). -/
theorem counted_wheel (s : State) (w : Wheel) :
    (counted s).wheel w = (s.wheel w).silenced s.torque.direction ∨
    (counted s).wheel w = ((s.wheel w).silenced s.torque.direction).zeroed s.torque.direction := by
  have lease := CauseStep.leaseCounted s
  have hx : (silencedState (leaseCounted s)).wheel w = (s.wheel w).silenced s.torque.direction ∨
      (silencedState (leaseCounted s)).wheel w =
        ((s.wheel w).silenced s.torque.direction).zeroed s.torque.direction := by
    rw [silencedState_wheel, lease.direction]
    rcases lease.wheel w with e | e <;> rw [e]
    · exact .inl rfl
    · exact .inr (WheelState.silenced_zeroed _ _)
  have hd : (silencedState (leaseCounted s)).torque.direction = s.torque.direction := lease.direction
  rcases (CauseStep.silenceCounted (leaseCounted s)).wheel w with e | e <;> rw [counted, e]
  · exact hx
  · rw [hd]
    rcases hx with e | e <;> rw [e] <;> exact .inr rfl

section
variable (s : State)

@[simp] theorem counted_env : (counted s).env = s.env := by simp [counted]
@[simp] theorem counted_params : (counted s).params = s.params := by simp [counted]
@[simp] theorem counted_speed : (counted s).speed = s.speed := by simp [counted]
@[simp] theorem counted_grip : (counted s).grip = s.grip := by simp [counted]

@[simp] theorem counted_param (p : Param) : (counted s).param p = s.param p := by
  simp [State.param]
@[simp] theorem counted_eff (w : Wheel) (k : Kind) : (counted s).eff w k = s.eff w k := by
  simp [State.eff]

@[simp] theorem counted_direction : (counted s).torque.direction = s.torque.direction :=
  (CauseStep.silenceCounted (leaseCounted s)).direction.trans (CauseStep.leaseCounted s).direction

@[simp] theorem counted_steerDemand : (counted s).torque.steerDemand = s.torque.steerDemand :=
  (CauseStep.silenceCounted (leaseCounted s)).steerDemand.trans (CauseStep.leaseCounted s).steerDemand

/-- The counts touch the Retard Unit's brake assist alone. -/
@[simp] theorem counted_pcap : (counted s).retard.pcap = s.retard.pcap := by
  rw [(counted_step s).frame]

variable (w : Wheel)

theorem counted_link :
    ((counted s).wheel w).link = ((s.wheel w).silenced s.torque.direction).link := by
  rcases counted_wheel s w with e | e <;> rw [e]; rfl

theorem counted_silence :
    ((counted s).wheel w).silence = ((s.wheel w).silenced s.torque.direction).silence := by
  rcases counted_wheel s w with e | e <;> rw [e]; rfl

theorem counted_mode :
    ((counted s).wheel w).mode = ((s.wheel w).silenced s.torque.direction).mode := by
  rcases counted_wheel s w with e | e <;> rw [e]; rfl

end

/-! ### What is issued (R78, R85 to R87) -/

theorem zeroTorque_iff {d : Drive} : d.zeroTorque = true ↔ d ≠ .ready ∧ d ≠ .hold := by
  cases d <;> simp [Drive.zeroTorque]

/-- Where the chain does not run the command is 0 (R87). -/
theorem issueOf_zero {s : State} {w : Wheel}
    (h : (s.drive.state ≠ .ready ∧ s.drive.state ≠ .hold) ∨ (s.wheel w).mode ≠ .governed) :
    issueOf s w = .zero s.drive.state := by
  unfold issueOf
  rw [if_pos]
  rw [Bool.or_eq_true, zeroTorque_iff, isMuted_iff]
  exact h

/-- Where it runs the command is its last value (R78, R86). -/
theorem issueOf_ran {s : State} {w : Wheel} {c : Chain} (hc : c = runChain s w (governedCount s.torque))
    (hd : s.drive.state = .ready ∨ s.drive.state = .hold) (hm : (s.wheel w).mode = .governed) :
    issueOf s w = ⟨c.t6, c.stage, c.retardBound, some c.t2.natAbs⟩ := by
  subst hc
  unfold issueOf
  rw [if_neg]
  rw [Bool.or_eq_true, zeroTorque_iff, isMuted_iff]
  rintro (⟨hr, hh⟩ | hg)
  · exact hd.elim hr hh
  · exact hg hm

theorem le_clampInt {x a b : Int} : a ≤ clampInt x a b := Int.le_max_left _ _

theorem clampInt_le {x a b : Int} (h : a ≤ b) : clampInt x a b ≤ b := by
  unfold clampInt; omega

/-- S7 of a chain (R85). -/
theorem runChain_t6 (s : State) (w : Wheel) (n : Nat) : (runChain s w n).t6 =
    clampInt (runChain s w n).t5 (-((wheelBounds s w n).lr : Int))
      ((wheelBounds s w n).lp s.drive.state : Nat) := rfl

/-- The commands of a step lie within S7's bounds of the state the chain runs on (R85). -/
theorem issueOf_bounds (s : State) (w : Wheel) :
    -((wheelBounds s w (governedCount s.torque)).lr : Int) ≤ (issueOf s w).torque ∧
      (issueOf s w).torque ≤ ((wheelBounds s w (governedCount s.torque)).lp s.drive.state : Nat) := by
  by_cases h : (s.drive.state ≠ .ready ∧ s.drive.state ≠ .hold) ∨ (s.wheel w).mode ≠ .governed
  · rw [issueOf_zero h]
    simp [Issue.zero]
  · obtain ⟨hd, hm⟩ := not_or.1 h
    rw [issueOf_ran rfl (by tauto) (not_not.1 hm)]
    dsimp only
    rw [runChain_t6]
    exact ⟨le_clampInt, clampInt_le (by omega)⟩

@[simp] theorem handOver_wheel (s : State) (w : Wheel) :
    (handOver s).wheel w = (s.wheel w).issued s.torque.direction (issueOf s w) := by
  cases w <;> rfl

theorem commandStepState_wheel (s : State) (w : Wheel) : (commandStepState s).wheel w =
    ((counted s).wheel w).issued s.torque.direction (issueOf (counted s) w) := by
  rw [commandStepState_eq, State.wheel, evaluateAssist_torque, ← counted_direction, ← handOver_wheel]
  rfl

@[simp] theorem commandStepState_drive (s : State) : (commandStepState s).drive = (counted s).drive := by
  simp [commandStepState_eq]

/-- A wheel keeps R87 once its command is issued, whatever it held. -/
theorem issued_atRest (s : State) (w : Wheel) (dir : Direction) :
    ((s.wheel w).issued dir (issueOf s w)).AtRest s.drive.state := by
  refine ⟨fun h => ?_, fun h => ?_⟩
  · rw [zeroTorque_iff, isMuted_iff] at h
    rw [issueOf_zero (by exact h)]
    exact ⟨rfl, rfl⟩
  · have := (issueOf_bounds s w).2
    rw [h] at this
    exact this

end Sys2Proof.Machine
end

section
/-! What every command keeps of the torque and the wheels (O57). -/

namespace Sys2Proof.Machine

namespace KeepsWheels

variable {s t : State}

/-- A request keeps what its work keeps: its answer touches the link alone. -/
theorem request {h : Hdr} {code : Byte} {allowed : Owner → Bool} {work : Owner → State → State × Reply}
    (hw : ∀ a, KeepsWheels s (work a s).1) : KeepsWheels s (takeRequest h code allowed work s) := by
  have answered {t : State} (a : Answer) (k : KeepsWheels s t) : KeepsWheels s (t.exchanged h.link a) :=
    k.trans (same ⟨fun _ => rfl, rfl⟩)
  rcases takeRequest_cases h code allowed work s with e | ⟨a, -, -, e⟩ <;> rw [e]
  · exact answered _ (.refl s)
  · exact answered _ (hw a)

/-- An event inside a periodic step keeps what the step keeps. -/
theorem event {e : State → State → Bool} {f : State → State} (hf : KeepsWheels s (f s)) :
    KeepsWheels s (whenItComesAbout e f s) := whenItComesAbout_keeps (.refl s) hf

/-- The torque and the drive stand. -/
theorem of_torque (ht : t.torque = s.torque) (hd : t.drive = s.drive) : KeepsWheels s t :=
  same ⟨fun w => by rw [State.wheel, ht, State.wheel], by rw [hd]⟩

/-- A change of what the wheels and the drive state do not show, before it. -/
theorem after_same {u : State} (g : KeepsWheels t u) (h : SameWheels s t) : KeepsWheels s u :=
  (same h).trans g

/-- A change of each wheel that leaves the drive state and no GOVERNED wheel MUTED. -/
theorem wheelwise {f : WheelState → WheelState} (hd : t.drive.state = s.drive.state)
    (hw : ∀ w, t.wheel w = f (s.wheel w))
    (hr : ∀ x : WheelState, x.AtRest s.drive.state → (f x).AtRest s.drive.state)
    (ha : ∀ x : WheelState, x.Agrees → (f x).Agrees)
    (hm : ∀ x : WheelState, x.mode = .governed → (f x).mode = .governed) : KeepsWheels s t :=
  ⟨.wheelwise hd hw hr ha, fun hs => hs.mono hd fun w hg => by rw [hw]; exact hm _ hg⟩

end KeepsWheels

/-! ### Requests of other chapters leave the torque alone -/

section
variable (s : State) (a : Owner)

theorem placeWork_torque (kind scope seg im : Byte) (v l : Half) :
    (placeWork kind scope v seg l im a s).1.torque = s.torque := by
  unfold placeWork placeRecord
  (repeat' split) <;> rfl

theorem amendWork_torque (slot gen act : Byte) (v l : Half) :
    (amendWork slot gen v act l a s).1.torque = s.torque := by
  unfold amendWork
  split
  · rfl
  · rfl
  split
  · rfl
  split
  · rfl
  split
  · rfl
  split
  · rfl
  · dsimp only
    rw [amendRecord_frame]

theorem renewWork_torque (slot gen : Byte) : (renewWork slot gen a s).1.torque = s.torque := by
  unfold renewWork
  (repeat' split) <;> rfl

theorem retireWork_torque (slot gen : Byte) : (retireWork slot gen a s).1.torque = s.torque := by
  unfold retireWork
  (repeat' split) <;> rfl

theorem retireOwnerWork_torque (owner : Byte) : (retireOwnerWork owner a s).1.torque = s.torque := by
  unfold retireOwnerWork
  dsimp only
  (repeat' split) <;> rfl

theorem loadSegmentWork_torque (id cls : Byte) (grade rr : Half) :
    (loadSegmentWork id grade rr cls a s).1.torque = s.torque := by
  unfold loadSegmentWork
  (repeat' split) <;> rfl

theorem amendSegmentWork_torque (id cls : Byte) (grade rr : Half) :
    (amendSegmentWork id grade rr cls a s).1.torque = s.torque := by
  unfold amendSegmentWork amendSegmentState
  dsimp only
  (repeat' split) <;> rfl

theorem retireSegmentWork_torque (id : Byte) : (retireSegmentWork id a s).1.torque = s.torque := by
  unfold retireSegmentWork
  (repeat' split) <;> rfl

theorem enterSegmentWork_torque (id hd : Byte) : (enterSegmentWork id hd a s).1.torque = s.torque := by
  unfold enterSegmentWork enterSegmentState
  dsimp only
  (repeat' split) <;> rfl

theorem leaveSegmentWork_torque : (leaveSegmentWork a s).1.torque = s.torque := by
  unfold leaveSegmentWork
  (repeat' split) <;> rfl

theorem selectWork_torque_drive (b : Byte) :
    (selectWork b a s).1.torque = s.torque ∧ (selectWork b a s).1.drive = s.drive := by
  unfold selectWork
  dsimp only
  (repeat' split) <;> exact ⟨rfl, rfl⟩

theorem speedFixWork_torque_drive (v q : Half) :
    (speedFixWork v q a s).1.torque = s.torque ∧ (speedFixWork v q a s).1.drive = s.drive := by
  unfold speedFixWork; split <;> exact ⟨rfl, rfl⟩

theorem lockWork_torque_drive : (lockWork a s).1.torque = s.torque ∧ (lockWork a s).1.drive = s.drive := by
  unfold lockWork; dsimp only; split <;> exact ⟨rfl, rfl⟩

theorem clearGridWork_torque (g : Byte) : (clearGridWork g a s).1.torque = s.torque := by
  unfold clearGridWork
  (repeat' split) <;> rfl

theorem startSweepWork_torque (l : Link) (g0 gs m0 ms : Half) :
    (startSweepWork l g0 gs m0 ms a s).1.torque = s.torque := by
  unfold startSweepWork
  (repeat' split) <;> rfl

theorem readSweepWork_torque : (readSweepWork a s).1.torque = s.torque := by
  unfold readSweepWork; split <;> rfl

theorem setPointWork_torque (k : Byte) (v x : Half) : (setPointWork k v x a s).1.torque = s.torque := by
  unfold setPointWork
  dsimp only
  (repeat' split) <;> rfl

theorem tareWork_torque : (tareWork a s).1.torque = s.torque := by
  unfold tareWork
  (repeat' split) <;> rfl

theorem clearAttentionWork_torque (l : Link) (c : Half) :
    (clearAttentionWork l c a s).1.torque = s.torque := by
  unfold clearAttentionWork; split <;> rfl

theorem setMaskWork_torque (l : Link) (c : Half) : (setMaskWork l c a s).1.torque = s.torque := by
  unfold setMaskWork; split <;> rfl

theorem setParamWork_torque (i : Byte) (v : Half) : (setParamWork i v a s).1.torque = s.torque := by
  unfold setParamWork
  split
  · rfl
  split
  · rfl
  split
  · rfl
  · dsimp only
    rw [setParamState_frame]

theorem leaseStepState_torque : (leaseStepState s).torque = s.torque := by
  unfold leaseStepState
  dsimp only
  split <;> rfl

theorem sweepEntryState_torque : (sweepEntryState s).torque = s.torque := by
  unfold sweepEntryState
  dsimp only
  (repeat' split) <;> rfl

/-! ### The demand and the command step (R73 to R75, R86, R87, R90, R93) -/

/-- A change of the direction in force sets both Tprev to 0 (R74). -/
theorem demandTaken_keepsWheels (d st : Half) (dir : Direction) :
    KeepsWheels s (demandTaken d st dir s) := by
  have turned (q : State) (hd : q.drive = s.drive)
      (hq : q.torque.wheels = (s.torque.turned dir s.speed.v).wheels) : KeepsWheels s q := by
    by_cases h : s.torque.direction ≠ dir ∧ s.speed.v < 5
    · refine .wheelwise (f := fun x => { x with tprev := 0 }) (by rw [hd]) (fun w => ?_)
        (fun x hx => ⟨fun hz => ⟨rfl, (hx.1 hz).2⟩, fun _ => Int.le_refl 0⟩) (fun _ hx => hx)
        fun _ hg => hg
      rw [State.wheel, hq, TorqueGov.turned, if_pos h]
      exact PerWheel.get_map _ _ w
    · exact .same ⟨fun w => by rw [State.wheel, hq, TorqueGov.turned, if_neg h]; rfl, by rw [hd]⟩
  unfold demandTaken
  split
  · exact turned _ rfl rfl
  · exact .same ⟨fun _ => rfl, rfl⟩

theorem setDemandWork_keepsWheels (d st : Half) (b : Byte) :
    KeepsWheels s (setDemandWork d st b a s).1 := by
  unfold setDemandWork
  split
  · exact .refl s
  split
  · exact .refl s
  split
  · exact demandTaken_keepsWheels s d st _
  · exact .refl s

theorem leaseCounted_keepsWheels : KeepsWheels s (leaseCounted s) := by
  rcases leaseCounted_cases s with ⟨-, -, e⟩ | ⟨-, -, e⟩ | ⟨-, -, e⟩ <;> rw [e]
  · exact (KeepsWheels.handHold _ _).after_same ⟨fun _ => rfl, rfl⟩
  · exact .same ⟨fun _ => rfl, rfl⟩
  · exact .refl s

theorem silenceCounted_keepsWheels : KeepsWheels s (silenceCounted s) :=
  .muting (t := silencedState s) (.wheelwise rfl (silencedState_wheel s)
    (fun _ => WheelState.silenced_atRest) fun _ => WheelState.silenced_agrees) rfl

/-- What is issued keeps R87; link, silence count and mode stand (R86). -/
theorem handOver_keepsWheels : KeepsWheels s (handOver s) where
  rest _ w := by rw [handOver_wheel]; exact issued_atRest s w _
  agrees h w := by rw [handOver_wheel]; exact (h w).congr rfl rfl rfl
  handed h := h.mono rfl fun w hg => by rw [handOver_wheel]; exact hg

theorem commandStepState_keepsWheels : KeepsWheels s (commandStepState s) :=
  ((leaseCounted_keepsWheels s).trans (silenceCounted_keepsWheels _)).trans
    ((handOver_keepsWheels _).trans (.of_torque (evaluateAssist_torque _) (evaluateAssist_drive _)))

/-! ### Inverter messages (R89, R91 to R93) -/

theorem WheelState.reported_atRest {f : Bool} {dir : Direction} {d e : Drive} {x : WheelState}
    (h : x.AtRest e) : (x.reported f dir d).AtRest e := by
  unfold reported
  split
  · exact muted_atRest _ h
  · dsimp only
    split
    · exact returned_atRest h
    · exact h

/-- A message leaves link and mode agreeing, whatever they were (R89). -/
theorem WheelState.reported_agrees (f : Bool) (dir : Direction) (d : Drive) (x : WheelState) :
    (x.reported f dir d).Agrees := by
  unfold reported
  split
  · exact ⟨by simp, by simp, fun hm => absurd hm (muted_mode (by simp))⟩
  · have up : WheelState.Agrees { x with silence := 0, link := .up } :=
      ⟨Nat.zero_le 5, ⟨nofun, nofun⟩, fun _ => rfl⟩
    dsimp only
    split
    · exact returned_agrees up
    · exact up

/-- The wheel that the message is of, and the other one. -/
theorem setWheel_wheel (t : State) (w : Wheel) (x : WheelState) :
    (t.setWheel w x).wheel w = x ∧ (t.setWheel w x).wheel w.other = t.wheel w.other := by
  cases w <;> exact ⟨rfl, rfl⟩

theorem eq_or_eq_other (w v : Wheel) : v = w ∨ v = w.other := by
  cases w <;> cases v <;> simp [Wheel.other]

theorem inverterMessageState_keepsWheels (w : Wheel) (n : Nat) (f : Bool) :
    KeepsWheels s (inverterMessageState w n f s) := by
  obtain ⟨this, other⟩ := setWheel_wheel { s with speed := s.speed.told w n } w
    ((s.wheel w).reported f s.torque.direction s.drive.state)
  refine .muting ⟨fun h v => ?_, fun h v => ?_⟩ rfl <;> rcases eq_or_eq_other w v with rfl | rfl
  · rw [this]; exact WheelState.reported_atRest (h v)
  · rw [other]; exact h w.other
  · rw [this]; exact WheelState.reported_agrees _ _ _ _
  · rw [other]; exact h w.other

/-! ### The requests and inputs of the drive (R174 to R180) -/

theorem parkState_keepsWheels : KeepsWheels s (parkState s) := by
  unfold parkState
  split
  · exact .refl s
  · exact (KeepsWheels.enterParked (endRelease .aborted s)).after_same ⟨fun _ => rfl, rfl⟩
  · exact .enterParked s
  · exact .enterParked s
  · exact .refl s
  · exact .refl s

theorem parkWork_keepsWheels : KeepsWheels s (parkWork a s).1 := by
  unfold parkWork
  split
  · exact .refl s
  split
  · exact .refl s
  split
  · exact .refl s
  · exact parkState_keepsWheels s

theorem unparkWork_keepsWheels : KeepsWheels s (unparkWork a s).1 := by
  unfold unparkWork
  split
  · exact .refl s
  split
  · exact .refl s
  split
  · exact .refl s
  split
  · exact .refl s
  · exact .leave rfl (by simp) (by simp)

/-- CLEAR_HOLD enters READY only where every MUTED wheel's link is UP, and returns those wheels (R92,
R177). -/
theorem clearHoldState_keepsWheels (h : ∀ w, (s.wheel w).mode = .governed ∨ (s.wheel w).link = .up) :
    KeepsWheels s (clearHoldState s) := by
  have hw (w : Wheel) := PerWheel.get_map WheelState.returned s.torque.wheels w
  have cleared : KeepsFigures s { s with
      drive := { s.drive with hold := .empty }
      torque := { s.torque with wheels := s.torque.wheels.map WheelState.returned } } :=
    .wheelwise rfl hw (fun _ => WheelState.returned_atRest) fun _ => WheelState.returned_agrees
  refine ⟨cleared.trans (.enter .ready _), fun _ => ⟨fun _ w => ?_, fun hh => ?_⟩⟩
  · refine (enter_mode (by simp) _ w).trans ?_
    show (((s.torque.wheels.map WheelState.returned).get w)).mode = _
    rw [hw]
    rcases WheelState.returned_cases (s.torque.wheels.get w) with ⟨hn, e⟩ | ⟨-, -, e⟩ <;> rw [e]
    rcases hn with hg | hl
    · exact hg
    · exact (h w).resolve_right hl
  · rw [clearHoldState, enter_state] at hh; cases hh

/-- The WHEEL_LOST condition of a wheel (R92, R170). -/
theorem WheelState.lost_iff {x : WheelState} :
    x.lost = true ↔ x.mode ≠ .governed ∧ x.link ≠ .up := by
  simp [lost, isMuted]

theorem WheelState.not_lost_iff {x : WheelState} :
    x.lost = false ↔ x.mode = .governed ∨ x.link = .up := by
  rw [← Bool.not_eq_true, lost_iff, not_and_or, not_not, not_not]

theorem clearHoldWork_keepsWheels : KeepsWheels s (clearHoldWork a s).1 := by
  unfold clearHoldWork
  split
  · exact .refl s
  split
  · exact .refl s
  split
  · exact .refl s
  split
  · exact .refl s
  next h =>
  simp only [holdStands, Bool.or_eq_true, not_or, Bool.not_eq_true] at h
  obtain ⟨⟨⟨-, hl⟩, hr⟩, -⟩ := h
  exact clearHoldState_keepsWheels s fun
    | .left => WheelState.not_lost_iff.1 hl
    | .right => WheelState.not_lost_iff.1 hr

theorem safetyHoldWork_keepsWheels : KeepsWheels s (safetyHoldWork a s).1 := by
  unfold safetyHoldWork
  split
  · exact .handHold _ s
  · exact .refl s

theorem resetTripWork_keepsWheels : KeepsWheels s (resetTripWork a s).1 := by
  unfold resetTripWork
  split
  · exact .refl s
  split
  · exact .refl s
  split
  · exact .refl s
  · exact .enterParked s

theorem setModeWork_keepsWheels (m : Byte) : KeepsWheels s (setModeWork m a s).1 := by
  unfold setModeWork
  split
  · exact .refl s
  split
  · exact .refl s
  · exact .record rfl

theorem releaseTimeoutState_keepsWheels : KeepsWheels s (releaseTimeoutState s) := by
  unfold releaseTimeoutState
  split
  · exact (KeepsWheels.enterParked (endRelease .releaseTimeout s)).after_same ⟨fun _ => rfl, rfl⟩
  · exact .refl s

theorem releaseTick_keepsWheels : KeepsWheels s (releaseTick s) := by
  unfold releaseTick
  split
  · exact .refl s
  split
  · exact releaseTimeoutState_keepsWheels s
  · exact .record rfl

/-- Whatever RELEASING ends in, its wheel-loss cause is handed (R93, R176). -/
theorem releasedState_keepsWheels : KeepsWheels s (releasedState s) := by
  have ended : KeepsWheels s (endRelease .released s) := .same ⟨fun _ => rfl, rfl⟩
  refine .then_handWheelLoss (ended.toKeepsFigures.trans ?_)
  split
  · exact .enter_with rfl
  · exact .enter .ready _

theorem brakeInputState_keepsWheels (b : Bool) : KeepsWheels s (brakeInputState b s) := by
  unfold brakeInputState
  split
  · exact .refl s
  dsimp only
  split
  · exact (releasedState_keepsWheels _).after_same ⟨fun _ => rfl, rfl⟩
  · exact .record rfl

/-! ### Steps that hand causes, and the window (R52, R93, R113, R128, R139, R172) -/

theorem capacityStepState_keepsWheels (i : CapacityIn) : KeepsWheels s (capacityStepState i s) := by
  have stages : KeepsWheels s (raiseIf (anyGridFaulted s { s with retard := capacityUnit i s }) .gridFault
      (updateGov (capacityUpdates i s) { s with retard := capacityUnit i s })) :=
    .of_torque (by simp) (by simp)
  unfold capacityStepState
  dsimp only
  split
  · exact stages.trans (.handTrip _ _)
  · exact stages

theorem KeepsWheels.handCondition (c : HoldCause) (x y : Bool) (s : State) :
    KeepsWheels s (handCondition c x y s) := by
  unfold Machine.handCondition
  split
  · exact .refl s
  split
  · exact .handHold c s
  · exact .record rfl

theorem steerStepState_keepsWheels (i : SteerIn) : KeepsWheels s (steerStepState i s) := by
  have stages : KeepsWheels s (updateGov (steerUpdates i s) { s with steer := steerUnit i s }) :=
    .of_torque (by simp) (by simp)
  exact stages.trans (.trans (.handCondition _ _ _ _) (.handCondition _ _ _ _))

theorem KeepsWheels.driveAtWindow (d : Drive) (s : State) : KeepsWheels s (driveAtWindow d s) := by
  cases d with
  | tripped => exact .record rfl
  | starting =>
    unfold Machine.driveAtWindow
    dsimp only
    split
    · exact .endStarting s
    · exact .refl s
  | parked => exact .refl s
  | releasing => exact .refl s
  | ready => exact .refl s
  | hold => exact .refl s

theorem windowState_keepsWheels (i : WindowIn) : KeepsWheels s (windowState i s) := by
  have selected : KeepsWheels s (windowSelected i s) := .of_torque (by simp) (by simp)
  have handed : KeepsWheels (windowSelected i s) (windowHanded i s) := by
    rw [windowHanded_eq]
    split
    · exact .handTrip _ _
    · exact .refl _
  exact (selected.trans handed).trans
    ((KeepsWheels.driveAtWindow s.drive.state (windowHanded i s)).trans (.of_torque rfl rfl))

/-! ### Restarts (R92, R96, R181) -/

theorem isCold_keepsWheels {straps : Straps} {b : Bool} {t : State} (h : IsCold straps b t) :
    KeepsWheels s t := by
  obtain ⟨p, q, level, n, l, rfl⟩ := h
  obtain ⟨rest, order⟩ := cold_wheels straps b
  exact ⟨⟨fun _ => rest, fun _ => order.1⟩, fun _ => order.2⟩

theorem warmRestart_keepsWheels : KeepsWheels s (warmRestart s) := by
  have hw (w : Wheel) : (warmRestart s).wheel w = (s.wheel w).warm := by
    rw [warmRestart_eq]
    exact PerWheel.get_map _ _ w
  have hd : (warmRestart s).drive.state = .starting := by rw [warmRestart_eq]; rfl
  refine ⟨⟨fun _ w => ?_, fun h w => ?_⟩, fun _ => .of_state (by simp [hd]) (by simp [hd])⟩ <;>
    rw [hw]
  · exact .of_zero rfl rfl
  · obtain ⟨hle, hiff, hup⟩ := h w
    refine ⟨hle, hiff, fun hm => ?_⟩
    by_contra hl
    exact hl (hup (by simpa [WheelState.warm, show (s.wheel w).link ≠ .up from hl] using hm))

theorem restartState_keepsWheels (h : Hdr) (kind : Byte) : KeepsWheels s (restartState h kind s) := by
  unfold restartState
  split
  · exact .of_torque rfl rfl
  split
  · exact .of_torque rfl rfl
  dsimp only
  split
  · exact isCold_keepsWheels s (coldRestart_isCold _)
  · exact (warmRestart_keepsWheels (exchangeEnded h.link s)).after_same ⟨fun _ => rfl, rfl⟩

theorem restartInputState_keepsWheels (level : Bool) : KeepsWheels s (restartInputState level s) := by
  unfold restartInputState
  dsimp only
  split
  · exact (warmRestart_keepsWheels _).after_same ⟨fun _ => rfl, rfl⟩
  · exact .of_torque rfl rfl

end

/-! ### Every command -/

/-- Every command keeps the torque at rest where it must be, and links, modes and drive state in
agreement. -/
theorem exec_keepsWheels {i : Instr} {s t : State} (h : exec i s = .next t) : KeepsWheels s t := by
  have read {h : Hdr} {code : Byte} {f : State → Reply} :
      KeepsWheels s (takeRequest h code anyAuthority (reading f) s) := .request fun _ => .refl s
  have other {h : Hdr} {code : Byte} {allowed : Owner → Bool} {work : Owner → State → State × Reply}
      (ht : ∀ a, (work a s).1.torque = s.torque) (hd : ∀ a, Untouched s (work a s).1) :
      KeepsWheels s (takeRequest h code allowed work s) :=
    .request fun a => .of_torque (ht a) (hd a).drive
  have lease := KeepsWheels.of_torque (leaseStepState_torque s) (leaseStepState_untouched s).drive
  have sweep := KeepsWheels.of_torque (sweepEntryState_torque s) (sweepEntryState_untouched s).drive
  have load (p : Four Nat) : KeepsWheels s (loadWindowState p s) :=
    .of_torque (by simp [loadWindowState]) (by simp [loadWindowState])
  cases i <;> obtain rfl := Host.Outcome.next.inj h
  case nop => exact read
  case frameError => split <;> exact .of_torque rfl rfl
  case unknownRequest => split <;> exact .of_torque rfl rfl
  case placeLimit =>
    exact other (fun a => placeWork_torque s a _ _ _ _ _ _) fun a => placeWork_untouched s a _ _ _ _ _ _
  case amendLimit =>
    exact other (fun a => amendWork_torque s a _ _ _ _ _) fun a => amendWork_untouched s a _ _ _ _ _
  case renewLimit => exact other (fun a => renewWork_torque s a _ _) fun a => renewWork_untouched s a _ _
  case retireLimit => exact other (fun a => retireWork_torque s a _ _) fun a => retireWork_untouched s a _ _
  case retireOwner =>
    exact other (fun a => retireOwnerWork_torque s a _) fun a => retireOwnerWork_untouched s a _
  case lookupLimit => exact read
  case findLimit => exact read
  case nextLimit => exact read
  case readEnvelope => exact read
  case loadSegment =>
    exact other (fun a => loadSegmentWork_torque s a _ _ _ _) fun a => loadSegmentWork_untouched s a _ _ _ _
  case amendSegment =>
    exact other (fun a => amendSegmentWork_torque s a _ _ _ _)
      fun a => amendSegmentWork_untouched s a _ _ _ _
  case retireSegment =>
    exact other (fun a => retireSegmentWork_torque s a _) fun a => retireSegmentWork_untouched s a _
  case enterSegment =>
    exact other (fun a => enterSegmentWork_torque s a _ _) fun a => enterSegmentWork_untouched s a _ _
  case leaveSegment => exact other (leaveSegmentWork_torque s) (leaveSegmentWork_untouched s)
  case readSegment => exact read
  case speedFix =>
    exact .request fun a => (speedFixWork_torque_drive s a _ _).elim KeepsWheels.of_torque
  case selectSpeedSource =>
    exact .request fun a => (selectWork_torque_drive s a _).elim KeepsWheels.of_torque
  case lockSpeedSource => exact .request fun a => (lockWork_torque_drive s a).elim KeepsWheels.of_torque
  case clearSourceFail => exact .request fun _ => .of_torque rfl rfl
  case setDemand => exact .request fun a => setDemandWork_keepsWheels s a _ _ _
  case park => exact .request (parkWork_keepsWheels s)
  case unpark => exact .request (unparkWork_keepsWheels s)
  case clearHold => exact .request (clearHoldWork_keepsWheels s)
  case safetyHold => exact .request (safetyHoldWork_keepsWheels s)
  case trip => exact .request fun _ => .handTrip _ s
  case resetTrip => exact .request (resetTripWork_keepsWheels s)
  case setControlMode => exact .request fun a => setModeWork_keepsWheels s a _
  case restart => exact restartState_keepsWheels s _ _
  case powerUp straps b => exact isCold_keepsWheels s (powerUpState_isCold straps b s)
  case restartInput => exact restartInputState_keepsWheels s _
  case clearGridFault =>
    exact other (fun a => clearGridWork_torque s a _) fun a => clearGridWork_untouched s a _
  case startSweep =>
    exact other (fun a => startSweepWork_torque s a _ _ _ _ _)
      fun a => startSweepWork_untouched s a _ _ _ _ _
  case readSweep => exact other (readSweepWork_torque s) (readSweepWork_untouched s)
  case setSteerPoint =>
    exact other (fun a => setPointWork_torque s a _ _ _) fun a => setPointWork_untouched s a _ _ _
  case readSteerPoint => exact read
  case tare => exact other (tareWork_torque s) (tareWork_untouched s)
  case readStatus => exact read
  case clearAttention =>
    exact other (fun a => clearAttentionWork_torque s a _ _) fun a => clearAttentionWork_untouched s a _ _
  case setAttentionMask =>
    exact other (fun a => setMaskWork_torque s a _ _) fun a => setMaskWork_untouched s a _ _
  case setParam => exact other (fun a => setParamWork_torque s a _ _) fun a => setParamWork_untouched s a _ _
  case getParam => exact read
  case leaseStep => exact lease
  case expiry => exact .event lease
  case envelopeStep => exact .of_torque rfl rfl
  case window i => exact windowState_keepsWheels s i
  case trackerTracking i => exact .event (windowState_keepsWheels s i)
  case trackerLost i => exact .event (windowState_keepsWheels s i)
  case startSelectionTimeout i => exact .event (windowState_keepsWheels s i)
  case tripApplyCountExpiry i => exact .event (windowState_keepsWheels s i)
  case reprobeStart i => exact .event (windowState_keepsWheels s i)
  case holdDwellEnd => exact .event (commandStepState_keepsWheels s)
  case searchDwellEnd => exact .event (commandStepState_keepsWheels s)
  case commandStep => exact commandStepState_keepsWheels s
  case demandLeaseExpiry => exact .event (commandStepState_keepsWheels s)
  case inverterMessage => exact inverterMessageState_keepsWheels s _ _ _
  case inverterSilent => exact .event (commandStepState_keepsWheels s)
  case capacityStep i => exact capacityStepState_keepsWheels s i
  case gridFault i => exact .event (capacityStepState_keepsWheels s i)
  case linkVoltageClear i => exact .event (capacityStepState_keepsWheels s i)
  case sweepEntry => exact sweep
  case sweepReady => exact .event sweep
  case steerStep i => exact steerStepState_keepsWheels s i
  case steerFault i => exact .event (steerStepState_keepsWheels s i)
  case steerFaultClear i => exact .event (steerStepState_keepsWheels s i)
  case loadWindow p => exact load p
  case latchEnd p => exact .event (load p)
  case brakeReleasedInput b => exact brakeInputState_keepsWheels s b
  case releaseTimeout => exact releaseTimeoutState_keepsWheels s

/-- Settles O57: a step is a tick of the release timer or a command on the state with the queue's rest, and
each keeps R87 on both wheels, link and mode agreeing, and the wheel-loss causes handed. -/
theorem Settled.torqueAndWheelsInvariant : Obligations.TorqueAndWheelsInvariant := by
  intro s t h
  suffices hk : KeepsWheels s t from
    ⟨hk.rest, fun ⟨agrees, handed⟩ => ⟨hk.agrees agrees, hk.handed handed⟩⟩
  unfold step at h
  split at h
  · obtain rfl := Host.Outcome.next.inj h
    exact releaseTick_keepsWheels s
  · exact (exec_keepsWheels h).after_same ⟨fun _ => rfl, rfl⟩

end Sys2Proof.Machine
end

section
/-! The chain's stages S1 to S6 (O33) and the bounds of S7 (O34). -/

namespace Sys2Proof.Machine

/-! ### The stages, each by its table (R79 to R83) -/

/-- S1 in HOLD (R79). -/
theorem baseTorque_hold (demand : Int) (tp tr holdRetard v : Nat) :
    (5 ≤ v → baseTorque .hold demand tp tr holdRetard v = -((holdRetard * tr / 1000 : Nat) : Int)) ∧
      (v < 5 → baseTorque .hold demand tp tr holdRetard v = 0) := by
  constructor <;> intro h <;> simp [baseTorque] <;> omega

/-- S1 on the demand (R79). -/
theorem baseTorque_demand {d : Drive} (hd : d ≠ .hold) (demand : Int) (tp tr holdRetard v : Nat) :
    (0 ≤ demand → baseTorque d demand tp tr holdRetard v = demand * tp / 1000) ∧
      (demand < 0 → baseTorque d demand tp tr holdRetard v = -(-demand * tr / 1000)) := by
  constructor <;> intro h <;> unfold baseTorque <;> rw [if_neg hd]
  · rw [if_pos h]
    push_cast
    rw [abs_of_nonneg h]
  · rw [if_neg (by omega)]
    push_cast
    rw [abs_of_neg h]

/-- S2 at or above the limit (R80). -/
theorem speedGoverned_over {t0 : Int} {v vmax band gain tr : Nat} (h : vmax ≤ v) :
    speedGoverned t0 v vmax band gain tr =
      min (min t0 0) (-min (tr : Int) (((v : Int) - vmax) * gain)) := by
  unfold speedGoverned
  rw [if_pos h]
  push_cast [Nat.cast_sub h]
  rfl

/-- S2 in the taper band below it (R80). -/
theorem speedGoverned_taper {t0 : Int} {v vmax band gain tr : Nat} (h : v < vmax) (h0 : 0 < t0)
    (hb : vmax ≤ v + band) :
    speedGoverned t0 v vmax band gain tr = t0 * ((vmax : Int) - v) / band := by
  unfold speedGoverned
  rw [if_neg (by omega), if_pos ⟨h0, hb⟩]
  push_cast [Nat.cast_sub h.le]
  rfl

/-- S2 elsewhere (R80). -/
theorem speedGoverned_below {t0 : Int} {v vmax band gain tr : Nat} (h : v < vmax)
    (hb : t0 ≤ 0 ∨ v + band < vmax) : speedGoverned t0 v vmax band gain tr = t0 := by
  unfold speedGoverned
  rw [if_neg (by omega), if_neg (by omega)]

/-- Settles O33, stage by stage. -/
theorem Settled.torqueChain : Obligations.TorqueChain := by
  rintro s w n c v vmax pp pr tp tr tw δ D rfl rfl rfl rfl rfl rfl rfl rfl rfl rfl
  obtain ⟨moving, standing⟩ := baseTorque_hold (s.torque.demand.getD 0) (s.eff w .propelTorque)
    (s.eff w .retardTorque) (s.param .holdRetard) s.speed.v
  refine ⟨fun hd => ⟨fun hv => ?_, fun hv => ?_⟩, fun hd => ?_, speedGoverned_over,
    speedGoverned_taper, speedGoverned_below, ?_, fun h => if_pos h,
    fun h => if_neg (Int.not_le.2 h), ?_, ?_, ?_⟩
  · show baseTorque s.drive.state _ _ _ _ _ = _
    rw [hd]
    exact_mod_cast moving hv
  · show baseTorque s.drive.state _ _ _ _ _ = _
    rw [hd]
    exact standing hv
  · exact baseTorque_demand hd _ _ _ _ _
  · show clampInt _ _ _ = _
    rw [clampInt]
    push_cast
    rfl
  · rintro rfl; rfl
  · rintro rfl; rfl
  · rfl

/-! ### The bounds of S7 (R85, R87) -/

/-- The counts leave all that the bounds read (R78, R81, R82). -/
theorem wheelBounds_counted (s : State) (w : Wheel) (n : Nat) :
    wheelBounds (counted s) w n = wheelBounds s w n := by
  simp [wheelBounds]

theorem governedCount_eq (s : State) : governedCount s.torque =
    ([Wheel.left, .right].filter (fun x => (s.wheel x).mode == .governed)).length := by
  have key (w : Wheel) : (!(s.wheel w).isMuted) = ((s.wheel w).mode == .governed) :=
    Bool.not_not _
  have count : governedCount s.torque =
      (!(s.wheel .left).isMuted).toNat + (!(s.wheel .right).isMuted).toNat := rfl
  rw [count, key, key]
  cases hl : (s.wheel .left).mode == .governed <;> cases hr : (s.wheel .right).mode == .governed <;>
    simp [hl, hr]

/-- Settles O34: what is issued lies within S7's bounds, and those bounds are the ones that stood before the
counts. -/
theorem Settled.commandBounds : Obligations.CommandBounds := by
  intro s
  refine ⟨commandStepState s, counted s, rfl, rfl, by rw [commandStepState_drive], ?_⟩
  intro w n propel retard lr lp hn hpropel hretard hlr hlp
  have hmode (x : Wheel) : ((commandStepState s).wheel x).mode = ((counted s).wheel x).mode := by
    rw [commandStepState_wheel]; rfl
  have hcount : governedCount (counted s).torque = n := by
    rw [hn, governedCount_eq]
    simp only [hmode]
  have hissued : ((commandStepState s).wheel w).tprev = (issueOf (counted s) w).torque := by
    rw [commandStepState_wheel]; rfl
  have hb := wheelBounds_counted s w n
  have blr : (wheelBounds (counted s) w n).lr = lr := by
    rw [hb, hlr, hretard]; rfl
  have blp (d : Drive) : (wheelBounds (counted s) w n).lp d = if d = .hold then 0 else lp := by
    rw [hb, hlp, hpropel]; rfl
  have hle : lr ≤ retard := by rw [hlr]; omega
  obtain ⟨lower, upper⟩ := issueOf_bounds (counted s) w
  rw [hcount, blr] at lower
  rw [hcount, blp] at upper
  have upper' : (issueOf (counted s) w).torque ≤ (lp : Int) :=
    upper.trans (by split <;> omega)
  rw [hmode, commandStepState_drive, hissued]
  refine ⟨by rw [commandStepState_wheel]; rfl, lower, upper', fun hneg => by omega, fun hh => ?_,
    fun hd hm => ?_, fun hz => ?_⟩
  · rw [if_pos hh] at upper
    exact upper
  · rw [issueOf_ran rfl hd hm, hcount]
    dsimp only
    rw [runChain_t6, blr, blp, clampInt]
    split <;> rfl
  · rw [issueOf_zero hz]; rfl

end Sys2Proof.Machine
end

section
/-! What a command step hands over and its frame (O35), the end of the demand lease (O36) and of the inverter
links (O37). -/

namespace Sys2Proof.Machine

/-! ### The limiting stage (R86) -/

/-- The limiting stage by the stages that changed the value. -/
theorem Chain.stage_iff (c : Chain) :
    (c.stage = .final ↔ c.t6 ≠ c.t5) ∧
    (c.stage = .rate ↔ c.t6 = c.t5 ∧ c.t5 ≠ c.t4) ∧
    (c.stage = .power ↔ c.t6 = c.t5 ∧ c.t5 = c.t4 ∧ c.t3 ≠ c.t2) ∧
    (c.stage = .envelope ↔ c.t6 = c.t5 ∧ c.t5 = c.t4 ∧ c.t3 = c.t2 ∧ c.t2 ≠ c.t1) ∧
    (c.stage = .speed ↔ c.t6 = c.t5 ∧ c.t5 = c.t4 ∧ c.t3 = c.t2 ∧ c.t2 = c.t1 ∧ c.t1 ≠ c.t0) ∧
    (c.stage = .none ↔ c.t6 = c.t5 ∧ c.t5 = c.t4 ∧ c.t3 = c.t2 ∧ c.t2 = c.t1 ∧ c.t1 = c.t0) := by
  unfold stage
  by_cases h6 : c.t6 = c.t5
  · by_cases h5 : c.t5 = c.t4
    · by_cases h3 : c.t3 = c.t2
      · by_cases h2 : c.t2 = c.t1
        · by_cases h1 : c.t1 = c.t0
          · simp [h6, h5, h3, h2, h1]
          · simp [h6, h5, h3, h2, h1]
        · simp [h6, h5, h3, h2]
      · simp [h6, h5, h3]
    · simp [h6, h5]
  · simp [h6]

theorem Chain.retardBound_iff (c : Chain) :
    c.retardBound = true ↔ c.t4 ≤ -(c.lr : Int) ∧ c.t6 = -(c.lr : Int) := by
  simp [retardBound]

/-! ### The hand-over and the brake assist at its end (R76, R86, R129, R130) -/

section
variable (s : State)

/-- The speed limit in use by the direction in force (R76). -/
theorem vmaxOf_eq : vmaxOf s = if s.torque.direction = .forward then s.env.applied
    else min s.env.applied (s.param .reverseSpeed) := by
  unfold vmaxOf
  cases s.torque.direction <;> rfl

@[simp] theorem commandStepState_torque : (commandStepState s).torque = (handOver (counted s)).torque :=
  evaluateAssist_torque _

theorem commandStepState_vmax : (commandStepState s).torque.vmax =
    if s.torque.direction = .forward then s.env.applied
    else min s.env.applied (s.param .reverseSpeed) := by
  have h : (commandStepState s).torque.vmax = vmaxOf (counted s) := by
    rw [commandStepState_torque]; rfl
  rw [h, vmaxOf_eq, counted_direction, counted_env, counted_param]

/-- The causes of the brake assist after a command step, read of the state it leaves (R129). -/
theorem commandStepState_causes :
    (commandStepState s).retard.causes = assistCauses (commandStepState s) := by
  rw [commandStepState_eq, evaluateAssist_eq]; rfl

/-- The level of the brake assist after a command step (R129). -/
theorem commandStepState_assist : (commandStepState s).retard.assist =
    assistLevel (assistCauses (commandStepState s))
      (min 1000 ((s.speed.v - (commandStepState s).torque.vmax) * s.param .assistGain)) := by
  have hv : (commandStepState s).speed = s.speed := by simp [commandStepState_eq]
  have hp : (commandStepState s).params = s.params := by simp [commandStepState_eq]
  have h : (commandStepState s).retard.assist = assistLevel (assistCauses (commandStepState s))
      (retardShortLevel (commandStepState s).speed.v (commandStepState s).torque.vmax
        ((commandStepState s).param .assistGain)) := by
    rw [commandStepState_eq, evaluateAssist_eq]; rfl
  rw [h, hv, State.param, hp]
  rfl

/-- What the causes of the brake assist read (R129). -/
theorem assistCauses_iff :
    ((assistCauses s).trip = true ↔ s.drive.state = .tripped) ∧
    ((assistCauses s).standstill = true ↔
      (s.drive.state = .hold ∨ s.drive.state = .starting) ∧ s.speed.v < 5) ∧
    ((assistCauses s).retardShort = true ↔
      s.torque.vmax < s.speed.v ∧ ∃ w : Wheel, (s.wheel w).retardBound = true) ∧
    ((assistCauses s).gradeShort = true ↔ s.retard.gradeShort = true) ∧
    ((assistCauses s).linkHigh = true ↔ s.gov.linkVoltage.active = true) := by
  refine ⟨by simp [assistCauses], by simp [assistCauses], ?_, Iff.rfl, Iff.rfl⟩
  rw [exists_wheel]
  simp [assistCauses, State.wheel, PerWheel.get]

end

/-- A level that rises from 0 makes its cause pending on both links (R130). -/
theorem evaluateAssist_raises {s : State} (h0 : s.retard.assist = 0)
    (h1 : (evaluateAssist s).retard.assist ≠ 0) : PendingOnBoth .brakeAssistOn (evaluateAssist s) := by
  have hset : (setAssist s).retard.assist ≠ 0 := by
    rw [evaluateAssist_eq] at h1; exact h1
  intro l
  rw [evaluateAssist_eq, if_pos ⟨h0, hset⟩]
  exact raisedPorts_pending _ _ l

/-- A cause pending after the counts is pending after the step. -/
theorem commandStepState_pending {c : Attention} {s : State} (h : PendingOnBoth c (counted s)) :
    PendingOnBoth c (commandStepState s) := evaluateAssist_keeps h

/-- After the counts a command step changes the grips besides (R86, R103). -/
theorem evaluated_handOver_frame {s u : State} (h : DriveStep s u) :
    evaluateAssist (handOver u) = { s with
      torque := (evaluateAssist (handOver u)).torque, grip := (evaluateAssist (handOver u)).grip
      drive := (evaluateAssist (handOver u)).drive, ports := (evaluateAssist (handOver u)).ports
      retard := { s.retard with
        assist := (evaluateAssist (handOver u)).retard.assist
        causes := (evaluateAssist (handOver u)).retard.causes } } := by
  have he := evaluateAssist_eq (handOver u)
  obtain ⟨d, q, p, a, c, rfl⟩ : ∃ d q p a c, u = { s with
      drive := d, torque := q, ports := p, retard := { s.retard with assist := a, causes := c } } :=
    ⟨_, _, _, _, _, h.frame⟩
  rw [he]
  rfl

/-- Settles O35: the issue on each wheel, the brake assist evaluated on what it leaves, and the frame. -/
theorem Settled.commandHandOver : Obligations.CommandHandOver := by
  intro s
  have causes := commandStepState_causes s
  have assist := commandStepState_assist s
  obtain ⟨htrip, hstand, hshort, hgrade, hlink⟩ := assistCauses_iff (commandStepState s)
  have frame := evaluated_handOver_frame (counted_step s)
  rw [← commandStepState_eq] at frame
  have hv : (commandStepState s).speed = s.speed := by rw [frame]
  rw [← causes, hv] at hstand hshort
  rw [← causes] at htrip hgrade hlink
  refine ⟨commandStepState s, counted s, rfl, rfl, commandStepState_drive s, commandStepState_vmax s, ?_,
    fun w c hc => ?_, causes, assist, fun level hl => ?_, htrip, hstand, hshort, hgrade.trans ?_,
    hlink.trans ?_, evaluateAssist_raises (s := handOver (counted s)), frame⟩
  · rw [commandStepState_torque]; rfl
  · rw [commandStepState_wheel, commandStepState_drive]
    refine ⟨rfl, rfl, rfl, rfl, rfl, fun hr hh => ?_, fun hd hm => ?_, fun hd hm => ?_⟩
    · have hz : (counted s).drive.state.zeroTorque = true := zeroTorque_iff.2 ⟨hr, hh⟩
      rw [issueOf_zero (.inl ⟨hr, hh⟩), Issue.zero, hz]
      exact ⟨rfl, rfl⟩
    · have hz : (counted s).drive.state.zeroTorque = false := by
        rcases hd with hd | hd <;> rw [hd] <;> rfl
      rw [issueOf_zero (.inr hm), Issue.zero, hz]
      exact ⟨rfl, rfl⟩
    · rw [issueOf_ran hc hd hm]
      exact ⟨rfl, c.retardBound_iff, c.stage_iff⟩
  · rw [assist, hl, ← causes]; rfl
  · rw [frame]
  · rw [frame]

end Sys2Proof.Machine
end

section
/-! The ends that a command step brings: of the demand lease (O36) and of an inverter link (O37). -/

namespace Sys2Proof.Machine

/-! ### Causes handed in READY and HOLD (R77, R172, R173) -/

/-- A hold cause handed in READY raises HOLD_ENTERED (R170, R172). -/
theorem handHold_raises {c : HoldCause} {s : State} (h : s.drive.state = .ready) :
    PendingOnBoth .holdEntered (handHold c s) := by
  rw [handHold_ready h]; exact (enter_raises .hold _).1 rfl

/-- WHEEL_LOST handed in READY or HOLD: the drive's record (R93, R172). -/
theorem handHold_wheelLost_drive {s : State} (h : s.drive.state = .ready ∨ s.drive.state = .hold) :
    (handHold .wheelLost s).drive = { s.drive with
      state := .hold
      brakeApply := if s.drive.state = .ready then false else s.drive.brakeApply
      hold := { (if s.drive.state = .ready then HoldSet.empty else s.drive.hold) with
        wheelLost := true } } := by
  rcases h with h | h
  · rw [handHold_ready h, enterHold, enter_drive]
    simp [h, brakeOnEntry, HoldSet.add, Conditions.add]
  · rw [handHold_hold h]
    simp [h, HoldSet.add, Conditions.add]

/-- A trip cause handed outside TRIPPED (R173). -/
theorem handTrip_trips {c : TripCause} {s : State} (h : s.drive.state ≠ .tripped) :
    (handTrip c s).drive.state = .tripped ∧ (handTrip c s).drive.trip = some c ∧
      (handTrip c s).drive.hold = .empty ∧ PendingOnBoth .tripped (handTrip c s) := by
  rw [handTrip_other h]
  exact ⟨enter_state _ _, by rw [enter_drive], by rw [enter_drive], (enter_raises .tripped _).2 rfl⟩

/-- The wheel-loss cause of an event that leaves this wheel MUTED (R93). -/
theorem handWheelLoss_muted {x : State} {w : Wheel} (lost : (x.wheel w).mode ≠ .governed) :
    ((x.drive.state = .ready ∨ x.drive.state = .hold) →
      ((x.wheel w.other).mode = .governed →
        (handWheelLoss x).drive = { x.drive with
          state := .hold
          brakeApply := if x.drive.state = .ready then false else x.drive.brakeApply
          hold := { (if x.drive.state = .ready then HoldSet.empty else x.drive.hold) with
            wheelLost := true } } ∧
        (x.drive.state = .ready → PendingOnBoth .holdEntered (handWheelLoss x))) ∧
      ((x.wheel w.other).mode ≠ .governed →
        (handWheelLoss x).drive.state = .tripped ∧
        (handWheelLoss x).drive.trip = some .bothWheelsLost ∧
        (handWheelLoss x).drive.hold = .empty ∧ PendingOnBoth .tripped (handWheelLoss x))) ∧
    (x.drive.state ≠ .ready → x.drive.state ≠ .hold → handWheelLoss x = x) := by
  obtain ⟨out, inside⟩ := handWheelLoss_cases x
  refine ⟨fun hd => ⟨fun ho => ?_, fun ho => ?_⟩, fun hr hh => out fun h => h.elim hr hh⟩
  · obtain ⟨-, one, -⟩ := inside hd
    rw [one w lost ho]
    exact ⟨handHold_wheelLost_drive hd, handHold_raises⟩
  · obtain ⟨-, -, both⟩ := inside hd
    have hboth (v : Wheel) : (x.wheel v).mode ≠ .governed := by
      rcases eq_or_eq_other w v with rfl | rfl
      · exact lost
      · exact ho
    rw [both hboth]
    exact handTrip_trips (by rcases hd with h | h <;> simp [h])

/-! ### The demand lease (R75) -/

theorem exec_demandLeaseExpiry (s : State) : exec .demandLeaseExpiry s =
    .next (if leaseExpires s = true then commandStepState s else s) := rfl

/-- A lease above 1 counts in READY. -/
theorem leaseCounted_counts {s : State} {r : Nat} (hd : s.drive.state = .ready)
    (hl : s.torque.lease = some r) (hr : 1 < r) : leaseExpires s = false ∧
      leaseCounted s = withTorque { s.torque with lease := some (r - 1) } s := by
  have hn : leaseExpires s = false := by
    rw [← Bool.not_eq_true, leaseExpires_iff]
    rintro ⟨-, m, hm, hle⟩
    rw [hl] at hm
    cases hm
    omega
  refine ⟨hn, ?_⟩
  unfold leaseCounted
  rw [hn, if_neg (by simp), if_pos hd, hl]
  rfl

/-- Outside READY it does not (R75, R77). -/
theorem leaseCounted_other {s : State} (hd : s.drive.state ≠ .ready) :
    leaseExpires s = false ∧ leaseCounted s = s := by
  rcases leaseCounted_cases s with ⟨-, hr, -⟩ | ⟨-, hr, -⟩ | ⟨hn, -, e⟩
  · exact absurd hr hd
  · exact absurd hr hd
  · exact ⟨hn, e⟩

/-- At its end the demand is dropped and HOLD entered with DEMAND_LOST (R75, R77). -/
theorem leaseCounted_expires {s : State} (h : leaseExpires s = true) :
    (leaseCounted s).drive = { s.drive with
      state := .hold, hold := { HoldSet.empty with demandLost := true }, brakeApply := false } ∧
    (leaseCounted s).torque.demand = none ∧ (leaseCounted s).torque.lease = none ∧
    PendingOnBoth .holdEntered (leaseCounted s) := by
  have hd := (leaseExpires_iff.1 h).1
  have e : leaseCounted s = enterHold (HoldSet.empty.add .demandLost)
      (withTorque { s.torque with demand := none, lease := none } s) := by
    rw [leaseCounted, if_pos h, handHold_ready (by exact hd)]; rfl
  rw [e, enterHold]
  refine ⟨?_, by rw [enter_torque]; rfl, by rw [enter_torque]; rfl, (enter_raises .hold _).1 rfl⟩
  rw [enter_drive]
  simp [hd, HoldSet.add, brakeOnEntry]

/-- Where no link falls SILENT the silence counts change no mode and hand no cause (R90, R93). -/
theorem silenceCounted_quiet {s : State} (h : ∀ w, (s.wheel w).silence ≠ 4) :
    silenceCounted s = silencedState s := by
  rw [silenceCounted_eq, if_neg]
  rw [newlyMuted_iff]
  rintro ⟨w, hg, hm⟩
  rw [silencedState_wheel, WheelState.silenced_mode (h w)] at hm
  exact hm hg

theorem counted_quiet {s : State} (h : ∀ w, (s.wheel w).silence ≠ 4) :
    counted s = silencedState (leaseCounted s) :=
  silenceCounted_quiet fun w => by rw [(CauseStep.leaseCounted s).silence]; exact h w

/-- Settles O36: without a link that falls SILENT a command step leaves the drive, demand and lease as the
lease count does. -/
theorem Settled.demandLease : Obligations.DemandLease := by
  intro s hq
  have hdrive : (commandStepState s).drive = (leaseCounted s).drive := by
    rw [commandStepState_drive, counted_quiet hq]; rfl
  have htorque : (commandStepState s).torque.lease = (leaseCounted s).torque.lease ∧
      (commandStepState s).torque.demand = (leaseCounted s).torque.demand := by
    rw [commandStepState_torque, counted_quiet hq]
    exact ⟨rfl, rfl⟩
  obtain ⟨hlease, hdemand⟩ := htorque
  refine ⟨fun r hd hl hr => ?_, fun hd hl => ?_, fun hd => ?_⟩
  · obtain ⟨hn, e⟩ := leaseCounted_counts hd hl hr
    rw [e] at hdrive hlease hdemand
    exact ⟨_, rfl, hlease, hdemand, hdrive, by rw [exec_demandLeaseExpiry, hn]; rfl⟩
  · have he : leaseExpires s = true := leaseExpires_iff.2 ⟨hd, 1, hl, Nat.le_refl 1⟩
    obtain ⟨drive, demand, lease, pending⟩ := leaseCounted_expires he
    refine ⟨commandStepState s, by rw [exec_demandLeaseExpiry, if_pos he], rfl, hdrive.trans drive,
      hdemand.trans demand, hlease.trans lease, ?_, ?_, fun w => ?_, ?_⟩
    · rw [commandStepState_torque]; exact counted_steerDemand s
    · rw [commandStepState_torque]; exact counted_direction s
    · rw [commandStepState_wheel]
      refine (issued_atRest (counted s) w _).2 ?_
      rw [← commandStepState_drive, hdrive, drive]
    · exact commandStepState_pending ((DriveStep.silenceCounted _).pending _ pending)
  · obtain ⟨hn, e⟩ := leaseCounted_other hd
    rw [e] at hdrive hlease hdemand
    exact ⟨by rw [exec_demandLeaseExpiry, hn]; rfl, _, rfl, hlease, hdemand, hdrive⟩

/-! ### The inverter links (R90, R91, R93) -/

theorem exec_inverterSilent (w : Wheel) (s : State) : exec (.inverterSilent w) s =
    .next (if (s.wheel w).silence < 5 ∧ ((commandStepState s).wheel w).silence = 5
      then commandStepState s else s) := by
  show Host.Outcome.next (if fallsSilent w s (commandStepState s) = true then _ else _) = _
  simp only [fallsSilent, Bool.and_eq_true, decide_eq_true_eq]

section
variable (s : State) (w : Wheel)

/-- Link, silence count and mode after a command step are those of the silence count (R90, R91). -/
theorem commandStepState_link :
    ((commandStepState s).wheel w).link = ((s.wheel w).silenced s.torque.direction).link := by
  rw [commandStepState_wheel]; exact counted_link s w

theorem commandStepState_silence :
    ((commandStepState s).wheel w).silence = ((s.wheel w).silenced s.torque.direction).silence := by
  rw [commandStepState_wheel]; exact counted_silence s w

theorem commandStepState_mode :
    ((commandStepState s).wheel w).mode = ((s.wheel w).silenced s.torque.direction).mode := by
  rw [commandStepState_wheel]; exact counted_mode s w

end

/-- A wheel whose link falls SILENT (R90, R91). -/
theorem WheelState.silenced_at_four {x : WheelState} (dir : Direction) (h : x.silence = 4) :
    (x.silenced dir).silence = 5 ∧ (x.silenced dir).link = .silent ∧
      (x.silenced dir).mode = if x.mode = .governed then .mutedSilent else x.mode := by
  rw [silenced_falls h]
  refine ⟨muted_silence _, muted_link _, ?_⟩
  rcases muted_cases .mutedSilent dir { x with silence := 5, link := .silent } with
    ⟨hm, e⟩ | ⟨hm, e⟩ <;> rw [e]
  · exact (if_neg hm).symm
  · exact (if_pos hm).symm

/-- In READY and HOLD the lease count leaves READY or HOLD, and raises HOLD_ENTERED where it leaves READY
(R75). -/
theorem leaseCounted_state {s : State} (h : s.drive.state = .ready ∨ s.drive.state = .hold) :
    ((leaseCounted s).drive.state = .ready ∨ (leaseCounted s).drive.state = .hold) ∧
    (s.drive.state = .ready → (leaseCounted s).drive.state = .hold →
      PendingOnBoth .holdEntered (leaseCounted s)) := by
  rcases leaseCounted_cases s with ⟨he, -, -⟩ | ⟨-, hr, e⟩ | ⟨-, hn, e⟩
  · obtain ⟨drive, -, -, pending⟩ := leaseCounted_expires he
    exact ⟨.inr (by rw [drive]), fun _ _ => pending⟩
  · rw [e]
    exact ⟨.inl hr, fun _ hh => by rw [withTorque_drive, hr] at hh; cases hh⟩
  · rw [e]
    exact ⟨h, fun hr => absurd hr hn⟩

/-- The wheel-loss cause of a GOVERNED wheel whose link falls SILENT in READY or HOLD (R93). -/
theorem counted_loses {s : State} {w : Wheel} (h4 : (s.wheel w).silence = 4)
    (hg : (s.wheel w).mode = .governed) (hd : s.drive.state = .ready ∨ s.drive.state = .hold) :
    ((s.wheel w.other).mode = .governed → (s.wheel w.other).silence ≠ 4 →
      (counted s).drive.state = .hold ∧ (counted s).drive.hold.wheelLost = true ∧
      (s.drive.state = .ready → PendingOnBoth .holdEntered (counted s))) ∧
    ((s.wheel w.other).mode ≠ .governed ∨ (s.wheel w.other).silence = 4 →
      (counted s).drive.state = .tripped ∧ (counted s).drive.trip = some .bothWheelsLost ∧
      (counted s).drive.hold = .empty ∧ PendingOnBoth .tripped (counted s)) := by
  have lease := CauseStep.leaseCounted s
  have hstate : (silencedState (leaseCounted s)).drive.state = .ready ∨
      (silencedState (leaseCounted s)).drive.state = .hold := (leaseCounted_state hd).1
  have hraised : s.drive.state = .ready → (silencedState (leaseCounted s)).drive.state = .hold →
      PendingOnBoth .holdEntered (silencedState (leaseCounted s)) := (leaseCounted_state hd).2
  have mode (v : Wheel) : ((silencedState (leaseCounted s)).wheel v).mode =
      ((s.wheel v).silenced s.torque.direction).mode := by
    rw [← counted_mode]
    exact ((CauseStep.silenceCounted (leaseCounted s)).mode v).symm
  have lost {v : Wheel} (hv : (s.wheel v).mode ≠ .governed ∨ (s.wheel v).silence = 4) :
      ((silencedState (leaseCounted s)).wheel v).mode ≠ .governed := by
    rw [mode]
    by_cases h : (s.wheel v).silence = 4
    · obtain ⟨-, -, hm⟩ := WheelState.silenced_at_four s.torque.direction h
      rw [hm]
      split <;> simp_all
    · rw [WheelState.silenced_mode h]
      exact hv.resolve_right h
  have e : counted s = handWheelLoss (silencedState (leaseCounted s)) := by
    rw [counted, silenceCounted_eq, if_pos]
    exact newlyMuted_iff.2 ⟨w, by rw [lease.mode]; exact hg, lost (.inr h4)⟩
  rw [e]
  generalize silencedState (leaseCounted s) = x at hstate hraised mode lost
  obtain ⟨one, both⟩ := (handWheelLoss_muted (lost (.inr h4))).1 hstate
  refine ⟨fun ho h => ?_, fun h => both (lost h)⟩
  obtain ⟨drive, raised⟩ := one (by rw [mode, WheelState.silenced_mode h]; exact ho)
  exact ⟨by rw [drive], by rw [drive], fun hr => hstate.elim raised fun hh =>
    (DriveStep.handWheelLoss x).pending _ (hraised hr hh)⟩

/-- Outside READY and HOLD the counts leave the drive (R75, R93). -/
theorem counted_drive_other {s : State} (hr : s.drive.state ≠ .ready) (hh : s.drive.state ≠ .hold) :
    (counted s).drive = s.drive := by
  rw [counted, (leaseCounted_other hr).2, silenceCounted_eq]
  split
  · rw [(handWheelLoss_cases (silencedState s)).1 fun h => h.elim hr hh]; rfl
  · rfl

/-- Settles O37, by the silence count before the step. -/
theorem Settled.inverterSilence : Obligations.InverterSilence := by
  intro w s
  have link := commandStepState_link s w
  have silence := commandStepState_silence s w
  have mode := commandStepState_mode s w
  refine ⟨fun hn => ?_, commandStepState s, rfl, fun h => ?_, fun h => ?_, fun h => ?_⟩
  · rw [exec_inverterSilent, if_neg]
    rintro ⟨hlt, h5⟩
    rw [silence, WheelState.silenced_counts (by omega)] at h5
    dsimp only at h5
    omega
  · rw [WheelState.silenced_counts h] at link silence mode
    exact ⟨silence, link, mode⟩
  · rw [WheelState.silenced_stays (by omega)] at link silence mode
    exact ⟨silence.trans h, link, mode⟩
  · obtain ⟨h5, hsilent, hmode⟩ := WheelState.silenced_at_four s.torque.direction h
    rw [h5] at silence
    rw [hsilent] at link
    rw [hmode] at mode
    have muted : ((counted s).wheel w).mode ≠ .governed := by
      rw [counted_mode, hmode]
      split <;> simp_all
    have issued : (commandStepState s).wheel w =
        ((counted s).wheel w).issued s.torque.direction (.zero (counted s).drive.state) := by
      rw [commandStepState_wheel, issueOf_zero (.inr muted)]
    refine ⟨?_, silence, link, by rw [issued]; rfl, by rw [issued]; rfl,
      fun hg => mode.trans (if_pos hg), fun hg => mode.trans (if_neg hg), fun hg hd => ?_,
      fun hr hh => (commandStepState_drive s).trans (counted_drive_other hr hh)⟩
    · rw [exec_inverterSilent, if_pos ⟨by omega, silence⟩]
    · obtain ⟨one, both⟩ := counted_loses h hg hd
      rw [commandStepState_drive]
      refine ⟨fun ho hs => ?_, fun ho => ?_⟩
      · obtain ⟨state, cause, raised⟩ := one ho hs
        exact ⟨state, cause, fun hr => commandStepState_pending (raised hr)⟩
      · obtain ⟨state, trip, hold, raised⟩ := both ho
        exact ⟨state, trip, hold, commandStepState_pending raised⟩

end Sys2Proof.Machine
end

section
/-! Inverter messages (O38). -/

namespace Sys2Proof.Machine

/-! ### The wheel that the message is of (R89, R91, R92) -/

/-- A message of an UP link: the wheel returns in STARTING and PARKED (R92). -/
theorem WheelState.reported_up (dir : Direction) (d : Drive) (x : WheelState) :
    (x.reported false dir d).silence = 0 ∧ (x.reported false dir d).link = .up ∧
    (x.reported false dir d).mode = (if d = .starting ∨ d = .parked then .governed else x.mode) ∧
    (x.reported false dir d).tprev =
      if x.mode ≠ .governed ∧ (d = .starting ∨ d = .parked) then 0 else x.tprev := by
  unfold reported
  rw [if_neg (by simp)]
  dsimp only
  by_cases hd : d = .starting ∨ d = .parked
  · rw [if_pos hd, if_pos hd]
    rcases returned_cases { x with silence := 0, link := .up } with ⟨hn, e⟩ | ⟨hm, -, e⟩ <;> rw [e]
    · have hg := hn.resolve_right (by simp)
      dsimp only at hg
      exact ⟨rfl, rfl, hg, by simp [hg]⟩
    · exact ⟨rfl, rfl, rfl, (if_pos ⟨hm, hd⟩).symm⟩
  · rw [if_neg hd, if_neg hd, if_neg (fun h => hd h.2)]
    exact ⟨rfl, rfl, rfl, rfl⟩

/-- A message of a fault mutes a GOVERNED wheel (R91). -/
theorem WheelState.reported_fault (dir : Direction) (d : Drive) (x : WheelState) :
    (x.reported true dir d).silence = 0 ∧ (x.reported true dir d).link = .fault ∧
    (x.reported true dir d).history = x.history ∧
    (x.mode ≠ .governed → (x.reported true dir d).mode = x.mode) ∧
    (x.mode = .governed → (x.reported true dir d).mode = .mutedFault ∧
      (x.reported true dir d).tprev = 0 ∧ (x.reported true dir d).sent = ⟨0, dir⟩) := by
  unfold reported
  rw [if_pos rfl]
  rcases muted_cases .mutedFault dir { x with silence := 0, link := .fault } with
    ⟨hm, e⟩ | ⟨hm, e⟩ <;> rw [e]
  · exact ⟨rfl, rfl, rfl, fun _ => rfl, fun hg => absurd hg hm⟩
  · exact ⟨rfl, rfl, rfl, fun hn => absurd hm hn, fun _ => ⟨rfl, rfl, rfl⟩⟩

/-! ### The message and its wheel-loss cause (R89, R93) -/

/-- The state after a message, before the wheel-loss cause. -/
def reportedState (w : Wheel) (rpm : Nat) (fault : Bool) (s : State) : State :=
  { s with speed := s.speed.told w rpm }.setWheel w
    ((s.wheel w).reported fault s.torque.direction s.drive.state)

section
variable (w : Wheel) (rpm : Nat) (fault : Bool) (s : State)

theorem inverterMessageState_eq : inverterMessageState w rpm fault s =
    if newlyMuted s (reportedState w rpm fault s) then handWheelLoss (reportedState w rpm fault s)
    else reportedState w rpm fault s := rfl

theorem reportedState_wheel : (reportedState w rpm fault s).wheel w =
    (s.wheel w).reported fault s.torque.direction s.drive.state := (setWheel_wheel _ w _).1

theorem reportedState_other : (reportedState w rpm fault s).wheel w.other = s.wheel w.other :=
  (setWheel_wheel _ w _).2

theorem reportedState_rpm : (reportedState w rpm fault s).speed.rpm.get w = rpm := by
  cases w <;> rfl

/-- Only the wheel that the message is of can become MUTED by it. -/
theorem newlyMuted_reportedState : newlyMuted s (reportedState w rpm fault s) = true ↔
    (s.wheel w).mode = .governed ∧ ((reportedState w rpm fault s).wheel w).mode ≠ .governed := by
  rw [newlyMuted_iff]
  refine ⟨fun ⟨v, hg, hm⟩ => ?_, fun h => ⟨w, h⟩⟩
  rcases eq_or_eq_other w v with rfl | rfl
  · exact ⟨hg, hm⟩
  · rw [reportedState_other] at hm; exact absurd hg hm

/-- A message of an UP link mutes no wheel. -/
theorem inverterMessageState_up : inverterMessageState w rpm false s = reportedState w rpm false s := by
  rw [inverterMessageState_eq, if_neg]
  rw [newlyMuted_reportedState, reportedState_wheel]
  obtain ⟨-, -, mode, -⟩ := WheelState.reported_up s.torque.direction s.drive.state (s.wheel w)
  rintro ⟨hg, hm⟩
  rw [mode, hg, ite_self] at hm
  exact hm rfl

/-- A message of a fault on a MUTED wheel mutes no wheel. -/
theorem inverterMessageState_muted (h : (s.wheel w).mode ≠ .governed) :
    inverterMessageState w rpm fault s = reportedState w rpm fault s := by
  rw [inverterMessageState_eq, if_neg]
  rw [newlyMuted_reportedState]
  exact fun hw => h hw.1

/-- A message of a fault on a GOVERNED wheel hands the wheel-loss cause (R93). -/
theorem inverterMessageState_loses (h : (s.wheel w).mode = .governed) :
    inverterMessageState w rpm true s = handWheelLoss (reportedState w rpm true s) := by
  rw [inverterMessageState_eq, if_pos]
  rw [newlyMuted_reportedState, reportedState_wheel]
  obtain ⟨-, -, -, -, muted⟩ := WheelState.reported_fault s.torque.direction s.drive.state (s.wheel w)
  exact ⟨h, by rw [(muted h).1]; simp⟩

/-- After the wheel itself a message changes what a wheel-loss cause changes. -/
theorem inverterMessageState_step :
    CauseStep (reportedState w rpm fault s) (inverterMessageState w rpm fault s) ∧
      DriveStep (reportedState w rpm fault s) (inverterMessageState w rpm fault s) := by
  rw [inverterMessageState_eq]
  split
  · exact ⟨.handWheelLoss _, .handWheelLoss _⟩
  · exact ⟨.refl _, .refl _⟩

theorem inverterMessageState_frame : inverterMessageState w rpm fault s = { s with
    speed := (inverterMessageState w rpm fault s).speed
    torque := (inverterMessageState w rpm fault s).torque
    drive := (inverterMessageState w rpm fault s).drive
    ports := (inverterMessageState w rpm fault s).ports
    retard := { s.retard with
      assist := (inverterMessageState w rpm fault s).retard.assist
      causes := (inverterMessageState w rpm fault s).retard.causes } } := by
  rw [(inverterMessageState_step w rpm fault s).2.frame]; rfl

end

/-- Settles O38: a message of an UP link stops at the wheel, one of a fault hands the wheel-loss cause of a
GOVERNED wheel. -/
theorem Settled.inverterMessage : Obligations.InverterMessage := by
  intro w rpm fault s
  obtain ⟨cause, drive⟩ := inverterMessageState_step w rpm fault s
  have silence := cause.silence w
  have link := cause.link w
  have speed : (inverterMessageState w rpm fault s).speed = (reportedState w rpm fault s).speed := by
    rw [drive.frame]
  rw [reportedState_wheel] at silence link
  refine ⟨inverterMessageState w rpm fault s, rfl, by rw [speed, reportedState_rpm], ?_, ?_,
    fun hf => ?_, fun hf => ?_⟩
  · cases fault
    · exact silence.trans (WheelState.reported_up _ _ _).1
    · exact silence.trans (WheelState.reported_fault _ _ _).1
  · cases fault
    · exact link.trans (WheelState.reported_up _ _ _).2.1
    · exact link.trans (WheelState.reported_fault _ _ _).2.1
  · subst hf
    obtain ⟨-, -, mode, tprev⟩ := WheelState.reported_up s.torque.direction s.drive.state (s.wheel w)
    rw [inverterMessageState_up, reportedState_wheel, reportedState_other]
    exact ⟨mode, tprev, rfl, rfl⟩
  · subst hf
    obtain ⟨-, -, history, stays, muted⟩ :=
      WheelState.reported_fault s.torque.direction s.drive.state (s.wheel w)
    refine ⟨fun hm => ?_, fun hg => ?_, inverterMessageState_frame w rpm true s⟩
    · rw [inverterMessageState_muted w rpm true s hm, reportedState_wheel, reportedState_other]
      exact ⟨stays hm, rfl, rfl⟩
    · obtain ⟨mode, tprev, sent⟩ := muted hg
      have hw := cause.wheel w
      have hmode := cause.mode w
      have hhistory := cause.history w
      rw [reportedState_wheel] at hw hmode hhistory
      rw [mode] at hmode
      rw [history] at hhistory
      have hzero : ((inverterMessageState w rpm true s).wheel w).tprev = 0 ∧
          ((inverterMessageState w rpm true s).wheel w).sent = ⟨0, s.torque.direction⟩ := by
        rcases hw with e | e <;> rw [e]
        · exact ⟨tprev, sent⟩
        · exact ⟨rfl, rfl⟩
      have lost : ((reportedState w rpm true s).wheel w).mode ≠ .governed := by
        rw [reportedState_wheel, mode]; simp
      obtain ⟨inside, out⟩ := handWheelLoss_muted lost
      rw [← inverterMessageState_loses w rpm s hg, reportedState_other] at inside
      rw [← inverterMessageState_loses w rpm s hg] at out
      refine ⟨hmode, hzero.1, hzero.2, hhistory, fun hd => ?_, fun hr hh => ?_⟩
      · obtain ⟨one, both⟩ := inside hd
        refine ⟨one, fun ho => ?_⟩
        obtain ⟨state, trip, -, pending⟩ := both ho
        exact ⟨state, trip, pending⟩
      · rw [out hr hh, reportedState_other]
        exact ⟨rfl, rfl⟩

end Sys2Proof.Machine
end

section
/-! SET_DEMAND (O32), PARK and CLEAR_HOLD (O51). -/

namespace Sys2Proof.Machine

/-! ### Who may send them (R72, R174, R175, R177) -/

theorem modeAuthority_iff {m : ControlMode} {a : Owner} : modeAuthority m a = true ↔
    (m = .manned ∧ a = .operator) ∨ (m = .autonomous ∧ a = .autonomy) := by
  cases m <;> simp [modeAuthority]

theorem drives_iff {a : Owner} {s : State} : drives a s = true ↔ a = .safety ∨
    (s.drive.mode = .manned ∧ a = .operator) ∨ (s.drive.mode = .autonomous ∧ a = .autonomy) := by
  rw [drives, Bool.or_eq_true, modeAuthority_iff, beq_iff_eq]

section
variable {h : Hdr} {a : Owner} {s t : State}

theorem exec_setDemand {demand steer : Half} {direction : Byte} (ha : authorityOf h = some a) :
    exec (.setDemand h demand steer direction) s =
      .next ((setDemandWork demand steer direction a s).1.exchanged h.link
        (answerOf h 0x40 (setDemandWork demand steer direction a s).2)) :=
  congrArg Host.Outcome.next (takeRequest_of ha rfl)

theorem exec_park (ha : authorityOf h = some a) : exec (.park h) s =
    .next ((parkWork a s).1.exchanged h.link (answerOf h 0x41 (parkWork a s).2)) :=
  congrArg Host.Outcome.next (takeRequest_of ha rfl)

theorem exec_unpark (ha : authorityOf h = some a) : exec (.unpark h) s =
    .next ((unparkWork a s).1.exchanged h.link (answerOf h 0x42 (unparkWork a s).2)) :=
  congrArg Host.Outcome.next (takeRequest_of ha rfl)

theorem exec_clearHold (ha : authorityOf h = some a) : exec (.clearHold h) s =
    .next ((clearHoldWork a s).1.exchanged h.link (answerOf h 0x43 (clearHoldWork a s).2)) :=
  congrArg Host.Outcome.next (takeRequest_of ha rfl)

end

/-! ### SET_DEMAND (R72 to R74) -/

section
variable {demand steer : Half} {direction : Byte} {d : Direction} {a : Owner} {s : State}

theorem setDemandWork_notOwner (hm : modeAuthority s.drive.mode a = false) :
    setDemandWork demand steer direction a s = (s, .refuse .notOwner) := if_pos hm

theorem setDemandWork_badValue (hm : modeAuthority s.drive.mode a = true)
    (hd : directionOfCode direction = none) :
    setDemandWork demand steer direction a s = (s, .refuse .badValue) := by
  simp [setDemandWork, hm, hd]

theorem setDemandWork_state (hm : modeAuthority s.drive.mode a = true)
    (hd : directionOfCode direction = some d) (hr : s.drive.state ≠ .ready)
    (hh : s.drive.state ≠ .hold) :
    setDemandWork demand steer direction a s = (s, .refuse .state) := by
  simp [setDemandWork, hm, hd, hr, hh]

theorem setDemandWork_taken (hm : modeAuthority s.drive.mode a = true)
    (hd : directionOfCode direction = some d)
    (hs : s.drive.state = .ready ∨ s.drive.state = .hold) :
    setDemandWork demand steer direction a s = (demandTaken demand steer d s,
      .ok (demandFields (steerOf steer) (demandTaken demand steer d s))) := by
  simp [setDemandWork, hm, hd, hs]

end

/-- The direction in force after a SET_DEMAND below 0.5 km/h, and else as it was (R74). -/
theorem TorqueGov.turned_direction (d : Direction) (v : Nat) (t : TorqueGov) :
    (t.turned d v).direction = if v < 5 then d else t.direction := by
  unfold turned
  by_cases hv : v < 5
  · by_cases hd : t.direction = d <;> simp [hv, hd]
  · simp [hv]

/-- The wheels at a change of the direction in force (R74). -/
theorem TorqueGov.turned_wheel (d : Direction) (v : Nat) (t : TorqueGov) (w : Wheel) :
    (t.turned d v).wheels.get w = if t.direction ≠ d ∧ v < 5 then { t.wheels.get w with tprev := 0 }
      else t.wheels.get w := by
  unfold turned
  split
  · exact PerWheel.get_map _ _ w
  · rfl

theorem TorqueGov.turned_vmax (d : Direction) (v : Nat) (t : TorqueGov) :
    (t.turned d v).vmax = t.vmax := by
  unfold turned; split <;> rfl

/-- Settles O32, by SET_DEMAND's checks in their order. -/
theorem Settled.setDemand : Obligations.SetDemand := by
  intro h demand steer direction a s ha
  simp only [← modeAuthority_iff, exec_setDemand ha]
  refine ⟨fun hm => ?_, fun hm => ⟨fun hd => ?_, ?_⟩⟩
  · rw [setDemandWork_notOwner (Bool.not_eq_true _ ▸ hm)]; rfl
  · rw [setDemandWork_badValue hm hd]; rfl
  · rintro d D S hd rfl rfl
    refine ⟨fun hr hh => ?_, fun hh => ?_, fun hr => ⟨demandInReady (demandOf demand) (steerOf steer) d s,
      ?_, rfl, rfl, rfl, TorqueGov.turned_direction d _ _, TorqueGov.turned_wheel d _ _,
      TorqueGov.turned_vmax d _ _, rfl⟩⟩
    · rw [setDemandWork_state hm hd hr hh]; rfl
    · have e : demandTaken demand steer d s = demandInHold (steerOf steer) s := by
        simp [demandTaken, hh]
      rw [setDemandWork_taken hm hd (.inr hh), e]
      simp only [answerOf_ok, demandFields, demandInHold, withTorque, hh]
      rfl
    · have e : demandTaken demand steer d s =
          demandInReady (demandOf demand) (steerOf steer) d s := by simp [demandTaken, hr]
      rw [setDemandWork_taken hm hd (.inl hr), e]
      simp only [answerOf_ok, demandFields, demandInReady, withTorque, hr]
      rfl

/-! ### Entries to a drive state with their frames (R77, R87, R92, R170, R171) -/

/-- An entry to any state but STARTING touches the drive, the links, the brake assist and of the torque the
demand, its lease and the wheels. -/
theorem enter_frame {d : Drive} (hd : d ≠ .starting) (s : State) : enter d s = { s with
    drive := (enter d s).drive, ports := (enter d s).ports
    torque := { s.torque with
      demand := none, lease := if d = .ready then some 25 else none
      wheels := (enter d s).torque.wheels }
    retard := { s.retard with
      assist := (enter d s).retard.assist, causes := (enter d s).retard.causes } } := by
  obtain ⟨p, e⟩ := enter_eq d s
  rw [e]
  cases d with
  | starting => exact absurd rfl hd
  | parked => rfl
  | releasing => rfl
  | ready => rfl
  | hold => rfl
  | tripped => rfl

/-- The drive's record at an entry from any state but STARTING. -/
theorem enter_drive_running (d : Drive) {s : State} {x : DriveCtl} (h : x.state ≠ .starting) :
    (enter d { s with drive := x }).drive = { x with
      state := d, brakeApply := brakeOnEntry d s.speed.v } := by
  rw [enter_drive]; simp [h]

/-- A wheel at the entry to PARKED (R87, R92). -/
theorem wheelOnEntry_parked (dir : Direction) (x : WheelState) :
    (wheelOnEntry .parked dir x).tprev = 0 ∧ (wheelOnEntry .parked dir x).sent = ⟨0, dir⟩ ∧
      (wheelOnEntry .parked dir x).mode = if x.link = .up then .governed else x.mode := by
  show (x.zeroed dir).returned.tprev = 0 ∧ (x.zeroed dir).returned.sent = _ ∧
    (x.zeroed dir).returned.mode = _
  rcases WheelState.returned_cases (x.zeroed dir) with ⟨hn, e⟩ | ⟨-, hl, e⟩ <;> rw [e]
  · refine ⟨rfl, rfl, ?_⟩
    split
    · next hl => exact hn.resolve_right (not_not.2 hl)
    · rfl
  · exact ⟨rfl, rfl, (if_pos hl).symm⟩

/-- An entry to PARKED from any state but STARTING, after a change of the drive's record. -/
theorem enter_parked {s : State} {x : DriveCtl} (h : x.state ≠ .starting) :
    (enter .parked { s with drive := x }).drive = { x with state := .parked, brakeApply := true } ∧
    ∀ w : Wheel, ((enter .parked { s with drive := x }).wheel w).tprev = 0 ∧
      ((enter .parked { s with drive := x }).wheel w).sent = ⟨0, s.torque.direction⟩ ∧
      ((enter .parked { s with drive := x }).wheel w).mode =
        if (s.wheel w).link = .up then .governed else (s.wheel w).mode := by
  refine ⟨enter_drive_running .parked h, fun w => ?_⟩
  rw [enter_wheel]
  exact wheelOnEntry_parked _ _

/-! ### PARK (R174) -/

/-- PARK past its checks outside PARKED. -/
theorem parkState_eq {s : State}
    (h : s.drive.state = .ready ∨ s.drive.state = .hold ∨ s.drive.state = .releasing) :
    parkState s = enter .parked { s with drive := { s.drive with
      hold := .empty
      timer := if s.drive.state = .releasing then none else s.drive.timer
      outcome := if s.drive.state = .releasing then .aborted else s.drive.outcome } } := by
  rcases h with h | h | h <;> simp only [parkState, h, enterParked, endRelease, reduceCtorEq, if_false,
    if_true]

section
variable {a : Owner} {s : State}

theorem parkWork_notOwner (hm : drives a s = false) : parkWork a s = (s, .refuse .notOwner) := if_pos hm

theorem parkWork_state (hm : drives a s = true)
    (hd : s.drive.state = .tripped ∨ s.drive.state = .starting) :
    parkWork a s = (s, .refuse .state) := by
  simp [parkWork, hm, hd]

theorem parkWork_moving (hm : drives a s = true) (ht : s.drive.state ≠ .tripped)
    (hs : s.drive.state ≠ .starting) (hv : 5 ≤ s.speed.v) :
    parkWork a s = (s, .refuse .moving) := by
  simp [parkWork, hm, ht, hs, hv]

theorem parkWork_done (hm : drives a s = true) (ht : s.drive.state ≠ .tripped)
    (hs : s.drive.state ≠ .starting) (hv : s.speed.v < 5) :
    parkWork a s = driveDone (parkState s) := by
  simp [parkWork, hm, ht, hs, Nat.not_le.2 hv]

/-! ### CLEAR_HOLD (R92, R177) -/

theorem clearHoldWork_notOwner (hm : drives a s = false) :
    clearHoldWork a s = (s, .refuse .notOwner) := if_pos hm

theorem clearHoldWork_state (hm : drives a s = true) (hd : s.drive.state ≠ .hold) :
    clearHoldWork a s = (s, .refuse .state) := by
  simp [clearHoldWork, hm, hd]

theorem clearHoldWork_moving (hm : drives a s = true) (hd : s.drive.state = .hold)
    (hv : 5 ≤ s.speed.v) : clearHoldWork a s = (s, .refuse .moving) := by
  simp [clearHoldWork, hm, hd, hv]

theorem clearHoldWork_stands (hm : drives a s = true) (hd : s.drive.state = .hold)
    (hv : s.speed.v < 5) (hs : holdStands a s = true) : clearHoldWork a s = (s, .refuse .state) := by
  simp [clearHoldWork, hm, hd, Nat.not_le.2 hv, hs]

theorem clearHoldWork_done (hm : drives a s = true) (hd : s.drive.state = .hold)
    (hv : s.speed.v < 5) (hs : holdStands a s = false) :
    clearHoldWork a s = driveDone (clearHoldState s) := by
  simp [clearHoldWork, hm, hd, Nat.not_le.2 hv, hs]

/-- Check 4 of CLEAR_HOLD (R177). -/
theorem holdStands_iff : holdStands a s = true ↔ s.drive.conditions.steerFault = true ∨
    s.drive.conditions.steerCrit = true ∨
    (∃ w : Wheel, (s.wheel w).mode ≠ .governed ∧ (s.wheel w).link ≠ .up) ∨
    (s.drive.hold.safetyHold = true ∧ a ≠ .safety) := by
  rw [exists_wheel, ← WheelState.lost_iff, ← WheelState.lost_iff]
  simp only [holdStands, Conditions.any, Bool.or_eq_true, Bool.and_eq_true, bne_iff_ne, or_assoc]
  rfl

/-- What CLEAR_HOLD leaves where no cause stands. -/
theorem clearHoldState_leaves (hd : s.drive.state = .hold) (hs : holdStands a s = false) :
    (clearHoldState s).drive = { s.drive with state := .ready, hold := .empty, brakeApply := false } ∧
    (∀ w : Wheel, (clearHoldState s).wheel w = if (s.wheel w).mode = .governed then s.wheel w
      else { s.wheel w with mode := .governed, tprev := 0 }) := by
  refine ⟨?_, fun w => ?_⟩
  · rw [clearHoldState, enter_drive]
    simp [hd, brakeOnEntry]
  · have hw : (clearHoldState s).wheel w = (s.wheel w).returned := by
      rw [clearHoldState, enter_wheel]
      exact PerWheel.get_map _ _ w
    rw [hw]
    rcases WheelState.returned_cases (s.wheel w) with ⟨hn, e⟩ | ⟨hm, -, e⟩ <;> rw [e]
    · rw [if_pos]
      by_contra hm
      have : holdStands a s = true :=
        holdStands_iff.2 (.inr (.inr (.inl ⟨w, hm, hn.resolve_left hm⟩)))
      rw [hs] at this
      cases this
    · rw [if_neg hm]

end

/-- Settles O51, by the checks of both requests in their order. -/
theorem Settled.parkAndClearHold : Obligations.ParkAndClearHold := by
  intro h a s mine ha hmine
  rw [exec_park ha, exec_clearHold ha, hmine, ← drives_iff]
  refine ⟨fun hm => ?_, fun hm => ⟨fun hd => ?_, fun ht hs hv => ?_, fun hd hv => ?_, fun hd hv => ?_,
    fun hd => ?_, fun hd hv => ?_, fun stands hstands hd hv => ?_⟩⟩
  · have hm := Bool.not_eq_true _ ▸ hm
    rw [parkWork_notOwner hm, clearHoldWork_notOwner hm]
    exact ⟨rfl, rfl⟩
  · rw [parkWork_state hm hd]; rfl
  · rw [parkWork_moving hm ht hs hv]; rfl
  · have e : parkState s = s := by simp [parkState, hd]
    rw [parkWork_done hm (by simp [hd]) (by simp [hd]) hv, e]
    simp only [driveDone, driveReply, hd]
    rfl
  · have ht : s.drive.state ≠ .tripped := by rcases hd with h | h | h <;> simp [h]
    have hs : s.drive.state ≠ .starting := by rcases hd with h | h | h <;> simp [h]
    rw [parkWork_done hm ht hs hv, parkState_eq hd]
    generalize hx : ({ s.drive with
      hold := HoldSet.empty
      timer := if s.drive.state = .releasing then none else s.drive.timer
      outcome := if s.drive.state = .releasing then ReleaseOutcome.aborted else s.drive.outcome } :
        DriveCtl) = x
    obtain ⟨drive, wheels⟩ := enter_parked (s := s) (x := x) (by rw [← hx]; exact hs)
    refine ⟨enter .parked { s with drive := x }, ?_, drive.trans (by rw [← hx]), ?_, ?_, wheels, ?_⟩
    · simp only [driveDone, driveReply, enter_state]
      rfl
    · rw [enter_torque]; rfl
    · rw [enter_torque]; rfl
    · exact enter_frame (by simp) _
  · rw [clearHoldWork_state hm hd]; rfl
  · rw [clearHoldWork_moving hm hd hv]; rfl
  · rw [← holdStands_iff] at hstands
    refine ⟨fun hs => ?_, fun hs => ?_⟩
    · rw [clearHoldWork_stands hm hd hv (hstands.1 hs)]; rfl
    · have hs : holdStands a s = false := by
        rw [← Bool.not_eq_true]; exact fun h => hs (hstands.2 h)
      obtain ⟨drive, wheels⟩ := clearHoldState_leaves hd hs
      rw [clearHoldWork_done hm hd hv hs]
      refine ⟨clearHoldState s, ?_, drive, wheels, enter_frame (by simp) _⟩
      simp only [driveDone, driveReply, drive]
      rfl

end Sys2Proof.Machine
end

section
/-! UNPARK and the ends of RELEASING (O52). -/

namespace Sys2Proof.Machine

/-! ### UNPARK (R175) -/

section
variable {a : Owner} {s : State}

theorem unparkWork_notOwner (hm : drives a s = false) : unparkWork a s = (s, .refuse .notOwner) :=
  if_pos hm

theorem unparkWork_busy (hm : drives a s = true) (hd : s.drive.state = .releasing) :
    unparkWork a s = (s, .refuse .busy) := by
  simp [unparkWork, hm, hd]

theorem unparkWork_state (hm : drives a s = true) (hr : s.drive.state ≠ .releasing)
    (hp : s.drive.state ≠ .parked) : unparkWork a s = (s, .refuse .state) := by
  simp [unparkWork, hm, hr, hp]

theorem unparkWork_notReady (hm : drives a s = true) (hp : s.drive.state = .parked)
    (hn : s.speed.current = none ∨ s.drive.conditions.steerCrit = true) :
    unparkWork a s = (s, .refuse .notReady) := by
  simp [unparkWork, hm, hp, hn]

theorem unparkWork_done (hm : drives a s = true) (hp : s.drive.state = .parked)
    (hc : s.speed.current ≠ none) (hs : s.drive.conditions.steerCrit = false) :
    unparkWork a s = driveDone (unparkState s) := by
  simp [unparkWork, hm, hp, hc, hs]

end

/-! ### The end of RELEASING by the input (R93, R176) -/

/-- The state that RELEASING ends in by the input, before the wheel-loss cause. -/
def releasedEntry (s : State) : State :=
  if s.drive.conditions.any then
    enterHold
      { HoldSet.empty with
        steerFault := s.drive.conditions.steerFault
        steerCrit := s.drive.conditions.steerCrit } (endRelease .released s)
  else enter .ready (endRelease .released s)

theorem releasedState_eq (s : State) : releasedState s = handWheelLoss (releasedEntry s) := rfl

theorem conditions_any_iff {c : Conditions} : c.any = false ↔ c = ⟨false, false⟩ := by
  obtain ⟨f, g⟩ := c
  cases f <;> cases g <;> simp [Conditions.any]

section
variable {s : State}

/-- Without a condition present RELEASING ends in READY. -/
theorem releasedEntry_ready (h : s.drive.state = .releasing) (hc : s.drive.conditions = ⟨false, false⟩) :
    (releasedEntry s).drive = { s.drive with
      state := .ready, timer := none, outcome := .released, brakeApply := false } ∧
    (releasedEntry s).torque.demand = none ∧ (releasedEntry s).torque.lease = some 25 := by
  have e : releasedEntry s = enter .ready (endRelease .released s) := by
    rw [releasedEntry, conditions_any_iff.2 hc, if_neg (by simp)]
  rw [e]
  exact ⟨enter_drive_running .ready (by simp [h]), by rw [enter_torque]; rfl, by rw [enter_torque]; rfl⟩

/-- Under a condition it ends in HOLD. -/
theorem releasedEntry_hold (h : s.drive.state = .releasing) (hc : s.drive.conditions ≠ ⟨false, false⟩) :
    (releasedEntry s).drive = { s.drive with
      state := .hold, timer := none, outcome := .released, brakeApply := false
      hold := { HoldSet.empty with
        steerFault := s.drive.conditions.steerFault
        steerCrit := s.drive.conditions.steerCrit } } ∧
    PendingOnBoth .holdEntered (releasedEntry s) := by
  rw [releasedEntry, if_pos (by by_contra hn; exact hc (conditions_any_iff.1 (Bool.not_eq_true _ ▸ hn)))]
  have hs : s.drive.state ≠ .starting := by simp [h]
  exact ⟨enter_drive_running .hold hs, (enter_raises .hold _).1 rfl⟩

theorem releasedEntry_mode (w : Wheel) : ((releasedEntry s).wheel w).mode = (s.wheel w).mode := by
  unfold releasedEntry
  split <;> exact enter_mode (by simp) _ w

end

/-- A wheel-loss cause leaves an idle release timer idle, and the input's level (R93, R173). -/
theorem handWheelLoss_timer {s : State} (h : s.drive.timer = none) :
    (handWheelLoss s).drive.timer = none ∧
      (handWheelLoss s).drive.brakeReleased = s.drive.brakeReleased := by
  by_cases hd : s.drive.state = .ready ∨ s.drive.state = .hold
  · rcases handWheelLoss_split s with e | e | e <;> rw [e]
    · exact ⟨h, rfl⟩
    · rw [handHold_wheelLost_drive hd]; exact ⟨h, rfl⟩
    · rw [handTrip_other (by rcases hd with hd | hd <;> simp [hd]), enter_drive]
      exact ⟨rfl, rfl⟩
  · rw [(handWheelLoss_cases s).1 hd]
    exact ⟨h, rfl⟩

/-- RELEASING ended by the input, by the conditions present and the wheels' modes (R93, R176). -/
theorem releasedState_leaves {s : State} (h : s.drive.state = .releasing) :
    ((releasedState s).drive.timer = none ∧
      (releasedState s).drive.brakeReleased = s.drive.brakeReleased) ∧
    ((∀ w : Wheel, (s.wheel w).mode = .governed) → s.drive.conditions = ⟨false, false⟩ →
      (releasedState s).drive.state = .ready ∧ (releasedState s).drive.outcome = .released ∧
      (releasedState s).drive.hold = s.drive.hold ∧ (releasedState s).drive.brakeApply = false ∧
      (releasedState s).torque.demand = none ∧ (releasedState s).torque.lease = some 25) ∧
    ((∀ w : Wheel, (s.wheel w).mode = .governed) → s.drive.conditions ≠ ⟨false, false⟩ →
      (releasedState s).drive.state = .hold ∧ (releasedState s).drive.outcome = .released ∧
      (releasedState s).drive.hold = { HoldSet.empty with
        steerFault := s.drive.conditions.steerFault
        steerCrit := s.drive.conditions.steerCrit } ∧ PendingOnBoth .holdEntered (releasedState s)) ∧
    (∀ w : Wheel, (s.wheel w).mode ≠ .governed → (s.wheel w.other).mode = .governed →
      (releasedState s).drive.state = .hold ∧ (releasedState s).drive.outcome = .released ∧
      (releasedState s).drive.hold = { HoldSet.empty with
        wheelLost := true
        steerFault := s.drive.conditions.steerFault
        steerCrit := s.drive.conditions.steerCrit } ∧ PendingOnBoth .holdEntered (releasedState s)) ∧
    ((∀ w : Wheel, (s.wheel w).mode ≠ .governed) →
      (releasedState s).drive.state = .tripped ∧
      (releasedState s).drive.trip = some .bothWheelsLost ∧
      PendingOnBoth .tripped (releasedState s)) := by
  have ready := releasedEntry_ready h
  have hold := releasedEntry_hold h
  have mode := releasedEntry_mode (s := s)
  rw [releasedState_eq]
  generalize releasedEntry s = x at ready hold mode
  have lost (w : Wheel) (hw : (s.wheel w).mode ≠ .governed) :=
    handWheelLoss_muted (x := x) (w := w) (by rw [mode]; exact hw)
  simp only [mode] at lost
  have none (hw : ∀ w : Wheel, (s.wheel w).mode = .governed)
      (hx : x.drive.state = .ready ∨ x.drive.state = .hold) : handWheelLoss x = x :=
    ((handWheelLoss_cases x).2 hx).1 fun w => by rw [mode]; exact hw w
  by_cases hc : s.drive.conditions = ⟨false, false⟩
  · obtain ⟨drive, demand, lease⟩ := ready hc
    have hx : x.drive.state = .ready := by rw [drive]
    obtain ⟨timer, level⟩ := handWheelLoss_timer (s := x) (by rw [drive])
    refine ⟨⟨timer, by rw [level, drive]⟩, fun hw _ => ?_, fun _ hn => absurd hc hn, fun w hw ho => ?_,
      fun hw => ?_⟩
    · rw [none hw (.inl hx), drive]
      exact ⟨rfl, rfl, rfl, rfl, demand, lease⟩
    · obtain ⟨held, raised⟩ := ((lost w hw).1 (.inl hx)).1 ho
      rw [held, if_pos hx, drive, hc]
      exact ⟨rfl, rfl, rfl, raised hx⟩
    · obtain ⟨state, trip, -, raised⟩ := ((lost .left (hw _)).1 (.inl hx)).2 (hw _)
      exact ⟨state, trip, raised⟩
  · obtain ⟨drive, pending⟩ := hold hc
    have hx : x.drive.state = .hold := by rw [drive]
    obtain ⟨timer, level⟩ := handWheelLoss_timer (s := x) (by rw [drive])
    refine ⟨⟨timer, by rw [level, drive]⟩, fun _ hn => absurd hn hc, fun hw _ => ?_, fun w hw ho => ?_,
      fun hw => ?_⟩
    · rw [none hw (.inr hx), drive]
      exact ⟨rfl, rfl, rfl, pending⟩
    · obtain ⟨held, -⟩ := ((lost w hw).1 (.inr hx)).1 ho
      rw [held, if_neg (by simp [hx]), drive]
      exact ⟨rfl, rfl, rfl, (DriveStep.handWheelLoss x).pending _ pending⟩
    · obtain ⟨state, trip, -, raised⟩ := ((lost .left (hw _)).1 (.inr hx)).2 (hw _)
      exact ⟨state, trip, raised⟩

/-! ### The brake-released input and the release timer (R171, R176) -/

theorem brakeInputState_recorded {b : Bool} {s : State} (hb : s.drive.brakeReleased ≠ b)
    (h : b = false ∨ s.drive.state ≠ .releasing) :
    brakeInputState b s = { s with drive := { s.drive with brakeReleased := b } } := by
  unfold brakeInputState
  rw [if_neg hb]
  exact if_neg fun ⟨h1, h2⟩ => h.elim (by simp [h1]) (absurd h2)

theorem brakeInputState_released {s : State} (hb : s.drive.brakeReleased = false)
    (h : s.drive.state = .releasing) : brakeInputState true s =
      releasedState { s with drive := { s.drive with brakeReleased := true } } := by
  unfold brakeInputState
  rw [if_neg (by simp [hb])]
  exact if_pos ⟨rfl, h⟩

/-- The release timer runs out in RELEASING (R176). -/
theorem releaseTimeoutState_eq {s : State} (h : s.drive.state = .releasing) :
    releaseTimeoutState s = enter .parked { s with drive := { s.drive with
      hold := .empty, timer := none, outcome := .releaseTimeout } } := if_pos h

/-- Settles O52: UNPARK by its checks, the input by the drive state, the timeout by an entry to PARKED. -/
theorem Settled.unparkAndRelease : Obligations.UnparkAndRelease := by
  refine ⟨fun h a s ha h1 h2 h3 => ?_, fun h a s ha hm => ?_, fun b s => ⟨fun hb => ?_, fun hb hd => ?_⟩,
    fun s hd hb => ?_, fun s => ⟨fun hd => ?_, fun hd => ?_⟩⟩
  · have hm : drives a s = false := by
      rw [← Bool.not_eq_true, drives_iff]
      exact fun h => h.elim h1 fun h => h.elim h2 h3
    rw [exec_unpark ha, unparkWork_notOwner hm]; rfl
  · rw [← drives_iff] at hm
    rw [exec_unpark ha]
    refine ⟨fun hd => ?_, fun hr hp => ?_, fun hp hn => ?_, fun hp hc hs => ?_⟩
    · rw [unparkWork_busy hm hd]; rfl
    · rw [unparkWork_state hm hr hp]; rfl
    · rw [unparkWork_notReady hm hp hn]; rfl
    · rw [unparkWork_done hm hp hc hs]
      refine ⟨unparkState s, ?_, enter_drive_running .releasing (by simp [hp]), fun w => ?_,
        enter_frame (by simp) _⟩
      · simp only [driveDone, driveReply, unparkState, enter_state]
        rfl
      · rw [unparkState, enter_wheel]; rfl
  · exact congrArg Host.Outcome.next (if_pos hb)
  · exact congrArg Host.Outcome.next (brakeInputState_recorded hb hd)
  · obtain ⟨⟨timer, level⟩, leaves⟩ := releasedState_leaves
      (s := { s with drive := { s.drive with brakeReleased := true } }) hd
    exact ⟨_, congrArg Host.Outcome.next (brakeInputState_released hb hd), timer, level, leaves⟩
  · exact congrArg Host.Outcome.next (if_neg hd)
  · obtain ⟨drive, wheels⟩ := enter_parked (s := s) (x := { s.drive with
      hold := .empty, timer := none, outcome := .releaseTimeout }) (by simp [hd])
    refine ⟨_, congrArg Host.Outcome.next (releaseTimeoutState_eq hd), drive, ?_, ?_, fun w => ?_, ?_⟩
    · rw [enter_torque]; rfl
    · rw [enter_torque]; rfl
    · obtain ⟨tprev, -, mode⟩ := wheels w
      exact ⟨tprev, mode⟩
    · exact (DriveStep.enter_with .parked s _).frame

end Sys2Proof.Machine
end

section
/-! The operations on one wheel's adhesion record, each said case by case, and the bounds that they keep (R98,
R102 to R107). -/

namespace Sys2Proof.Machine

/-! ### What each operation does (R102, R104 to R106) -/

namespace Grip

section
variable {rated step look research : Nat} {hist : Vector Int 10} {b : Bool} {issued : Int}
  {asked : Option Nat} {g : Grip}

/-- A slip in SEARCH ends the search at best (R105). -/
theorem slipped_search (h : g.state = .search) : g.slipped rated hist = { g with
    ceiling := g.best, state := .settled, reprobe := 0, slips := (g.slips + 1) % 256 } := if_pos h

/-- A slip in any other state cuts the ceiling and enters HOLD (R102). -/
theorem slipped_cut (h : g.state ≠ .search) : g.slipped rated hist = { g with
    ceiling := min g.ceiling (max (floorBound rated) (meanMagnitude hist * 700 / 1000))
    state := .hold, dwell := 0, sum := 0, slips := (g.slips + 1) % 256 } := if_neg h

/-- A step that reaches P_WHEEL_RATED (R104). -/
theorem climb_free (h : rated ≤ g.ceiling + step) :
    g.climb rated step = { g with ceiling := rated, state := .free } := if_pos h

/-- A step that stays below it (R104). -/
theorem climb_search (h : g.ceiling + step < rated) : g.climb rated step =
    { g with ceiling := g.ceiling + step, state := .search, dwell := 0, sum := 0 } :=
  if_neg (Nat.not_le.2 h)

/-- A step leaves the figures of the search. -/
theorem climb_keeps (rated step : Nat) (g : Grip) : (g.climb rated step).best = g.best ∧
    (g.climb rated step).fbest = g.fbest ∧ (g.climb rated step).misses = g.misses ∧
    (g.climb rated step).lastSlip = g.lastSlip := by
  unfold climb; split <;> exact ⟨rfl, rfl, rfl, rfl⟩

/-- Where a step leaves the wheel, by whether it reaches P_WHEEL_RATED (R104). -/
theorem climb_ends (rated step : Nat) (g : Grip) :
    (rated ≤ g.ceiling + step →
      (g.climb rated step).ceiling = rated ∧ (g.climb rated step).state = .free) ∧
    (g.ceiling + step < rated →
      (g.climb rated step).ceiling = g.ceiling + step ∧ (g.climb rated step).state = .search ∧
      (g.climb rated step).dwell = 0 ∧ (g.climb rated step).sum = 0) := by
  refine ⟨fun h => ?_, fun h => ?_⟩
  · rw [climb_free h]; exact ⟨rfl, rfl⟩
  · rw [climb_search h]; exact ⟨rfl, rfl, rfl, rfl⟩

/-- After a step a wheel is FREE or in SEARCH. -/
theorem climb_state (rated step : Nat) (g : Grip) :
    (g.climb rated step).state = .free ∨ (g.climb rated step).state = .search := by
  unfold climb
  split
  · exact .inl rfl
  · exact .inr rfl

/-- Re-probes are counted for a SETTLED wheel outside the freeze alone (R101, R106). -/
theorem counted_stands (h : g.state = .settled → b = true) :
    g.counted rated step research b = g :=
  if_neg fun ⟨hs, hb⟩ => by rw [h hs] at hb; cases hb

theorem counted_counts (hs : g.state = .settled) (hr : g.reprobe + 1 < research) :
    g.counted rated step research false = { g with reprobe := g.reprobe + 1 } := by
  rw [counted, if_pos ⟨hs, rfl⟩, if_neg (Nat.not_le.2 hr)]

/-- A record whose re-probe count is up, before the first step of its new search (R106). -/
def searchAgain (g : Grip) : Grip :=
  { g with reprobe := g.reprobe + 1, best := g.ceiling, fbest := 0, misses := 0 }

/-- The count that reaches P_RESEARCH_TIME starts a new search from the present ceiling (R106). -/
theorem counted_climbs (hs : g.state = .settled) (hr : research ≤ g.reprobe + 1) :
    g.counted rated step research false = g.searchAgain.climb rated step := by
  rw [counted, if_pos ⟨hs, rfl⟩, if_pos hr]; rfl

/-- A SEARCH dwell with a better mean force, and one without (R104, steps 1 and 2). -/
theorem judged_better (h : g.fbest + 5 < g.sum / 50) : g.judged =
    { g with best := g.ceiling, fbest := g.sum / 50, misses := 0 } := if_pos h

theorem judged_miss (h : g.sum / 50 ≤ g.fbest + 5) :
    g.judged = { g with misses := g.misses + 1 } := if_neg (Nat.not_lt.2 h)

/-- The misses that pass P_LOOK_BEYOND settle the wheel at best; else it steps on (R104). -/
theorem searchEnds_settles (h : look < g.judged.misses) : g.searchEnds rated step look =
    { g.judged with ceiling := g.judged.best, state := .settled, reprobe := 0 } := if_pos h

theorem searchEnds_climbs (h : g.judged.misses ≤ look) :
    g.searchEnds rated step look = g.judged.climb rated step := if_neg (Nat.not_lt.2 h)

/-- The end of a SEARCH dwell leaves what it judged. -/
theorem searchEnds_judged : (g.searchEnds rated step look).best = g.judged.best ∧
    (g.searchEnds rated step look).fbest = g.judged.fbest ∧
    (g.searchEnds rated step look).misses = g.judged.misses := by
  rcases Nat.lt_or_ge look g.judged.misses with h | h
  · rw [searchEnds_settles h]; exact ⟨rfl, rfl, rfl⟩
  · rw [searchEnds_climbs h]
    obtain ⟨best, fbest, misses, -⟩ := climb_keeps rated step g.judged
    exact ⟨best, fbest, misses⟩

/-! ### The command hand-over by the state (R103, R104) -/

/-- One more command step in a dwell (R103). -/
def dwelt (issued : Int) (g : Grip) : Grip :=
  { g with dwell := g.dwell + 1, sum := g.sum + issued.natAbs }

theorem handedOver_frozen : g.handedOver rated step look true issued asked = g := rfl

theorem handedOver_idle (h : g.state = .free ∨ g.state = .settled) :
    g.handedOver rated step look b issued asked = g := by
  unfold handedOver
  split
  · rfl
  · rcases h with h | h <;> rw [h]

theorem handedOver_hold (h : g.state = .hold) :
    g.handedOver rated step look false issued asked =
      if 100 ≤ g.dwell + 1 then (g.dwelt issued).holdEnds rated step else g.dwelt issued := by
  simp only [handedOver, dwelt, h, Bool.false_eq_true, if_false]

theorem handedOver_search (h : g.state = .search) (ha : ∃ t, asked = some t ∧ g.ceiling ≤ t) :
    g.handedOver rated step look false issued asked =
      if 50 ≤ g.dwell + 1 then (g.dwelt issued).searchEnds rated step look else g.dwelt issued := by
  obtain ⟨t, rfl, ht⟩ := ha
  simp only [handedOver, dwelt, h, Bool.false_eq_true, if_false, Option.any_some, decide_eq_true ht,
    if_true]

/-- A SEARCH wheel that is asked for less than its ceiling, or for nothing, does not dwell (R103). -/
theorem handedOver_unasked (h : g.state = .search) (ha : ∀ t, asked = some t → t < g.ceiling) :
    g.handedOver rated step look b issued asked = g := by
  have hf : asked.any (fun t => decide (g.ceiling ≤ t)) = false := by
    simpa [Option.any_eq_false] using ha
  unfold handedOver
  split
  · rfl
  · simp only [h, hf, Bool.false_eq_true, if_false]

end

/-! ### The bounds (R98, R105) -/

namespace Bounded

section
variable {rated : Nat} {g : Grip}

/-- In HOLD and SETTLED the ceiling alone is bounded. -/
theorem of_idle (hs : g.state = .hold ∨ g.state = .settled) (hl : rated * 100 / 1000 ≤ g.ceiling)
    (hh : g.ceiling ≤ rated) : g.Bounded rated := by
  refine ⟨hl, hh, fun h => ?_, fun h => ?_⟩ <;> rw [h] at hs <;> rcases hs with hs | hs <;> cases hs

/-- A step up from a ceiling at or above best (R104). -/
theorem climb (step : Nat) (hl : rated * 100 / 1000 ≤ g.best) (hb : g.best ≤ g.ceiling) :
    (g.climb rated step).Bounded rated := by
  rcases Nat.lt_or_ge (g.ceiling + step) rated with h | h
  · rw [climb_search h]
    exact ⟨by dsimp only; omega, h.le, nofun, fun _ => ⟨hl, by dsimp only; omega⟩⟩
  · rw [climb_free h]
    exact ⟨by dsimp only; omega, Nat.le_refl _, fun _ => rfl, nofun⟩

/-- A restarted wheel is FREE at P_WHEEL_RATED (R109). -/
theorem restarted (rated : Nat) : (Grip.restarted rated).Bounded rated :=
  ⟨by dsimp only [Grip.restarted]; omega, Nat.le_refl _, fun _ => rfl, nofun⟩

variable (h : g.Bounded rated)
include h

/-- A cut goes no lower than the floor bound, and a search ends at its best (R102, R105). -/
theorem slipped (hist : Vector Int 10) : (g.slipped rated hist).Bounded rated := by
  obtain ⟨low, high, -, search⟩ := h
  by_cases hs : g.state = .search
  · obtain ⟨blow, bhigh⟩ := search hs
    rw [slipped_search hs]
    exact of_idle (.inr rfl) blow (bhigh.trans high)
  · rw [slipped_cut hs]
    refine of_idle (.inl rfl) ?_ ?_ <;> dsimp only [floorBound] <;> omega

/-- A new search starts with best at the ceiling it leaves (R106). -/
theorem counted (step research : Nat) (b : Bool) : (g.counted rated step research b).Bounded rated := by
  by_cases hs : g.state = .settled ∧ b = false
  · obtain ⟨hs, rfl⟩ := hs
    rcases Nat.lt_or_ge (g.reprobe + 1) research with hr | hr
    · rw [counted_counts hs hr]; exact h
    · rw [counted_climbs hs hr]; exact climb step h.1 (Nat.le_refl _)
  · rw [counted_stands fun e => Bool.not_eq_false _ ▸ fun hb => hs ⟨e, hb⟩]; exact h

/-- At the end of a HOLD dwell best is the ceiling (R104). -/
theorem holdEnds (step : Nat) : (g.holdEnds rated step).Bounded rated :=
  climb step h.1 (Nat.le_refl _)

/-- Best stays between the floor bound and the ceiling at the end of a SEARCH dwell (R104). -/
theorem searchEnds (step look : Nat) (hs : g.state = .search) :
    (g.searchEnds rated step look).Bounded rated := by
  obtain ⟨low, high, -, search⟩ := h
  have best : rated * 100 / 1000 ≤ g.judged.best ∧ g.judged.best ≤ g.judged.ceiling ∧
      g.judged.ceiling = g.ceiling := by
    rcases Nat.lt_or_ge (g.fbest + 5) (g.sum / 50) with hf | hf
    · rw [judged_better hf]; exact ⟨low, Nat.le_refl _, rfl⟩
    · rw [judged_miss hf]; exact ⟨(search hs).1, (search hs).2, rfl⟩
  obtain ⟨blow, bhigh, hc⟩ := best
  rcases Nat.lt_or_ge look g.judged.misses with hm | hm
  · rw [searchEnds_settles hm]
    exact of_idle (.inr rfl) blow (bhigh.trans (hc ▸ high))
  · rw [searchEnds_climbs hm]
    exact climb step blow bhigh

theorem dwelt (issued : Int) : (g.dwelt issued).Bounded rated := h

theorem handedOver (step look : Nat) (b : Bool) (issued : Int) (asked : Option Nat) :
    (g.handedOver rated step look b issued asked).Bounded rated := by
  cases b with
  | true => exact h
  | false =>
    cases hs : g.state with
    | free => rw [handedOver_idle (.inl hs)]; exact h
    | settled => rw [handedOver_idle (.inr hs)]; exact h
    | hold =>
      rw [handedOver_hold hs]
      split
      · exact (h.dwelt issued).holdEnds step
      · exact h.dwelt issued
    | search =>
      by_cases ha : ∃ t, asked = some t ∧ g.ceiling ≤ t
      · rw [handedOver_search hs ha]
        split
        · exact (h.dwelt issued).searchEnds step look hs
        · exact h.dwelt issued
      · rw [handedOver_unasked hs fun t e => Nat.not_le.1 fun hle => ha ⟨t, e, hle⟩]; exact h

/-- A class figure is above the floor bound's 100 ‰ (R107). -/
theorem preset (c : AdhesionClass) : (g.preset rated c).Bounded rated := by
  have ⟨low, high, _⟩ := h
  cases c with
  | dry => exact h
  | wet | mud | ice =>
    refine of_idle (.inr rfl) ?_ ?_ <;> dsimp only [Grip.preset, AdhesionClass.figure] <;> omega

/-- After a change of P_WHEEL_RATED from `rated` to `new` (R98). -/
theorem reclamped (new : Nat) : (g.reclamped new).Bounded new := by
  obtain ⟨-, -, -, search⟩ := h
  unfold Grip.reclamped
  split
  · next hf =>
    exact ⟨by dsimp only; omega, Nat.le_refl _, fun _ => rfl, fun e => nomatch hf.symm.trans e⟩
  · next hf =>
    refine ⟨?_, ?_, fun e => absurd e hf, fun e => ⟨?_, ?_⟩⟩ <;> dsimp only [clampNat, floorBound]
    · omega
    · omega
    · omega
    · have := (search e).2
      omega

end

end Bounded

end Grip

end Sys2Proof.Machine
end

section
/-! What leaves the adhesion records and the parameters alone, command by command. -/

namespace Sys2Proof.Machine

/-- The adhesion records and the parameters stand. -/
structure SameAdhesion (s t : State) : Prop where
  grip : t.grip = s.grip
  params : t.params = s.params

theorem SameAdhesion.refl (s : State) : SameAdhesion s s := ⟨rfl, rfl⟩

theorem SameAdhesion.param {s t : State} (h : SameAdhesion s t) (p : Param) : t.param p = s.param p := by
  rw [State.param, h.params, State.param]

/-- A change of drive state leaves the adhesion alone. -/
theorem DriveStep.adhesion {s t : State} (h : DriveStep s t) : SameAdhesion s t :=
  ⟨by rw [h.frame], by rw [h.frame]⟩

/-! ### Requests -/

section
variable (s : State) (a : Owner)

theorem placeWork_adhesion (kind scope seg im : Byte) (v l : Half) :
    SameAdhesion s (placeWork kind scope v seg l im a s).1 := by
  unfold placeWork placeRecord
  (repeat' split) <;> exact ⟨rfl, rfl⟩

theorem amendWork_adhesion (slot gen act : Byte) (v l : Half) :
    SameAdhesion s (amendWork slot gen v act l a s).1 := by
  unfold amendWork
  split
  · exact .refl s
  · exact .refl s
  split
  · exact .refl s
  split
  · exact .refl s
  split
  · exact .refl s
  split
  · exact .refl s
  · dsimp only
    rw [amendRecord_frame]
    exact ⟨rfl, rfl⟩

theorem renewWork_adhesion (slot gen : Byte) : SameAdhesion s (renewWork slot gen a s).1 := by
  unfold renewWork
  (repeat' split) <;> exact ⟨rfl, rfl⟩

theorem retireWork_adhesion (slot gen : Byte) : SameAdhesion s (retireWork slot gen a s).1 := by
  unfold retireWork
  (repeat' split) <;> exact ⟨rfl, rfl⟩

theorem retireOwnerWork_adhesion (owner : Byte) : SameAdhesion s (retireOwnerWork owner a s).1 := by
  unfold retireOwnerWork
  dsimp only
  (repeat' split) <;> exact ⟨rfl, rfl⟩

theorem loadSegmentWork_adhesion (id cls : Byte) (grade rr : Half) :
    SameAdhesion s (loadSegmentWork id grade rr cls a s).1 := by
  unfold loadSegmentWork
  (repeat' split) <;> exact ⟨rfl, rfl⟩

theorem retireSegmentWork_adhesion (id : Byte) : SameAdhesion s (retireSegmentWork id a s).1 := by
  unfold retireSegmentWork
  (repeat' split) <;> exact ⟨rfl, rfl⟩

theorem leaveSegmentWork_adhesion : SameAdhesion s (leaveSegmentWork a s).1 := by
  unfold leaveSegmentWork
  split <;> exact ⟨rfl, rfl⟩

theorem speedFixWork_adhesion (v q : Half) : SameAdhesion s (speedFixWork v q a s).1 := by
  unfold speedFixWork; split <;> exact ⟨rfl, rfl⟩

theorem selectWork_adhesion (b : Byte) : SameAdhesion s (selectWork b a s).1 := by
  unfold selectWork
  dsimp only
  (repeat' split) <;> exact ⟨rfl, rfl⟩

theorem lockWork_adhesion : SameAdhesion s (lockWork a s).1 := by
  unfold lockWork; dsimp only; split <;> exact ⟨rfl, rfl⟩

theorem setDemandWork_adhesion (d st : Half) (b : Byte) :
    SameAdhesion s (setDemandWork d st b a s).1 := by
  unfold setDemandWork demandTaken
  dsimp only
  (repeat' split) <;> exact ⟨rfl, rfl⟩

theorem parkWork_adhesion : SameAdhesion s (parkWork a s).1 := by
  unfold parkWork parkState
  (repeat' split) <;> constructor <;> simp [driveDone]

theorem unparkWork_adhesion : SameAdhesion s (unparkWork a s).1 := by
  unfold unparkWork
  (repeat' split) <;> constructor <;> simp [driveDone, unparkState]

theorem clearHoldWork_adhesion : SameAdhesion s (clearHoldWork a s).1 := by
  unfold clearHoldWork
  (repeat' split) <;> constructor <;> simp [driveDone, clearHoldState]

theorem safetyHoldWork_adhesion : SameAdhesion s (safetyHoldWork a s).1 := by
  unfold safetyHoldWork; split <;> constructor <;> simp [driveDone]

theorem resetTripWork_adhesion : SameAdhesion s (resetTripWork a s).1 := by
  unfold resetTripWork
  (repeat' split) <;> constructor <;> simp [driveDone]

theorem setModeWork_adhesion (m : Byte) : SameAdhesion s (setModeWork m a s).1 := by
  unfold setModeWork
  (repeat' split) <;> exact ⟨rfl, rfl⟩

theorem clearGridWork_adhesion (g : Byte) : SameAdhesion s (clearGridWork g a s).1 := by
  unfold clearGridWork
  (repeat' split) <;> exact ⟨rfl, rfl⟩

theorem startSweepWork_adhesion (l : Link) (g0 gs m0 ms : Half) :
    SameAdhesion s (startSweepWork l g0 gs m0 ms a s).1 := by
  unfold startSweepWork
  (repeat' split) <;> exact ⟨rfl, rfl⟩

theorem readSweepWork_adhesion : SameAdhesion s (readSweepWork a s).1 := by
  unfold readSweepWork; split <;> exact ⟨rfl, rfl⟩

theorem setPointWork_adhesion (k : Byte) (v x : Half) : SameAdhesion s (setPointWork k v x a s).1 := by
  unfold setPointWork
  dsimp only
  (repeat' split) <;> exact ⟨rfl, rfl⟩

theorem tareWork_adhesion : SameAdhesion s (tareWork a s).1 := by
  unfold tareWork
  (repeat' split) <;> exact ⟨rfl, rfl⟩

theorem clearAttentionWork_adhesion (l : Link) (c : Half) :
    SameAdhesion s (clearAttentionWork l c a s).1 := by
  unfold clearAttentionWork; split <;> exact ⟨rfl, rfl⟩

theorem setMaskWork_adhesion (l : Link) (c : Half) : SameAdhesion s (setMaskWork l c a s).1 := by
  unfold setMaskWork; split <;> exact ⟨rfl, rfl⟩

/-! ### Periodic steps and inputs -/

theorem leaseStepState_adhesion : SameAdhesion s (leaseStepState s) := by
  unfold leaseStepState
  dsimp only
  split <;> exact ⟨rfl, rfl⟩

/-- A window short of its slip window (R99). -/
theorem windowDriven_adhesion (i : WindowIn) : SameAdhesion s (windowDriven i s) := by
  have h := (windowDriven_step i s).adhesion
  exact ⟨by rw [h.grip, windowSelected_frame], by rw [h.params, windowSelected_frame]⟩

theorem inverterMessageState_adhesion (w : Wheel) (n : Nat) (f : Bool) :
    SameAdhesion s (inverterMessageState w n f s) := by
  unfold inverterMessageState
  dsimp only
  constructor <;> split <;> simp

theorem capacityStepState_adhesion (i : CapacityIn) : SameAdhesion s (capacityStepState i s) := by
  unfold capacityStepState
  dsimp only
  constructor <;> split <;> simp

theorem sweepEntryState_adhesion : SameAdhesion s (sweepEntryState s) := by
  unfold sweepEntryState
  dsimp only
  (repeat' split) <;> exact ⟨rfl, rfl⟩

theorem steerStepState_adhesion (i : SteerIn) : SameAdhesion s (steerStepState i s) := by
  constructor <;> simp [steerStepState]

theorem loadWindowState_adhesion (p : Four Nat) : SameAdhesion s (loadWindowState p s) := by
  constructor <;> simp [loadWindowState]

theorem releasedState_adhesion : SameAdhesion s (releasedState s) := by
  unfold releasedState
  dsimp only
  constructor <;> split <;> simp

theorem brakeInputState_adhesion (b : Bool) : SameAdhesion s (brakeInputState b s) := by
  unfold brakeInputState
  dsimp only
  split
  · exact .refl s
  split
  · obtain ⟨grip, params⟩ :=
      releasedState_adhesion { s with drive := { s.drive with brakeReleased := b } }
    exact ⟨grip, params⟩
  · exact ⟨rfl, rfl⟩

theorem releaseTimeoutState_adhesion : SameAdhesion s (releaseTimeoutState s) := by
  unfold releaseTimeoutState; split <;> constructor <;> simp

theorem releaseTick_adhesion : SameAdhesion s (releaseTick s) := by
  unfold releaseTick
  split
  · exact .refl s
  split
  · exact releaseTimeoutState_adhesion s
  · exact ⟨rfl, rfl⟩

end

end Sys2Proof.Machine
end

section
/-! The adhesion records after a window and after a command step, and the bounds of the ceilings at every step
(O58). -/

namespace Sys2Proof.Machine

/-! ### What a window leaves of a wheel's history (R87) -/

theorem WheelState.returned_history (x : WheelState) : x.returned.history = x.history := by
  unfold returned; split <;> rfl

section
variable (s : State) (w : Wheel)

theorem enter_history (d : Drive) : ((enter d s).wheel w).history = (s.wheel w).history := by
  rw [enter_wheel]
  cases d with
  | hold => unfold wheelOnEntry; dsimp only; split <;> rfl
  | parked => exact WheelState.returned_history _
  | starting | releasing | tripped | ready => rfl

theorem endStarting_history : ((endStarting s).wheel w).history = (s.wheel w).history := by
  have loss (t : State) : ((handWheelLoss t).wheel w).history = (t.wheel w).history :=
    (CauseStep.handWheelLoss t).history w
  unfold endStarting
  split
  · exact enter_history _ w _
  split
  · exact (loss _).trans (enter_history _ w _)
  split
  · exact (loss _).trans (enter_history _ w _)
  · exact enter_history _ w _

theorem driveAtWindow_history (d : Drive) :
    ((driveAtWindow d s).wheel w).history = (s.wheel w).history := by
  cases d with
  | starting =>
    unfold driveAtWindow
    dsimp only
    split
    · exact endStarting_history s w
    · rfl
  | tripped | parked | releasing | ready | hold => rfl

theorem windowDriven_history (i : WindowIn) :
    ((windowDriven i s).wheel w).history = (s.wheel w).history := by
  have selected : (windowSelected i s).wheel w = s.wheel w := by
    rw [State.wheel, windowSelected_torque, State.wheel]
  rw [windowDriven, driveAtWindow_history, windowHanded_eq, ← selected]
  split
  · exact (CauseStep.handTrip _ _).history w
  · rfl

end

/-! ### A wheel's record after each change of both (R98, R99, R103, R107, R109) -/

section
variable (s : State) (w : Wheel)

theorem applyPreset_grip (c : AdhesionClass) :
    (applyPreset c s).grip.get w = (s.grip.get w).preset (s.param .wheelRated) c := PerWheel.get_map ..

/-- The search step in force (R104). -/
def stepOf : Nat := searchStepOf (s.param .wheelRated) (s.param .searchStep)

/-- A wheel's record with this slip figure, after the slip event if there is one and before the re-probe count
(R100 to R102, R105). -/
def slippedAtWindow (f : Int × Bool) : Grip :=
  let g : Grip := { s.grip.get w with lastSlip := f.1 }
  if f.2 then g.slipped (s.param .wheelRated) (s.wheel w).history else g

theorem slipWindow_grip (x : PerWheel Nat) : (slipWindow x s).grip.get w =
    { (slippedAtWindow s w (slipFigures s w (x.get w))).counted (s.param .wheelRated) (stepOf s)
        (s.param .researchTime) (frozen s.speed.current) with lastSpeed := some (x.get w) } := by
  cases w <;> rfl

/-- A window's slip window runs on the state that its hand-overs leave, and finds the records, the parameters
and the histories as they were before the window (R52, R87, R99). -/
theorem windowState_grip (i : WindowIn) {x : Nat} (hx : x = (surfaceSpeeds s).get w) :
    (windowState i s).grip.get w =
      { (slippedAtWindow s w (slipFigures (windowDriven i s) w x)).counted (s.param .wheelRated)
          (stepOf s) (s.param .researchTime) (frozen (unitSelected i s).current) with
        lastSpeed := some x } := by
  have h := windowDriven_adhesion s i
  have hu : (windowDriven i s).speed = unitSelected i s := windowState_speed i s
  rw [windowState_eq, slipWindow_grip, ← hx, hu]
  simp only [slippedAtWindow, stepOf, h.grip, h.param, windowDriven_history]

/-- A command hand-over gives each wheel's record what the step issues on it (R103). -/
theorem commandStepState_grip : (commandStepState s).grip.get w =
    (s.grip.get w).handedOver (s.param .wheelRated) (stepOf s) (s.param .lookBeyond)
      (frozen s.speed.current) (issueOf (counted s) w).torque (issueOf (counted s) w).asked := by
  have h (u : State) : (handOver u).grip.get w = gripHanded u w (issueOf u w) := by cases w <;> rfl
  rw [commandStepState_eq, evaluateAssist_grip, h]
  simp only [gripHanded, counted_grip, counted_param, counted_speed, stepOf]

end

/-! ### What keeps the ceilings bounded (R98) -/

namespace CeilingsBounded

variable {s t : State}

theorem same (hs : CeilingsBounded s) (h : SameAdhesion s t) : CeilingsBounded t := by
  intro w
  rw [h.grip, h.param]
  exact hs w

/-- A request keeps the ceilings bounded when its work does. -/
theorem request {h : Hdr} {code : Byte} {allowed : Owner → Bool} {work : Owner → State → State × Reply}
    (hs : CeilingsBounded s) (hw : ∀ a, CeilingsBounded (work a s).1) :
    CeilingsBounded (takeRequest h code allowed work s) := by
  rcases takeRequest_cases h code allowed work s with e | ⟨a, -, -, e⟩ <;> rw [e]
  · exact hs
  · exact hw a

/-- A class preset (R107). -/
theorem applyPreset (hs : CeilingsBounded s) (c : AdhesionClass) :
    CeilingsBounded (applyPreset c s) := by
  intro w
  rw [applyPreset_grip]
  exact (hs w).preset c

/-- An amendment of the current segment may set a preset (R44). -/
theorem amendSegmentWork (hs : CeilingsBounded s) (id cls : Byte) (grade rr : Half) (a : Owner) :
    CeilingsBounded (amendSegmentWork id grade rr cls a s).1 := by
  unfold Machine.amendSegmentWork amendSegmentState
  dsimp only
  split
  · exact hs
  split
  · exact hs
  dsimp only
  split
  · exact applyPreset (s := withSegments _ s) hs _
  · exact hs

/-- An entry to a segment sets its preset (R46, R107). -/
theorem enterSegmentWork (hs : CeilingsBounded s) (id hd : Byte) (a : Owner) :
    CeilingsBounded (enterSegmentWork id hd a s).1 := by
  unfold Machine.enterSegmentWork enterSegmentState
  dsimp only
  split
  · exact hs
  split
  · exact hs
  dsimp only
  split
  · exact hs
  · exact applyPreset (s := changeSegment _ _ s) hs _

/-- A change of P_WHEEL_RATED reclamps both wheels, and no other parameter touches them (R98). -/
theorem setParamState (hs : CeilingsBounded s) (p : Param) (v : Nat) :
    CeilingsBounded (setParamState p v s) := by
  intro w
  by_cases hv : s.param p = v
  · rw [setParamState_same hv]; exact hs w
  by_cases hp : p = .wheelRated
  · subst hp
    rw [setParamState_param, if_pos rfl, setParamState_changed hv]
    have e := reclamp_grip (resolve (s.setParamValue .wheelRated v)) w
    rw [show (resolve (s.setParamValue .wheelRated v)).param .wheelRated = v from setParamValue_param ..]
      at e
    exact e ▸ (hs w).reclamped v
  · rw [setParamState_param, if_neg (Ne.symm hp), (setParamState_untouched p v s).2.1 hp]
    exact hs w

theorem setParamWork (hs : CeilingsBounded s) (i : Byte) (v : Half) (a : Owner) :
    CeilingsBounded (setParamWork i v a s).1 := by
  unfold Machine.setParamWork
  split
  · exact hs
  split
  · exact hs
  split
  · exact hs
  · exact hs.setParamState _ _

/-- A slip window: the slip event, then the re-probe count (R99). -/
theorem windowState (hs : CeilingsBounded s) (i : WindowIn) : CeilingsBounded (windowState i s) := by
  intro w
  have hp := (windowDriven_adhesion s i).param .wheelRated
  have hw : (Machine.windowState i s).param .wheelRated = (windowDriven i s).param .wheelRated := rfl
  rw [windowState_grip s w i rfl, hw, hp]
  refine Grip.Bounded.counted ?_ (stepOf s) _ _
  unfold slippedAtWindow
  dsimp only
  split
  · refine Grip.Bounded.slipped ?_ _
    exact hs w
  · exact hs w

/-- A command hand-over (R103, R104). -/
theorem commandStepState (hs : CeilingsBounded s) : CeilingsBounded (commandStepState s) := by
  intro w
  have hp : (Machine.commandStepState s).params = s.params := by simp [commandStepState_eq]
  rw [commandStepState_grip, State.param, hp]
  exact (hs w).handedOver _ _ _ _ _

end CeilingsBounded

/-! ### Restarts (R25, R109, R181) -/

theorem isCold_ceilings {straps : Straps} {b : Bool} {t : State} (h : IsCold straps b t) :
    CeilingsBounded t := by
  obtain ⟨p, q, level, n, l, rfl⟩ := h
  exact cold_ceilings straps b

/-- After a warm restart both wheels are FREE, or at the preset of the kept segment (R109). -/
theorem gripWarm_bounded (rated : Nat) (seg : Option Segment) : (Grip.warm rated seg).Bounded rated := by
  cases seg with
  | none => exact .restarted rated
  | some g => exact (Grip.Bounded.restarted rated).preset g.cls

theorem warmRestart_ceilings (s : State) : CeilingsBounded (warmRestart s) := by
  rw [warmRestart_eq]
  intro w
  cases w <;> exact gripWarm_bounded (s.param .wheelRated) _

theorem restartState_ceilings {s : State} (hdr : Hdr) (kind : Byte) (hs : CeilingsBounded s) :
    CeilingsBounded (restartState hdr kind s) := by
  unfold restartState
  split
  · exact hs
  split
  · exact hs
  dsimp only
  split
  · exact isCold_ceilings (coldRestart_isCold _)
  · exact warmRestart_ceilings _

theorem restartInputState_ceilings {s : State} (level : Bool) (hs : CeilingsBounded s) :
    CeilingsBounded (restartInputState level s) := by
  unfold restartInputState
  dsimp only
  split
  · exact warmRestart_ceilings _
  · exact hs

/-! ### Every command -/

/-- Every command keeps the ceilings bounded. -/
theorem exec_keeps_ceilingsBounded {i : Instr} {s t : State} (h : exec i s = .next t)
    (hs : CeilingsBounded s) : CeilingsBounded t := by
  have other {h : Hdr} {code : Byte} {allowed : Owner → Bool} {work : Owner → State → State × Reply}
      (hw : ∀ a, SameAdhesion s (work a s).1) : CeilingsBounded (takeRequest h code allowed work s) :=
    hs.request fun a => hs.same (hw a)
  have read {h : Hdr} {code : Byte} {f : State → Reply} :
      CeilingsBounded (takeRequest h code anyAuthority (reading f) s) := other fun _ => .refl s
  have event {e : State → State → Bool} {f : State → State} (hf : CeilingsBounded (f s)) :
      CeilingsBounded (whenItComesAbout e f s) := whenItComesAbout_keeps hs hf
  have capacity (i : CapacityIn) := hs.same (capacityStepState_adhesion s i)
  have steer (i : SteerIn) := hs.same (steerStepState_adhesion s i)
  cases i <;> obtain rfl := Host.Outcome.next.inj h
  case nop => exact read
  case frameError => split <;> exact hs
  case unknownRequest => split <;> exact hs
  case placeLimit => exact other fun a => placeWork_adhesion s a _ _ _ _ _ _
  case amendLimit => exact other fun a => amendWork_adhesion s a _ _ _ _ _
  case renewLimit => exact other fun a => renewWork_adhesion s a _ _
  case retireLimit => exact other fun a => retireWork_adhesion s a _ _
  case retireOwner => exact other fun a => retireOwnerWork_adhesion s a _
  case lookupLimit => exact read
  case findLimit => exact read
  case nextLimit => exact read
  case readEnvelope => exact read
  case loadSegment => exact other fun a => loadSegmentWork_adhesion s a _ _ _ _
  case amendSegment => exact hs.request fun a => hs.amendSegmentWork _ _ _ _ a
  case retireSegment => exact other fun a => retireSegmentWork_adhesion s a _
  case enterSegment => exact hs.request fun a => hs.enterSegmentWork _ _ a
  case leaveSegment => exact other (leaveSegmentWork_adhesion s)
  case readSegment => exact read
  case speedFix => exact other fun a => speedFixWork_adhesion s a _ _
  case selectSpeedSource => exact other fun a => selectWork_adhesion s a _
  case lockSpeedSource => exact other (lockWork_adhesion s)
  case clearSourceFail => exact other fun _ => ⟨rfl, rfl⟩
  case setDemand => exact other fun a => setDemandWork_adhesion s a _ _ _
  case park => exact other (parkWork_adhesion s)
  case unpark => exact other (unparkWork_adhesion s)
  case clearHold => exact other (clearHoldWork_adhesion s)
  case safetyHold => exact other (safetyHoldWork_adhesion s)
  case trip => exact other fun _ => (DriveStep.handTrip .trip s).adhesion
  case resetTrip => exact other (resetTripWork_adhesion s)
  case setControlMode => exact other fun a => setModeWork_adhesion s a _
  case restart => exact restartState_ceilings _ _ hs
  case powerUp straps b => exact isCold_ceilings (powerUpState_isCold straps b s)
  case restartInput => exact restartInputState_ceilings _ hs
  case clearGridFault => exact other fun a => clearGridWork_adhesion s a _
  case startSweep => exact other fun a => startSweepWork_adhesion s a _ _ _ _ _
  case readSweep => exact other (readSweepWork_adhesion s)
  case setSteerPoint => exact other fun a => setPointWork_adhesion s a _ _ _
  case readSteerPoint => exact read
  case tare => exact other (tareWork_adhesion s)
  case readStatus => exact read
  case clearAttention => exact other fun a => clearAttentionWork_adhesion s a _ _
  case setAttentionMask => exact other fun a => setMaskWork_adhesion s a _ _
  case setParam => exact hs.request fun a => hs.setParamWork _ _ a
  case getParam => exact read
  case leaseStep => exact hs.same (leaseStepState_adhesion s)
  case expiry => exact event (hs.same (leaseStepState_adhesion s))
  case envelopeStep => exact hs
  case window i => exact hs.windowState i
  case trackerTracking i => exact event (hs.windowState i)
  case trackerLost i => exact event (hs.windowState i)
  case startSelectionTimeout i => exact event (hs.windowState i)
  case tripApplyCountExpiry i => exact event (hs.windowState i)
  case reprobeStart i => exact event (hs.windowState i)
  case holdDwellEnd => exact event hs.commandStepState
  case searchDwellEnd => exact event hs.commandStepState
  case commandStep => exact hs.commandStepState
  case demandLeaseExpiry => exact event hs.commandStepState
  case inverterMessage => exact hs.same (inverterMessageState_adhesion s _ _ _)
  case inverterSilent => exact event hs.commandStepState
  case capacityStep i => exact capacity i
  case gridFault i => exact event (capacity i)
  case linkVoltageClear i => exact event (capacity i)
  case sweepEntry => exact hs.same (sweepEntryState_adhesion s)
  case sweepReady => exact event (hs.same (sweepEntryState_adhesion s))
  case steerStep i => exact steer i
  case steerFault i => exact event (steer i)
  case steerFaultClear i => exact event (steer i)
  case loadWindow p => exact hs.same (loadWindowState_adhesion s p)
  case latchEnd p => exact event (hs.same (loadWindowState_adhesion s p))
  case brakeReleasedInput b => exact hs.same (brakeInputState_adhesion s b)
  case releaseTimeout => exact hs.same (releaseTimeoutState_adhesion s)

/-- Settles O58: a step is a tick of the release timer or a command on the state with the queue's rest. Each
leaves the adhesion records and P_WHEEL_RATED, or changes each wheel's record by an operation that keeps its
bounds. -/
theorem Settled.ceilingsInvariant : Obligations.CeilingsInvariant := by
  intro s t h hs
  unfold step at h
  split at h
  · obtain rfl := Host.Outcome.next.inj h
    exact hs.same (releaseTick_adhesion s)
  · exact exec_keeps_ceilingsBounded h hs

end Sys2Proof.Machine
end

section
/-! The slip window (O31). -/

namespace Sys2Proof.Machine

/-! ### The slip test (R99 to R101) -/

/-- The freeze is over while FRONT or SAT is current (R101). -/
theorem frozen_eq (c : Option Source) :
    frozen c = decide (¬(c = some .front ∨ c = some .sat)) := by
  rcases c with - | (- | - | -) <;> rfl

theorem slipMeasured_iff {last slip : Int} {propel retard : Nat} :
    slipMeasured last slip propel retard = true ↔
      (0 < last ∧ (propel : Int) < slip) ∨ (last < 0 ∧ slip < -(retard : Int)) := by
  unfold slipMeasured
  rcases Int.lt_trichotomy last 0 with h | rfl | h
  · simp [h, not_lt.2 h.le]
  · simp
  · simp [h, not_lt.2 h.le]

theorem slipBySpeed_iff {last : Int} {before : Option Nat} {x : Nat} :
    slipBySpeed last before x = true ↔
      ∃ b, before = some b ∧ ((0 < last ∧ b + 20 < x) ∨ (last < 0 ∧ x + 20 < b)) := by
  cases before with
  | none => simp [slipBySpeed]
  | some b =>
    unfold slipBySpeed
    rcases Int.lt_trichotomy last 0 with h | rfl | h
    · simp [h, not_lt.2 h.le]
    · simp
    · simp [h, not_lt.2 h.le]

/-- The newest entry of a history (R71). -/
theorem history_newest (h : Vector Int 10) : h.toList.getLastD 0 = h[9] := by
  rw [List.getLastD_eq_getLast?, List.getLast?_eq_getElem?]
  simp

section
variable {s : State} {w : Wheel} {x : Nat}

/-- The slip figure and the slip event with FRONT or SAT current (R100). -/
theorem slipFigures_measured (h : s.speed.current = some .front ∨ s.speed.current = some .sat) :
    slipFigures s w x = (measuredSlip x s.speed.v, slipMeasured (s.wheel w).history[9]
      (measuredSlip x s.speed.v) (s.param .slipPropel) (s.param .slipRetard)) := by
  have hf : ¬ frozen s.speed.current = true := by
    rw [frozen_eq, decide_eq_true_eq]; exact not_not.2 h
  rw [slipFigures, if_neg hf, history_newest]

/-- And in the freeze (R101). -/
theorem slipFigures_frozen (h : ¬(s.speed.current = some .front ∨ s.speed.current = some .sat)) :
    slipFigures s w x =
      ((0 : Int), slipBySpeed (s.wheel w).history[9] (s.grip.get w).lastSpeed x) := by
  have hf : frozen s.speed.current = true := by rw [frozen_eq]; exact decide_eq_true h
  rw [slipFigures, if_pos hf, history_newest]

end

/-- What the slip window of a window finds, read of the state before the window and of the reference after it
(R100, R101). -/
theorem windowDriven_slipFigures (i : WindowIn) (s : State) (w : Wheel) (x : Nat) :
    slipFigures (windowDriven i s) w x =
      if (unitSelected i s).current = some .front ∨ (unitSelected i s).current = some .sat then
        (measuredSlip x (unitSelected i s).v, slipMeasured (s.wheel w).history[9]
          (measuredSlip x (unitSelected i s).v) (s.param .slipPropel) (s.param .slipRetard))
      else (0, slipBySpeed (s.wheel w).history[9] (s.grip.get w).lastSpeed x) := by
  have h := windowDriven_adhesion s i
  have hu : (windowDriven i s).speed = unitSelected i s := windowState_speed i s
  split
  · next hc => rw [slipFigures_measured (by rwa [hu]), hu, windowDriven_history, h.param, h.param]
  · next hc => rw [slipFigures_frozen (by rwa [hu]), windowDriven_history, h.grip]

/-! ### The slip event (R102, R105) -/

section
variable {s : State} {w : Wheel} {f : Int × Bool}

theorem slippedAtWindow_quiet (hf : f.2 = false) :
    slippedAtWindow s w f = { s.grip.get w with lastSlip := f.1 } := if_neg (by simp [hf])

theorem slippedAtWindow_cut (hf : f.2 = true) (hs : (s.grip.get w).state ≠ .search) :
    slippedAtWindow s w f = { s.grip.get w with
      ceiling := min (s.grip.get w).ceiling
        (max (floorBound (s.param .wheelRated)) (meanMagnitude (s.wheel w).history * 700 / 1000))
      state := .hold, dwell := 0, sum := 0, slips := ((s.grip.get w).slips + 1) % 256
      lastSlip := f.1 } := (if_pos hf).trans (Grip.slipped_cut hs)

theorem slippedAtWindow_ended (hf : f.2 = true) (hs : (s.grip.get w).state = .search) :
    slippedAtWindow s w f = { s.grip.get w with
      ceiling := (s.grip.get w).best, state := .settled, reprobe := 0
      slips := ((s.grip.get w).slips + 1) % 256, lastSlip := f.1 } :=
  (if_pos hf).trans (Grip.slipped_search hs)

theorem slippedAtWindow_lastSlip : (slippedAtWindow s w f).lastSlip = f.1 := by
  unfold slippedAtWindow Grip.slipped
  dsimp only
  (repeat' split) <;> rfl

end

/-- The re-probe count leaves the slip figure. -/
theorem Grip.counted_lastSlip (rated step research : Nat) (b : Bool) (g : Grip) :
    (g.counted rated step research b).lastSlip = g.lastSlip := by
  unfold counted
  split
  · split
    · exact (climb_keeps ..).2.2.2
    · rfl
  · rfl

/-! ### REPROBE_START (R106; log entry 1) -/

theorem exec_reprobeStart (w : Wheel) (i : WindowIn) (s : State) : exec (.reprobeStart w i) s =
    .next (if (s.grip.get w).state = .settled ∧ (((windowState i s).grip.get w).state = .search ∨
      ((windowState i s).grip.get w).state = .free) then windowState i s else s) := by
  show Host.Outcome.next (if reprobes w s (windowState i s) = true then _ else _) = _
  simp only [reprobes, Bool.and_eq_true, Bool.or_eq_true, beq_iff_eq]

/-- Settles O31: each wheel's record is the slip event's, then the re-probe count's. -/
theorem Settled.slipWindow : Obligations.SlipWindow := by
  intro i s
  refine ⟨windowState i s, exec_window i s, fun w wi last si slip hwi _ hlast hsi hslip => ?_⟩
  have hg := windowState_grip s w i hwi
  have hfig := windowDriven_slipFigures i s w wi
  rw [windowState_speed] at hslip hsi ⊢
  change si = measuredSlip wi (unitSelected i s).v at hsi
  rw [← hlast, ← hsi] at hfig
  generalize slipFigures (windowDriven i s) w wi = f at hg hfig
  have hslip : slip ↔ f.2 = true := by
    rw [hslip, hfig]
    split
    · exact slipMeasured_iff.symm
    · exact slipBySpeed_iff.symm
  have hfig : f.1 = if (unitSelected i s).current = some .front ∨ (unitSelected i s).current = some .sat
      then si else 0 := by rw [hfig]; split <;> rfl
  have hls : ((windowState i s).grip.get w).lastSlip = f.1 := by
    rw [hg]; exact (Grip.counted_lastSlip ..).trans slippedAtWindow_lastSlip
  have hquiet (h : ¬slip) : f.2 = false := Bool.not_eq_true _ ▸ fun e => h (hslip.2 e)
  rw [frozen_eq] at hg
  rw [hls]
  refine ⟨fun h => ?_, hfig, fun h hs => ?_, fun h hs n hn hr => ?_, fun h hs => ?_,
    fun h hs => ⟨fun h1 h2 => ?_, fun hc => ⟨fun hr => ?_, fun hr => ?_⟩⟩⟩
  · rw [exec_reprobeStart, if_neg]
    tauto
  · rw [hg, slippedAtWindow_cut (hslip.1 h) hs, Grip.counted_stands (by exact nofun)]; rfl
  · rw [hg, slippedAtWindow_ended (hslip.1 h) hs]
    by_cases hc : (unitSelected i s).current = some .front ∨ (unitSelected i s).current = some .sat
    · rw [if_pos hc] at hn
      rw [decide_eq_false (not_not.2 hc), Grip.counted_counts rfl (by dsimp only; omega), hn]
    · rw [if_neg hc] at hn
      rw [decide_eq_true hc, Grip.counted_stands fun _ => rfl, hn]
  · rw [hg, slippedAtWindow_quiet (hquiet h), Grip.counted_stands (by exact fun e => absurd e hs)]
  · rw [hg, slippedAtWindow_quiet (hquiet h), Grip.counted_stands fun _ => decide_eq_true (by tauto)]
  · rw [hg, slippedAtWindow_quiet (hquiet h), decide_eq_false (not_not.2 hc),
      Grip.counted_counts (by exact hs) (by exact hr), hfig, if_pos hc]
  · rw [slippedAtWindow_quiet (hquiet h), decide_eq_false (not_not.2 hc),
      Grip.counted_climbs (by exact hs) (by exact hr)] at hg
    have climbed : ((windowState i s).grip.get w).state = .search ∨
        ((windowState i s).grip.get w).state = .free := by
      rw [hg]; exact (Grip.climb_state ..).symm
    rw [exec_reprobeStart, if_pos ⟨hs, climbed⟩, hg]
    obtain ⟨best, fbest, misses, -⟩ := Grip.climb_keeps (s.param .wheelRated) (stepOf s)
      (Grip.searchAgain { s.grip.get w with lastSlip := f.1 })
    obtain ⟨free, search⟩ := Grip.climb_ends (s.param .wheelRated) (stepOf s)
      (Grip.searchAgain { s.grip.get w with lastSlip := f.1 })
    exact ⟨rfl, best, fbest, misses, free, search⟩

end Sys2Proof.Machine
end

section
/-! The dwell counts at a command step (O39). -/

namespace Sys2Proof.Machine

/-! ### The ends of the dwells (R104) -/

namespace Grip

section
variable (rated step look : Nat) (g : Grip)

/-- The end of a HOLD dwell: what the first step starts from, and where it leaves the wheel. -/
theorem holdEnds_leaves :
    ((g.holdEnds rated step).best = g.ceiling ∧ (g.holdEnds rated step).fbest = g.sum / 100 ∧
      (g.holdEnds rated step).misses = 0) ∧
    (rated ≤ g.ceiling + step →
      (g.holdEnds rated step).state = .free ∧ (g.holdEnds rated step).ceiling = rated) ∧
    (g.ceiling + step < rated →
      (g.holdEnds rated step).state = .search ∧ (g.holdEnds rated step).ceiling = g.ceiling + step ∧
      (g.holdEnds rated step).dwell = 0 ∧ (g.holdEnds rated step).sum = 0) := by
  have hk := climb_keeps rated step { g with best := g.ceiling, fbest := g.sum / 100, misses := 0 }
  have he := climb_ends rated step { g with best := g.ceiling, fbest := g.sum / 100, misses := 0 }
  obtain ⟨best, fbest, misses, -⟩ := hk
  obtain ⟨free, search⟩ := he
  refine ⟨⟨best, fbest, misses⟩, fun h => (free h).symm, fun h => ?_⟩
  obtain ⟨ceiling, state, dwell⟩ := search h
  exact ⟨state, ceiling, dwell⟩

theorem judged_ceiling : g.judged.ceiling = g.ceiling := by unfold judged; split <;> rfl

/-- The end of a SEARCH dwell by the misses it leaves: SETTLED at best, or a step up. -/
theorem searchEnds_leaves :
    (look < (g.searchEnds rated step look).misses →
      (g.searchEnds rated step look).state = .settled ∧
      (g.searchEnds rated step look).ceiling = (g.searchEnds rated step look).best ∧
      (g.searchEnds rated step look).reprobe = 0) ∧
    ((g.searchEnds rated step look).misses ≤ look →
      (rated ≤ g.ceiling + step → (g.searchEnds rated step look).state = .free ∧
        (g.searchEnds rated step look).ceiling = rated) ∧
      (g.ceiling + step < rated → (g.searchEnds rated step look).state = .search ∧
        (g.searchEnds rated step look).ceiling = g.ceiling + step ∧
        (g.searchEnds rated step look).dwell = 0 ∧ (g.searchEnds rated step look).sum = 0)) := by
  obtain ⟨-, -, misses⟩ := searchEnds_judged (rated := rated) (step := step) (look := look) (g := g)
  rw [misses]
  refine ⟨fun h => ?_, fun h => ?_⟩
  · rw [searchEnds_settles h]; exact ⟨rfl, rfl, rfl⟩
  · obtain ⟨free, search⟩ := climb_ends rated step g.judged
    rw [judged_ceiling] at free search
    rw [searchEnds_climbs h]
    refine ⟨fun hr => (free hr).symm, fun hr => ?_⟩
    obtain ⟨ceiling, state, dwell⟩ := search hr
    exact ⟨state, ceiling, dwell⟩

/-- Where the wheel stays in SEARCH its dwell starts again. -/
theorem searchEnds_dwell :
    (g.searchEnds rated step look).state ≠ .search ∨ (g.searchEnds rated step look).dwell = 0 := by
  obtain ⟨settles, climbs⟩ := searchEnds_leaves rated step look g
  rcases Nat.lt_or_ge look (g.searchEnds rated step look).misses with hm | hm
  · exact .inl (by simp [(settles hm).1])
  obtain ⟨free, search⟩ := climbs hm
  rcases Nat.lt_or_ge (g.ceiling + step) rated with hr | hr
  · obtain ⟨-, -, dwell, -⟩ := search hr
    exact .inr dwell
  · exact .inl (by simp [(free hr).1])

end

/-- Short of its end a dwell counts, or stands (R103). -/
theorem handedOver_short {rated step look : Nat} {b : Bool} {issued : Int} {asked : Option Nat}
    {g : Grip} (h : g.state = .hold ∧ g.dwell + 1 < 100 ∨ g.state = .search ∧ g.dwell + 1 < 50) :
    g.handedOver rated step look b issued asked = g ∨
      g.handedOver rated step look b issued asked = g.dwelt issued := by
  cases b with
  | true => exact .inl rfl
  | false =>
    rcases h with ⟨hs, hd⟩ | ⟨hs, hd⟩
    · rw [handedOver_hold hs, if_neg (Nat.not_le.2 hd)]; exact .inr rfl
    · by_cases ha : ∃ t, asked = some t ∧ g.ceiling ≤ t
      · rw [handedOver_search hs ha, if_neg (Nat.not_le.2 hd)]; exact .inr rfl
      · exact .inl (handedOver_unasked hs fun t e => Nat.not_le.1 fun hle => ha ⟨t, e, hle⟩)

end Grip

/-! ### HOLD_DWELL_END and SEARCH_DWELL_END (log entry 1) -/

theorem exec_holdDwellEnd (w : Wheel) (s : State) : exec (.holdDwellEnd w) s =
    .next (if (s.grip.get w).state = .hold ∧ ((commandStepState s).grip.get w).state ≠ .hold
      then commandStepState s else s) := by
  show Host.Outcome.next (if holdDwellEnds w s (commandStepState s) = true then _ else _) = _
  simp only [holdDwellEnds, Bool.and_eq_true, beq_iff_eq, bne_iff_ne]

theorem exec_searchDwellEnd (w : Wheel) (s : State) : exec (.searchDwellEnd w) s =
    .next (if (s.grip.get w).state = .search ∧ (((commandStepState s).grip.get w).state ≠ .search ∨
      ((commandStepState s).grip.get w).dwell < (s.grip.get w).dwell)
      then commandStepState s else s) := by
  show Host.Outcome.next (if searchDwellEnds w s (commandStepState s) = true then _ else _) = _
  simp only [searchDwellEnds, Bool.and_eq_true, Bool.or_eq_true, beq_iff_eq, bne_iff_ne,
    decide_eq_true_eq]

/-- A wheel whose record stands, or short of its 100th step in HOLD, ends no HOLD dwell. -/
theorem exec_holdDwellEnd_stands {w : Wheel} {s : State}
    (h : (commandStepState s).grip.get w = s.grip.get w ∨ (s.grip.get w).state ≠ .hold ∨
      (s.grip.get w).dwell + 1 < 100) : exec (.holdDwellEnd w) s = .next s := by
  rw [exec_holdDwellEnd, if_neg]
  rintro ⟨hs, hs'⟩
  rcases h with h | h | h
  · exact hs' (h ▸ hs)
  · exact h hs
  · rw [commandStepState_grip] at hs'
    rcases Grip.handedOver_short (.inl ⟨hs, h⟩) with e | e <;> exact hs' (by rw [e]; exact hs)

/-- A wheel whose record stands, or short of its 50th step in SEARCH, ends no SEARCH dwell. -/
theorem exec_searchDwellEnd_stands {w : Wheel} {s : State}
    (h : (commandStepState s).grip.get w = s.grip.get w ∨ (s.grip.get w).state ≠ .search ∨
      (s.grip.get w).dwell + 1 < 50) : exec (.searchDwellEnd w) s = .next s := by
  rw [exec_searchDwellEnd, if_neg]
  rintro ⟨hs, hs'⟩
  rcases h with h | h | h
  · rw [h] at hs'
    exact hs'.elim (· hs) (Nat.lt_irrefl _)
  · exact h hs
  · rw [commandStepState_grip] at hs'
    rcases Grip.handedOver_short (.inr ⟨hs, h⟩) with e | e <;> rw [e] at hs'
    · exact hs'.elim (· hs) (Nat.lt_irrefl _)
    · exact hs'.elim (· hs) (Nat.not_lt.2 (Nat.le_succ _))

/-- A command step names the demand of S3 to a wheel's record where the chain ran, and none elsewhere
(R103). -/
theorem issueOf_asked (u : State) (w : Wheel) :
    ((u.drive.state = .ready ∨ u.drive.state = .hold) ∧ (u.wheel w).mode = .governed →
      (issueOf u w).asked = some (runChain u w (governedCount u.torque)).t2.natAbs) ∧
    (¬((u.drive.state = .ready ∨ u.drive.state = .hold) ∧ (u.wheel w).mode = .governed) →
      (issueOf u w).asked = none) := by
  refine ⟨fun ⟨hd, hm⟩ => by rw [issueOf_ran rfl hd hm], fun h => ?_⟩
  rw [issueOf_zero (by tauto)]
  rfl

/-- Settles O39: a wheel's record goes by its state, and at a dwell's end by what the end leaves. -/
theorem Settled.dwellCounts : Obligations.DwellCounts := by
  intro s w
  refine ⟨commandStepState s, counted s, rfl, rfl,
    fun g g' issued step asked ran hg hg' hi hstep hran hasked => ?_⟩
  subst hg hg'
  have e := commandStepState_grip s w
  obtain ⟨hyes, hno⟩ := issueOf_asked (counted s) w
  rw [← hran, ← hasked] at hyes
  rw [← hran] at hno
  rw [commandStepState_wheel] at hi
  change issued = (issueOf (counted s) w).torque.natAbs at hi
  change step = stepOf s at hstep
  rw [← hstep, frozen_eq] at e
  generalize issueOf (counted s) w = i at e hi hyes hno
  have dwelt : (s.grip.get w).dwelt i.torque = { s.grip.get w with
      dwell := (s.grip.get w).dwell + 1, sum := (s.grip.get w).sum + issued } := by
    rw [hi]; rfl
  refine ⟨fun h1 h2 => ?_, fun hs => ?_, exec_holdDwellEnd_stands, exec_searchDwellEnd_stands,
    fun hc => ?_⟩
  · rw [e, decide_eq_true (by tauto), Grip.handedOver_frozen]
  · rw [e, Grip.handedOver_idle hs]
  rw [decide_eq_false (not_not.2 hc)] at e
  refine ⟨fun hs hd => ?_, fun hs hd => ?_, fun hs ha => ?_, fun hs hr ha hd => ?_,
    fun hs hr ha hd => ?_⟩
  · rw [e, Grip.handedOver_hold hs, if_neg (Nat.not_le.2 hd), dwelt]
  · rw [Grip.handedOver_hold hs, if_pos hd, dwelt] at e
    have climbed : ((commandStepState s).grip.get w).state ≠ .hold := by
      rw [e]
      rcases Grip.climb_state _ _ _ with h | h <;> exact fun hh => nomatch h.symm.trans hh
    rw [exec_holdDwellEnd, if_pos ⟨hs, climbed⟩, e]
    obtain ⟨⟨best, fbest, misses⟩, free, search⟩ := Grip.holdEnds_leaves _ _ _
    exact ⟨rfl, best, fbest, misses, free, search⟩
  · rw [e, Grip.handedOver_unasked hs]
    intro t ht
    by_cases hr : ran
    · rw [hyes hr] at ht
      cases ht
      exact ha.resolve_left (not_not.2 hr)
    · rw [hno hr] at ht; cases ht
  · rw [e, Grip.handedOver_search hs ⟨asked, hyes hr, ha⟩, if_neg (Nat.not_le.2 hd), dwelt]
  · rw [Grip.handedOver_search hs ⟨asked, hyes hr, ha⟩, if_pos hd, dwelt] at e
    have again : ((commandStepState s).grip.get w).state ≠ .search ∨
        ((commandStepState s).grip.get w).dwell < (s.grip.get w).dwell := by
      rw [e]
      exact (Grip.searchEnds_dwell _ _ _ _).imp_right fun h => by omega
    rw [exec_searchDwellEnd, if_pos ⟨hs, again⟩, e]
    obtain ⟨best, fbest, misses⟩ := Grip.searchEnds_judged
    obtain ⟨settles, climbs⟩ := Grip.searchEnds_leaves _ _ _ _
    refine ⟨rfl, fun hf => ?_, fun hf => ?_, settles, climbs⟩
    · rw [best, fbest, misses, Grip.judged_better (by exact hf)]
      exact ⟨rfl, rfl, rfl⟩
    · rw [best, fbest, misses, Grip.judged_miss (by exact hf)]
      exact ⟨rfl, rfl, rfl⟩

end Sys2Proof.Machine
end

section
/-! The grids at a capacity step, stage by stage (O40), and the step that makes a grid FAULT (O42). -/

namespace Sys2Proof.Machine

/-! ### Stages 1 to 5 on one grid (R111, R114 to R118) -/

theorem powerInBand_iff {pf pm : Nat} :
    powerInBand pf pm = true ↔ pf * 500 / 1000 ≤ pm ∧ pm ≤ pf * 1500 / 1000 := by
  simp [powerInBand]

theorem powerInBand_eq_false_iff {pf pm : Nat} :
    powerInBand pf pm = false ↔ pm < pf * 500 / 1000 ∨ pf * 1500 / 1000 < pm := by
  rw [← Bool.not_eq_true, powerInBand_iff]; omega

namespace Grid

/-- The fault check passes: no check is due, or the power is within band (R114). -/
theorem faultTested_passed {g : Grid} (h : g.alloc < 100 ∨ powerInBand g.alloc g.power = true) :
    g.faultTested = { g with faults := 0 } :=
  if_neg fun ⟨hp, hb⟩ => h.elim (fun hlt => by omega) fun ht => by simp [ht] at hb

/-- A check that fails counts up to 4 (R114). -/
theorem faultTested_failed {g : Grid} (hp : 100 ≤ g.alloc) (hb : powerInBand g.alloc g.power = false)
    (hf : g.faults < 4) : g.faultTested = { g with faults := g.faults + 1 } := by
  rw [faultTested, if_pos ⟨hp, hb⟩, if_neg (by omega)]

/-- The fifth check that fails makes the fault (R114, R121). -/
theorem faultTested_fault {g : Grid} (hp : 100 ≤ g.alloc) (hb : powerInBand g.alloc g.power = false)
    (hf : 4 ≤ g.faults) : g.faultTested =
      { g with state := .fault, faults := 5, faultAlloc := g.alloc, faultPower := g.power } := by
  rw [faultTested, if_pos ⟨hp, hb⟩, if_pos (by omega)]

/-- All that the fault check can do. -/
theorem faultTested_cases (g : Grid) :
    ((g.alloc < 100 ∨ powerInBand g.alloc g.power = true) ∧ g.faultTested = { g with faults := 0 }) ∨
      (100 ≤ g.alloc ∧ powerInBand g.alloc g.power = false ∧ g.faults < 4 ∧
        g.faultTested = { g with faults := g.faults + 1 }) ∨
      (100 ≤ g.alloc ∧ powerInBand g.alloc g.power = false ∧ 4 ≤ g.faults ∧ g.faultTested =
        { g with state := .fault, faults := 5, faultAlloc := g.alloc, faultPower := g.power }) := by
  by_cases hp : 100 ≤ g.alloc
  · cases hb : powerInBand g.alloc g.power with
    | true => exact .inl ⟨.inr rfl, faultTested_passed (.inr hb)⟩
    | false =>
      by_cases hf : g.faults < 4
      · exact .inr (.inl ⟨hp, rfl, hf, faultTested_failed hp hb hf⟩)
      · exact .inr (.inr ⟨hp, rfl, Nat.le_of_not_lt hf, faultTested_fault hp hb (Nat.le_of_not_lt hf)⟩)
  · exact .inl ⟨.inl (by omega), faultTested_passed (.inl (by omega))⟩

section
variable (i : GridIn) {g : Grid}

theorem checked_off (h : g.state = .off) : g.checked i = g := by simp only [checked, h]

theorem checked_ready (h : g.state = .ready) : g.checked i = (g.read i).faultTested := by
  simp only [checked, h]

theorem checked_fault (h : g.state = .fault) : g.checked i = g.read i := by simp only [checked, h]

/-- The readings of a fitted grid stand after its check, and its temperature and allocation are not
touched (R111, R114). -/
theorem checked_fitted (h : g.state ≠ .off) :
    (g.checked i).running = i.running ∧ (g.checked i).power = min 4000 i.power ∧
      (g.checked i).theta = g.theta ∧ (g.checked i).state ≠ .off := by
  cases hs : g.state with
  | off => exact absurd hs h
  | fault => rw [checked_fault i hs]; exact ⟨rfl, rfl, rfl, h⟩
  | ready =>
    rw [checked_ready i hs]
    rcases (g.read i).faultTested_cases with ⟨-, e⟩ | ⟨-, -, -, e⟩ | ⟨-, -, -, e⟩ <;> rw [e]
    exacts [⟨rfl, rfl, rfl, h⟩, ⟨rfl, rfl, rfl, h⟩, ⟨rfl, rfl, rfl, by simp⟩]

end

/-- A grid through stages 1 to 5, with the sums that its share goes by. -/
def stepped (s : State) (pcap preq : Nat) (i : GridIn) (g : Grid) : Grid :=
  (((g.checked i).sized s).shared (s.param .gridRated) pcap preq).warmed s

section
variable (s : State) (pcap preq : Nat) (i : GridIn) (g : Grid)

/-- Stage 5 touches the temperature alone (R118). -/
theorem warmed_frame : g.warmed s = { g with theta := (g.warmed s).theta } := by
  unfold warmed; split <;> rfl

/-- Stages 2 to 5 leave what the check of stage 1 leaves, but for the figures that they work out. -/
theorem stepped_frame : g.stepped s pcap preq i = { g.checked i with
    cap := gridCapacity s (g.checked i)
    alloc := (g.stepped s pcap preq i).alloc
    duty := (g.stepped s pcap preq i).duty
    theta := (g.stepped s pcap preq i).theta } := by
  unfold stepped; rw [warmed_frame]; rfl

theorem stepped_alloc : (g.stepped s pcap preq i).alloc = if pcap = 0 then 0 else
    min (g.stepped s pcap preq i).cap (preq * (g.stepped s pcap preq i).cap / pcap) := by
  unfold stepped; rw [warmed_frame]; rfl

theorem stepped_duty : (g.stepped s pcap preq i).duty =
    min 1000 ((g.stepped s pcap preq i).alloc * 1000 / s.param .gridRated) := by
  unfold stepped; rw [warmed_frame]; rfl

theorem stepped_theta : (g.stepped s pcap preq i).theta =
    if (g.stepped s pcap preq i).state = .off then (g.checked i).theta else
      min 8000 ((g.checked i).theta + (g.stepped s pcap preq i).alloc * s.param .gridHeat / 1000 -
        (g.checked i).theta * s.param .gridCool * coolingFactor (s.param .altitude)
          (g.stepped s pcap preq i).running / 10000000) := by
  have hs : (g.stepped s pcap preq i).state =
    (((g.checked i).sized s).shared (s.param .gridRated) pcap preq).state := by
      unfold stepped; rw [warmed_frame]
  rw [hs]
  unfold stepped warmed
  split <;> rfl

end

/-- An OFF grid stands at zeros (R111). -/
theorem stepped_off (s : State) (pcap preq : Nat) (i : GridIn) {g : Grid} (h : g.state = .off) :
    g.stepped s pcap preq i = { g with cap := 0, alloc := 0, duty := 0 } := by
  have hc := checked_off i h
  have e := stepped_frame s pcap preq i g
  have ht := stepped_theta s pcap preq i g
  have ha := stepped_alloc s pcap preq i g
  have hd := stepped_duty s pcap preq i g
  have hcap : (g.stepped s pcap preq i).cap = 0 := by rw [e, hc]; simp only [gridCapacity, h]
  have hs : (g.stepped s pcap preq i).state = .off := by rw [e, hc]; exact h
  rw [hcap, Nat.mul_zero, Nat.zero_div, Nat.min_self, ite_self] at ha
  rw [ha, Nat.zero_mul, Nat.zero_div, Nat.min_eq_right (Nat.zero_le _)] at hd
  rw [if_pos hs, hc] at ht
  rw [e, ha, hd, ht, hc]
  simp only [gridCapacity, h]

end Grid

/-! ### Stages 2, 3 and 5 (R115, R116, R118) -/

/-- What a READY grid can take with its blower running (R115). -/
theorem gridCapacity_ready {s : State} {g : Grid} (h : g.state = .ready) : gridCapacity s g =
    if g.running then s.param .gridRated * max 500 (1000 - s.param .altitude / 10) / 1000 *
        min 1000 ((s.param .thetaMax - g.theta) * 1000 / s.param .thetaBand) / 1000
      else s.param .gridRated * max 500 (1000 - s.param .altitude / 10) / 1000 *
        min 1000 ((s.param .thetaMax - g.theta) * 1000 / s.param .thetaBand) / 1000 * 250 / 1000 := by
  simp only [gridCapacity, h]; rfl

theorem gridCapacity_fault {s : State} {g : Grid} (h : g.state = .fault) : gridCapacity s g = 0 := by
  simp only [gridCapacity, h]

/-- A wheel's retard power, of its mean retard torque (R116). -/
theorem wheelRetardPower_eq (h : Vector Int 10) (v radius : Nat) : wheelRetardPower h v radius =
    (h.toList.map (fun x => (-x).toNat)).sum / 10 * max v 30 * 1000 / (36 * radius) := by
  have e : (fun t : Int => if t < 0 then t.natAbs else 0) = fun x => (-x).toNat := by
    funext x; split <;> omega
  rw [wheelRetardPower, e]

/-- Heating less cooling, limited to 0 and 8000 (R118). -/
theorem warmed_int (theta heat cool : Nat) : ((min 8000 (theta + heat - cool) : Nat) : Int) =
    max 0 (min 8000 ((theta : Int) + heat - cool)) := by
  omega

/-! ### The capacity step, grid by grid (R113) -/

theorem four_sum_map {α : Type} (f : α → Nat) (x : Four α) : (x.map f).sum =
    f (x.get .g1) + f (x.get .g2) + f (x.get .g3) + f (x.get .g4) := rfl

theorem four_zip_get {α β γ : Type} (f : α → β → γ) (x : Four α) (y : Four β) (n : GridNo) :
    (Four.zip f x y).get n = f (x.get n) (y.get n) := by cases n <;> rfl

section
variable (i : CapacityIn) (s : State)

theorem capacityStepState_grid (n : GridNo) : (capacityStepState i s).retard.grids.get n =
    (s.retard.grids.get n).stepped s (capacityStepState i s).retard.pcap
      (capacityStepState i s).retard.preq (i.grids.get n) := by
  rw [capacityStepState_retard]; cases n <;> rfl

/-- P_cap is the sum of the capacities (R115). -/
theorem capacityStepState_pcap : (capacityStepState i s).retard.pcap =
    ((capacityStepState i s).retard.grids.map Grid.cap).sum := by
  have h (n : GridNo) : ((capacityStepState i s).retard.grids.get n).cap =
      gridCapacity s ((s.retard.grids.get n).checked (i.grids.get n)) := by
    rw [capacityStepState_grid, Grid.stepped_frame]
  rw [four_sum_map, h, h, h, h, capacityStepState_retard]
  rfl

theorem capacityStepState_preq : (capacityStepState i s).retard.preq = retardDemand s := by
  rw [capacityStepState_retard]; rfl

end

/-- Settles O40, grid by grid: the fault check by its window, then each stage's figure. -/
theorem Settled.capacityAndAllocation : Obligations.CapacityAndAllocation := by
  intro i s
  refine ⟨capacityStepState i s, rfl, capacityStepState_pcap i s, fun pw hpw => ?_,
    fun n g g' fAlt hr full fCool hg hg' hAlt hhr hfull hCool => ⟨fun hoff => ?_, fun hfit => ?_⟩⟩
  · rw [capacityStepState_preq, retardDemand, wheelRetardPower_eq, wheelRetardPower_eq, hpw, hpw]
    rfl
  all_goals
    have e := capacityStepState_grid i s n
    rw [← hg, ← hg'] at e
  · rw [e, Grid.stepped_off _ _ _ _ hoff]
  generalize (capacityStepState i s).retard.pcap = pcap at e ⊢
  generalize (capacityStepState i s).retard.preq = preq at e ⊢
  have frame := Grid.stepped_frame s pcap preq (i.grids.get n) g
  have alloc := Grid.stepped_alloc s pcap preq (i.grids.get n) g
  have duty := Grid.stepped_duty s pcap preq (i.grids.get n) g
  have theta := Grid.stepped_theta s pcap preq (i.grids.get n) g
  rw [← e] at frame alloc duty theta
  obtain ⟨hrun, hpow, htheta, hstill⟩ := Grid.checked_fitted (i.grids.get n) hfit
  have run : g'.running = (g.checked (i.grids.get n)).running := by rw [frame]
  have power : g'.power = (g.checked (i.grids.get n)).power := by rw [frame]
  have state : g'.state = (g.checked (i.grids.get n)).state := by rw [frame]
  have faults : g'.faults = (g.checked (i.grids.get n)).faults := by rw [frame]
  have cap : g'.cap = gridCapacity s (g.checked (i.grids.get n)) := by rw [frame]
  rw [hpow] at power
  refine ⟨run.trans hrun, power, fun hf => ?_, fun hrdy hok => ?_, fun hrdy hp hbad => ?_,
    fun hrdy => ?_, fun hf => ?_, fun h0 => ?_, fun hpos => ?_, duty, ?_⟩
  · rw [state, faults, Grid.checked_fault _ hf]; exact ⟨hf, rfl⟩
  · rw [power, ← powerInBand_iff] at hok
    rw [state, faults, Grid.checked_ready _ hrdy, Grid.faultTested_passed hok]
    exact ⟨hrdy, rfl⟩
  · rw [power, ← powerInBand_eq_false_iff] at hbad
    rw [state, faults, Grid.checked_ready _ hrdy]
    refine ⟨fun hlt => ?_, fun hge => ?_⟩
    · rw [Grid.faultTested_failed (g := g.read _) hp hbad hlt]; exact ⟨hrdy, rfl⟩
    · rw [Grid.faultTested_fault (g := g.read _) hp hbad hge]; exact ⟨rfl, rfl⟩
  · rw [state] at hrdy
    rw [cap, gridCapacity_ready hrdy, ← run, htheta, ← hAlt, ← hhr, ← hfull]
  · rw [cap, gridCapacity_fault (state ▸ hf)]
  · rw [alloc, if_pos h0]
  · rw [alloc, if_neg (by omega)]
  · rw [theta, if_neg (by rw [state]; exact hstill), htheta, warmed_int, hCool, hAlt]
    rfl

end Sys2Proof.Machine
end

section
/-! GRID_FAULT and CLEAR_GRID_FAULT (O42). -/

namespace Sys2Proof.Machine

/-! ### The step that makes a grid FAULT (R114, R121) -/

/-- A grid whose fifth check fails, after the step: FAULT and out of the allocation, with the figures of the
check (R114, R115, R117, R121). -/
theorem Grid.stepped_fault (s : State) (pcap preq : Nat) (i : GridIn) {g : Grid} (hs : g.state = .ready)
    (hp : 100 ≤ g.alloc) (hf : 4 ≤ g.faults) (hb : powerInBand g.alloc (min 4000 i.power) = false) :
    g.stepped s pcap preq i = { g.stepped s pcap preq i with
      state := .fault, faults := 5, cap := 0, alloc := 0, duty := 0
      faultAlloc := g.alloc, faultPower := min 4000 i.power } := by
  have check : g.checked i = { g.read i with
      state := .fault, faults := 5, faultAlloc := g.alloc, faultPower := min 4000 i.power } := by
    rw [checked_ready i hs]; exact faultTested_fault hp hb hf
  have frame := stepped_frame s pcap preq i g
  have alloc := stepped_alloc s pcap preq i g
  have duty := stepped_duty s pcap preq i g
  rw [gridCapacity_fault (by rw [check])] at frame
  have cap : (g.stepped s pcap preq i).cap = 0 := by rw [frame]
  rw [cap, Nat.mul_zero, Nat.zero_div, Nat.min_self, ite_self] at alloc
  rw [alloc, Nat.zero_mul, Nat.zero_div, Nat.min_eq_right (Nat.zero_le _)] at duty
  rw [frame, check, alloc, duty]

theorem anyGridFaulted_of {n : GridNo} {s t : State} (hs : (s.retard.grids.get n).state = .ready)
    (ht : (t.retard.grids.get n).state = .fault) : anyGridFaulted s t = true := by
  have h : gridFaulted n s t = true := by simp [gridFaulted, hs, ht]
  cases n <;> simp [anyGridFaulted, h]

/-- A capacity step that makes a grid FAULT makes GRID_FAULT pending (R121). -/
theorem capacityStepState_gridFault {n : GridNo} {i : CapacityIn} {s : State}
    (hs : (s.retard.grids.get n).state = .ready)
    (ht : ((capacityStepState i s).retard.grids.get n).state = .fault) :
    PendingOnBoth .gridFault (capacityStepState i s) := by
  have hf : anyGridFaulted s { s with retard := capacityUnit i s } = true :=
    anyGridFaulted_of hs (by rw [capacityStepState_retard] at ht; exact ht)
  unfold capacityStepState
  dsimp only
  split
  · exact (DriveStep.handTrip _ _).pending _ (raiseIf_raises hf)
  · exact raiseIf_raises hf

theorem exec_gridFault (n : GridNo) (i : CapacityIn) (s : State) : exec (.gridFault n i) s =
    .next (whenItComesAbout (gridFaulted n) (capacityStepState i) s) := rfl

/-! ### CLEAR_GRID_FAULT (R122) -/

/-- The answer counts the named grids that are FAULT. -/
theorem clearGridWork_done {grid : Byte} {named : Four Bool} {a : Owner} {s : State}
    (hn : gridsNamed s grid = some named) (hd : s.drive.state = .parked) : clearGridWork grid a s =
      ({ s with retard := { s.retard with grids := Four.zip Grid.cleared named s.retard.grids } },
        .ok (u8 (faultsNamed named s.retard.grids))) := by
  simp only [clearGridWork, hn, hd, ne_eq, not_true_eq_false, if_false]

theorem exec_clearGridFault {h : Hdr} {grid : Byte} {s : State} (ha : authorityOf h ≠ none) :
    ∃ a, exec (.clearGridFault h grid) s = .next ((clearGridWork grid a s).1.exchanged h.link
      (answerOf h 0x50 (clearGridWork grid a s).2)) := by
  obtain ⟨a, ha⟩ := Option.ne_none_iff_exists'.1 ha
  exact ⟨a, congrArg Host.Outcome.next (takeRequest_of ha rfl)⟩

/-- A grid number of CLEAR_GRID_FAULT names one position or none (R122). -/
theorem gridOfNumber_eq_some_iff {grid : Byte} {n : GridNo} :
    gridOfNumber grid = some n ↔ grid.toNat = n.num := by
  refine ⟨fun h => ?_, fun h => ?_⟩
  · unfold gridOfNumber at h
    split at h <;> cases h <;> assumption
  · cases n <;> simp only [GridNo.num] at h <;> simp only [gridOfNumber, h]

theorem gridsNamed_all {grid : Byte} {s : State} (h : grid.toNat = 0) :
    gridsNamed s grid = some ⟨true, true, true, true⟩ := if_pos h

theorem gridNo_num_range (n : GridNo) : 1 ≤ n.num ∧ n.num ≤ 4 := by cases n <;> decide

theorem gridsNamed_one {grid : Byte} {n : GridNo} {s : State} (h : grid.toNat = n.num)
    (hf : (s.retard.grids.get n).state ≠ .off) :
    gridsNamed s grid = some ⟨n == .g1, n == .g2, n == .g3, n == .g4⟩ := by
  have h0 : grid.toNat ≠ 0 := by have := gridNo_num_range n; omega
  simp only [gridsNamed, if_neg h0, gridOfNumber_eq_some_iff.2 h, if_neg hf]

/-- A number above 4 and the number of an OFF grid name none (R122). -/
theorem gridsNamed_none {grid : Byte} {s : State} (h : 4 < grid.toNat ∨
    ∃ n : GridNo, grid.toNat = n.num ∧ (s.retard.grids.get n).state = .off) :
    gridsNamed s grid = none := by
  rcases h with h | ⟨n, hn, hoff⟩
  · have hno : gridOfNumber grid = none := by
      rw [Option.eq_none_iff_forall_ne_some]
      intro n hn
      have := gridNo_num_range n
      have := gridOfNumber_eq_some_iff.1 hn
      omega
    simp only [gridsNamed, if_neg (show grid.toNat ≠ 0 by omega), hno]
  · have h0 : grid.toNat ≠ 0 := by have := gridNo_num_range n; omega
    simp only [gridsNamed, if_neg h0, gridOfNumber_eq_some_iff.2 hn, if_pos hoff]

theorem exists_gridsNamed {grid : Byte} {s : State} (h : grid.toNat ≤ 4)
    (hf : ∀ n : GridNo, grid.toNat = n.num → (s.retard.grids.get n).state ≠ .off) :
    ∃ named, gridsNamed s grid = some named := by
  by_cases h0 : grid.toNat = 0
  · exact ⟨_, gridsNamed_all h0⟩
  · obtain ⟨n, hn⟩ : ∃ n : GridNo, grid.toNat = n.num := by
      have : grid.toNat = 1 ∨ grid.toNat = 2 ∨ grid.toNat = 3 ∨ grid.toNat = 4 := by omega
      rcases this with e | e | e | e
      exacts [⟨.g1, e⟩, ⟨.g2, e⟩, ⟨.g3, e⟩, ⟨.g4, e⟩]
    exact ⟨_, gridsNamed_one hn (hf n hn)⟩

theorem faultsNamed_all (gs : Four Grid) : faultsNamed ⟨true, true, true, true⟩ gs =
    [GridNo.g1, .g2, .g3, .g4].countP (fun n => (gs.get n).state == .fault) := by
  simp only [faultsNamed, Four.zip, Four.sum, Four.get, Bool.true_and, List.countP_cons,
    List.countP_nil, Bool.toNat, Bool.cond_eq_ite]
  omega

theorem faultsNamed_one (n : GridNo) (gs : Four Grid) :
    faultsNamed ⟨n == .g1, n == .g2, n == .g3, n == .g4⟩ gs =
      ((gs.get n).state == .fault).toNat := by
  cases n <;> simp [faultsNamed, Four.zip, Four.sum, Four.get, beq_eq_decide]

theorem named_get (n m : GridNo) :
    (Four.mk (n == .g1) (n == .g2) (n == .g3) (n == .g4)).get m = (n == m) := by
  cases m <;> rfl

theorem Grid.cleared_named (g : Grid) : g.cleared true =
    if g.state = .fault then { g with state := .ready, faults := 0 } else g := by
  simp [cleared]

theorem Grid.cleared_other (g : Grid) : g.cleared false = g := by simp [cleared]

/-- Settles O42: the check that fails the fifth time, then CLEAR_GRID_FAULT by what its number names. -/
theorem Settled.gridFaultAndClear : Obligations.GridFaultAndClear := by
  refine ⟨fun n i s g hg hs hp hf hb => ?_, fun n i s => ⟨capacityStepState i s, rfl, fun hn => ?_⟩,
    fun h s ha => ⟨fun hd => ?_, fun grid n hn hf hd => ?_, fun grid hg => ?_,
      fun grid hle hf hd => ?_⟩⟩
  · have e := capacityStepState_grid i s n
    rw [← hg, Grid.stepped_fault s _ _ _ hs hp hf (powerInBand_eq_false_iff.2 hb)] at e
    have fault : ((capacityStepState i s).retard.grids.get n).state = .fault := by rw [e]
    have pending := capacityStepState_gridFault (hg ▸ hs) fault
    refine ⟨capacityStepState i s, ?_, rfl, fault, by rw [e], by rw [e], by rw [e], by rw [e],
      pending, by rw [e], by rw [e]⟩
    rw [exec_gridFault, whenItComesAbout_of (by simp [gridFaulted, ← hg, hs, fault])]
  · have : gridFaulted n s (capacityStepState i s) = false := by
      rcases hn with hn | hn <;> simp [gridFaulted, hn]
    rw [exec_gridFault, whenItComesAbout, this]; rfl
  · obtain ⟨a, e⟩ := exec_clearGridFault (grid := 0) ha
    rw [e, clearGridWork_done (gridsNamed_all rfl) hd, answerOf_ok, faultsNamed_all]
    refine ⟨_, rfl, fun n => ?_, rfl⟩
    rw [← Grid.cleared_named]
    cases n <;> rfl
  · obtain ⟨a, e⟩ := exec_clearGridFault (grid := grid) ha
    rw [e, clearGridWork_done (gridsNamed_one hn hf) hd, answerOf_ok, faultsNamed_one]
    refine ⟨_, rfl, ?_, fun m hm => ?_, rfl⟩
    · rw [← Grid.cleared_named, four_zip_get, named_get, beq_self_eq_true]
    · rw [four_zip_get, named_get, beq_false_of_ne hm.symm, Grid.cleared_other]
  · obtain ⟨a, e⟩ := exec_clearGridFault (grid := grid) ha
    rw [e, clearGridWork, gridsNamed_none hg, answerOf_refuse]
  · obtain ⟨a, e⟩ := exec_clearGridFault (grid := grid) ha
    obtain ⟨named, hn⟩ := exists_gridsNamed hle hf
    rw [e]
    simp only [clearGridWork, hn, ne_eq, hd, not_false_eq_true, if_true, answerOf_refuse]

end Sys2Proof.Machine
end

section
/-! The link at a capacity step: LINK_VOLTAGE (O43) and the overvoltage trip (O44). -/

namespace Sys2Proof.Machine

/-! ### LINK_VOLTAGE (R127) -/

section
variable {low volts high : Nat}

/-- A DORMANT record goes ACTIVE above P_LINK_HIGH. -/
theorem linkAfter_rises (h : high < volts) : linkAfter false low volts high = (true, 0) := if_pos h

theorem linkAfter_dormant (h : volts ≤ high) : linkAfter false low volts high = (false, low) :=
  if_neg (Nat.not_lt.2 h)

/-- An ACTIVE record stands at P_LINK_HIGH - 50 and above. -/
theorem linkAfter_stands (h : high ≤ volts + 50) : linkAfter true low volts high = (true, 0) :=
  if_neg (Nat.not_lt.2 h)

/-- Below that the low steps are counted, and the tenth clears the record. -/
theorem linkAfter_counts (h : volts + 50 < high) (hc : low < 9) :
    linkAfter true low volts high = (true, low + 1) :=
  (if_pos h).trans (if_neg (by omega))

theorem linkAfter_clears (h : volts + 50 < high) (hc : 9 ≤ low) :
    linkAfter true low volts high = (false, 0) :=
  (if_pos h).trans (if_pos (by omega))

end

theorem dormant_of_inactive {r : GovRec} (h : r.active = false) : { r with active := false } = r := by
  rw [← h]

section
variable (i : CapacityIn) (s : State)

/-- The voltage sampled, the low count and the overvolt flag after a capacity step (R127, R128). -/
theorem capacityStepState_link : (capacityStepState i s).retard.volts = min 4000 i.volts ∧
    (capacityStepState i s).retard.lowCount = (linkOf i s).2 ∧
    (capacityStepState i s).retard.overvolt = decide (s.param .linkTrip < min 4000 i.volts) := by
  rw [capacityStepState_retard]; exact ⟨rfl, rfl, rfl⟩

theorem capacityStepState_linkVoltage : (capacityStepState i s).gov.linkVoltage =
    if (linkOf i s).1 = true then ⟨true, s.param .retardRated / 2, true⟩
    else { s.gov.linkVoltage with active := false } := by
  rw [capacityStepState_gov]
  simp only [capacityUpdates, List.foldl]
  cases (capacityUnit i s).grade <;> split <;> rfl

/-- LINK_VOLTAGE_CLEAR is the step at which the record goes DORMANT (log entry 1). -/
theorem exec_linkVoltageClear : exec (.linkVoltageClear i) s =
    .next (if s.gov.linkVoltage.active = true ∧ (linkOf i s).1 = false then capacityStepState i s
      else s) := by
  have h : linkClears s (capacityStepState i s) = true ↔
      s.gov.linkVoltage.active = true ∧ (linkOf i s).1 = false := by
    rw [linkClears, capacityStepState_linkVoltage]
    cases (linkOf i s).1 <;> simp
  show Host.Outcome.next (whenItComesAbout linkClears (capacityStepState i) s) = _
  simp only [whenItComesAbout, h]

end

/-- Settles O43, by the band that the voltage sampled lies in. -/
theorem Settled.linkVoltage : Obligations.LinkVoltage := by
  intro i s
  refine ⟨capacityStepState i s, rfl, fun volts high hv hh h50 => ?_⟩
  obtain ⟨sampled, count, -⟩ := capacityStepState_link i s
  have record := capacityStepState_linkVoltage i s
  have clear := exec_linkVoltageClear i s
  have link : linkOf i s = linkAfter s.gov.linkVoltage.active s.retard.lowCount volts high := by
    rw [hv, hh]; rfl
  refine ⟨sampled.trans hv.symm, fun ha hlt => ?_, fun ha hle => ?_, fun ha hle => ?_,
    fun ha hlt => ⟨fun hc => ?_, fun hc => ?_⟩⟩ <;> rw [ha] at link clear
  · rw [linkAfter_rises hlt] at link
    rw [link] at count record
    exact ⟨record, count⟩
  · rw [linkAfter_dormant hle] at link
    rw [link] at record
    exact ⟨record.trans (dormant_of_inactive ha), clear⟩
  · rw [linkAfter_stands (Nat.le_add_of_sub_le hle)] at link
    rw [link] at count record clear
    exact ⟨record, count, clear⟩
  · rw [linkAfter_counts (by omega) hc] at link
    rw [link] at count record clear
    exact ⟨record, count, clear⟩
  · rw [linkAfter_clears (by omega) hc] at link
    rw [link] at count record clear
    refine ⟨clear, count, record, (capacityStepState_env i s).2 fun same => ?_⟩
    have active := congrArg GovRec.active record
    rw [same, ha] at active
    cases active

/-! ### The overvoltage trip (R128, R173) -/

section
variable {i : CapacityIn} {s : State}

/-- Without a rise above P_LINK_TRIP a capacity step leaves the drive and the torque. -/
theorem capacityStepState_kept (h : overvoltFound i s = false) :
    (capacityStepState i s).drive = s.drive ∧ (capacityStepState i s).torque = s.torque := by
  simp [capacityStepState, h]

/-- A rise above P_LINK_TRIP hands the cause after the step's updates of the Limit Table. -/
theorem capacityStepState_trips (h : overvoltFound i s = true) : ∃ u : State,
    u.drive = s.drive ∧ u.torque = s.torque ∧ capacityStepState i s = handTrip .linkOvervolt u := by
  refine ⟨_, ?_, ?_, if_pos h⟩ <;> simp

theorem overvoltFound_iff : overvoltFound i s = true ↔
    s.param .linkTrip < min 4000 i.volts ∧ s.retard.overvolt = false := by
  simp [overvoltFound, sampledVolts]

theorem overvoltFound_eq_false_iff : overvoltFound i s = false ↔
    (min 4000 i.volts ≤ s.param .linkTrip ∨ s.retard.overvolt = true) := by
  rw [← Bool.not_eq_true, overvoltFound_iff]; simp [imp_iff_not_or]

end

/-- Settles O44, by the voltage sampled and the overvolt flag. -/
theorem Settled.overvoltage : Obligations.Overvoltage := by
  intro i s
  refine ⟨capacityStepState i s, rfl, fun volts hv => ?_⟩
  obtain ⟨-, -, flag⟩ := capacityStepState_link i s
  rw [← hv] at flag
  refine ⟨fun hle => ?_, fun hlt hf => ?_, fun hlt hf => ?_⟩
  · exact ⟨by rw [flag, decide_eq_false (Nat.not_lt.2 hle)],
      capacityStepState_kept (overvoltFound_eq_false_iff.2 (.inl (hv ▸ hle)))⟩
  · exact ⟨by rw [flag, decide_eq_true hlt],
      capacityStepState_kept (overvoltFound_eq_false_iff.2 (.inr hf))⟩
  obtain ⟨u, drive, torque, e⟩ := capacityStepState_trips (overvoltFound_iff.2 ⟨hv ▸ hlt, hf⟩)
  refine ⟨by rw [flag, decide_eq_true hlt], ?_⟩
  rw [e, ← drive, ← torque]
  refine ⟨fun hd => ?_, fun hd hc => ?_, fun hd hc => ?_⟩
  · rw [handTrip_other hd]
    refine ⟨enter_state _ _, by rw [enter_drive], by rw [enter_drive], by rw [enter_drive],
      by rw [enter_drive], by rw [enter_drive], enter_tripped_assist _,
      (enter_raises .tripped _).2 rfl, fun w => ?_⟩
    rw [enter_wheel]
    exact ⟨rfl, rfl⟩
  · rw [handTrip_tripped hd, if_neg hc]; exact ⟨rfl, rfl⟩
  · rw [handTrip_tripped hd, if_pos hc]; exact ⟨rfl, rfl⟩

end Sys2Proof.Machine
end

section
/-! The capacity sweep: START_SWEEP, the sweep entry, SWEEP_READY and READ_SWEEP (O45). -/

namespace Sys2Proof.Machine

/-! ### START_SWEEP (R132, R185) -/

theorem allWithin_iff {x0 step lo hi : Int} : allWithin x0 step lo hi = true ↔
    ∀ i : Fin 8, lo ≤ x0 + i.val * step ∧ x0 + i.val * step ≤ hi := by
  simp only [allWithin, List.all_eq_true, List.mem_range, Bool.and_eq_true, decide_eq_true_eq]
  exact ⟨fun h i => h i.val i.isLt, fun h n hn => h ⟨n, hn⟩⟩

/-- Every sender but OPERATOR may start a sweep. -/
theorem notOperator_of {h : Hdr} {a : Owner} (ha : authorityOf h = some a) (hne : a ≠ .operator) :
    notOperator a = true := by
  cases a with
  | operator => exact absurd rfl hne
  | governor => exact absurd ha authorityOf_ne_governor
  | dispatch => rfl
  | autonomy => rfl
  | safety => rfl

theorem isRunning_iff {x : Sweep} : x.isRunning = true ↔ ∃ j t, x = .running j t := by
  cases x <;> simp [Sweep.isRunning]

/-- All 64 points of a sweep lie in R132's ranges. -/
def SweepInRange (g0 gstep m0 mstep : Half) (s : State) : Prop :=
  ∀ i : Fin 8, 1 ≤ g0.toInt + i.val * gstep.toInt ∧ g0.toInt + i.val * gstep.toInt ≤ 200 ∧
    (s.param .emptyMass : Int) ≤ m0.toInt + i.val * mstep.toInt ∧
    m0.toInt + i.val * mstep.toInt ≤ s.param .gvmMax

section
variable {l : Link} {g0 gstep m0 mstep : Half} {a : Owner} {s : State}

theorem sweepInRange_iff : SweepInRange g0 gstep m0 mstep s ↔
    allWithin g0.toInt gstep.toInt 1 200 = true ∧
      allWithin m0.toInt mstep.toInt (s.param .emptyMass) (s.param .gvmMax) = true := by
  rw [allWithin_iff, allWithin_iff, ← forall_and]
  simp only [SweepInRange, and_assoc]

theorem startSweepWork_badValue (h : ¬SweepInRange g0 gstep m0 mstep s) :
    startSweepWork l g0 gstep m0 mstep a s = (s, .refuse .badValue) := by
  rw [sweepInRange_iff, not_and_or, Bool.not_eq_true, Bool.not_eq_true] at h
  exact if_pos h

theorem startSweepWork_inRange (h : SweepInRange g0 gstep m0 mstep s) :
    startSweepWork l g0 gstep m0 mstep a s =
      if s.retard.sweep.isRunning = true then (s, .refuse .busy)
      else (withSweep (.running (sweepJob l g0 gstep m0 mstep s) []) s,
        .ok (u16 s.retard.pcap ++ u16 (sweepResistance s))) := by
  obtain ⟨hg, hm⟩ := sweepInRange_iff.1 h
  exact if_neg (by simp [hg, hm])

end

/-! ### The sweep entry (R131, R133) -/

/-- The marker of the figures (R133). -/
theorem markerOf_eq (f : GradeFigures) : markerOf f =
    if f.result = none then .noSlope else if f.short = true then .short else .none := rfl

/-- An entry holds the figures of its grade and mass. -/
theorem sweepEntryAt_figures {j : SweepJob} {k : Nat} {f : GradeFigures}
    (h : gradeFigures j.pcap (sweepEntryAt j k).mass.toNat ((sweepEntryAt j k).grade - j.rr) j.margin
      j.speedRated = f) :
    (sweepEntryAt j k).vraw = f.vraw ∧ (sweepEntryAt j k).value = f.result.getD 0 ∧
      (sweepEntryAt j k).marker = markerOf f := by
  subst h; exact ⟨rfl, rfl, rfl⟩

/-- The figures of an entry on a slope that needs no retarding: NO_SLOPE. -/
theorem sweepEntryAt_noSlope {j : SweepJob} {k : Nat} (h : (sweepEntryAt j k).grade ≤ j.rr) :
    (sweepEntryAt j k).vraw = 0 ∧ (sweepEntryAt j k).value = 0 ∧
      (sweepEntryAt j k).marker = .noSlope :=
  sweepEntryAt_figures (gradeFigures_noSlope (Int.sub_nonpos_of_le h))

/-- The figures of an entry downhill. -/
theorem sweepEntryAt_slope {j : SweepJob} {k slope mass : Nat}
    (hs : (sweepEntryAt j k).grade - j.rr = slope) (hpos : 0 < slope)
    (hm : (sweepEntryAt j k).mass = mass) :
    (sweepEntryAt j k).vraw = j.pcap * 36000000 / (mass * 981 * slope) ∧
      (sweepEntryAt j k).value =
        max 30 (min ((sweepEntryAt j k).vraw * (1000 - j.margin) / 1000) j.speedRated) ∧
      (sweepEntryAt j k).marker = if (sweepEntryAt j k).vraw < 30 then .short else .none := by
  obtain ⟨vraw, value, marker⟩ := sweepEntryAt_figures (j := j) (k := k) rfl
  rw [hs, hm, Int.toNat_natCast, gradeFigures_slope hpos] at vraw value marker
  dsimp only at vraw value
  rw [← vraw] at value marker
  refine ⟨vraw, value, ?_⟩
  rw [marker, markerOf_eq]
  simp only [reduceCtorEq, if_false, decide_eq_true_eq]

/-- The entry of a RUNNING sweep: below the last index it joins the table, at the last one the sweep is
READY and its link is told. -/
theorem sweepEntryState_running {j : SweepJob} {t : List SweepEntry} {s : State}
    (h : s.retard.sweep = .running j t) : sweepEntryState s =
      if 63 ≤ t.length then
        raiseOn j.link .sweepReady (withSweep (.ready j (t ++ [sweepEntryAt j t.length]) 0) s)
      else withSweep (.running j (t ++ [sweepEntryAt j t.length])) s := by
  simp only [sweepEntryState, h, List.length_append, List.length_singleton]
  exact if_congr (by omega) rfl rfl

theorem sweepEntryState_stands {s : State} (h : ∀ j t, s.retard.sweep ≠ .running j t) :
    sweepEntryState s = s := by
  unfold sweepEntryState
  split
  · rfl
  · rfl
  · next j t hr => exact absurd hr (h j t)

/-- SWEEP_READY is the entry that ends RUNNING (log entry 1). -/
theorem exec_sweepReady (s : State) : exec .sweepReady s =
    .next (if s.retard.sweep.isRunning = true ∧ (sweepEntryState s).retard.sweep.isRunning = false
      then sweepEntryState s else s) := by
  show Host.Outcome.next (whenItComesAbout sweepCompletes sweepEntryState s) = _
  simp [whenItComesAbout, sweepCompletes]

/-- Settles O45, request by request and entry by entry. -/
theorem Settled.capacitySweep : Obligations.CapacitySweep := by
  refine ⟨fun h g0 gstep m0 mstep s ha => ?_, fun h g0 gstep m0 mstep a s good ha hne hgood => ?_,
    fun j table s k hr hk => ?_, fun s hn => ?_, fun h s ha => ?_⟩
  · refine congrArg Host.Outcome.next (takeRequest_refused fun a e => ?_)
    rcases ha with ha | ha <;> rw [ha] at e <;> cases e
    rfl
  · have e : exec (.startSweep h g0 gstep m0 mstep) s = .next
        ((startSweepWork h.link g0 gstep m0 mstep a s).1.exchanged h.link
          (answerOf h 0x51 (startSweepWork h.link g0 gstep m0 mstep a s).2)) :=
      congrArg Host.Outcome.next (takeRequest_of ha (notOperator_of ha hne))
    change good ↔ SweepInRange g0 gstep m0 mstep s at hgood
    refine ⟨fun hbad => ?_, fun hg hrun => ?_, fun hg hrest => ?_⟩
    · rw [e, startSweepWork_badValue (mt hgood.2 hbad), answerOf_refuse]
    · rw [e, startSweepWork_inRange (hgood.1 hg), if_pos (isRunning_iff.2 hrun), answerOf_refuse]
    · have stopped : ¬s.retard.sweep.isRunning = true := fun h => by
        obtain ⟨j, t, hr⟩ := isRunning_iff.1 h
        exact hrest j t hr
      refine ⟨sweepResistance s, fun g hg => by simp only [sweepResistance, hg],
        fun hg => by simp only [sweepResistance, hg], ?_⟩
      rw [e, startSweepWork_inRange (hgood.1 hg), if_neg stopped, answerOf_ok]
      rfl
  · have step := sweepEntryState_running hr
    have ready := exec_sweepReady s
    rw [← hk] at step
    refine ⟨sweepEntryAt j k, sweepEntryState s, rfl, rfl, rfl, sweepEntryAt_noSlope,
      fun slope mass => sweepEntryAt_slope, fun hlt => ?_, fun hge => ?_⟩
    · rw [if_neg (Nat.not_le.2 hlt)] at step
      rw [if_neg fun ⟨_, hdone⟩ => by rw [step] at hdone; cases hdone] at ready
      exact ⟨step, ready⟩
    · rw [if_pos hge] at step
      rw [if_pos ⟨isRunning_iff.2 ⟨j, table, hr⟩, by rw [step]; rfl⟩] at ready
      refine ⟨by rw [step]; rfl, ?_, by rw [step]; rfl, ready⟩
      have hport : (sweepEntryState s).port j.link = (s.port j.link).raised .sweepReady := by
        rw [step]; cases j.link <;> rfl
      rw [hport, raised_pending]
  · have stands := sweepEntryState_stands hn
    have ready := exec_sweepReady s
    rw [stands, ite_self] at ready
    exact ⟨congrArg Host.Outcome.next stands, ready⟩
  · obtain ⟨a, ha⟩ := Option.ne_none_iff_exists'.1 ha
    have e : exec (.readSweep h) s = .next ((readSweepWork a s).1.exchanged h.link
        (answerOf h 0x52 (readSweepWork a s).2)) :=
      congrArg Host.Outcome.next (takeRequest_of ha rfl)
    refine ⟨fun j table k x hr hx => ?_, fun hn => ?_⟩
    · rw [e]
      simp only [readSweepWork, hr, List.getD_eq_getElem?_getD, hx, Option.getD_some, answerOf_ok]
      rfl
    · have refused : readSweepWork a s = (s, .refuse .notReady) := by
        unfold readSweepWork
        split
        · rfl
        · rfl
        · next j t c hr => exact absurd hr (hn j t c)
      rw [e, refused, answerOf_refuse]

end Sys2Proof.Machine
end

section
/-! What every step keeps of conditions, grids, parameters, steer curve, sweep and payload monitor (O60): what
leaves all of them alone. -/

namespace Sys2Proof.Machine

/-- All that the invariants of the holdings read stands. -/
structure SameHoldings (s t : State) : Prop where
  params : t.params = s.params
  steer : t.steer = s.steer
  load : t.load = s.load
  conditions : t.drive.conditions = s.drive.conditions
  retard : t.retard = { s.retard with assist := t.retard.assist, causes := t.retard.causes }

/-! ### The conditions present (R170, R172) -/

theorem enter_conditions (d : Drive) (s : State) :
    (enter d s).drive.conditions = s.drive.conditions := by
  rw [enter_drive]

/-- A hold cause joins the conditions present, if it is one (R172). -/
theorem handHold_conditions (c : HoldCause) (s : State) :
    (handHold c s).drive.conditions = s.drive.conditions.add c := by
  by_cases h1 : s.drive.state = .ready
  · rw [handHold_ready h1]; exact enter_conditions _ _
  by_cases h2 : s.drive.state = .hold
  · rw [handHold_hold h2]
  · rw [handHold_other h1 h2]

theorem handTrip_conditions (c : TripCause) (s : State) :
    (handTrip c s).drive.conditions = s.drive.conditions := by
  by_cases h : s.drive.state = .tripped
  · rw [handTrip_tripped h]
  · rw [handTrip_other h]; exact enter_conditions _ _

theorem handWheelLoss_conditions (s : State) :
    (handWheelLoss s).drive.conditions = s.drive.conditions := by
  rcases handWheelLoss_split s with e | e | e <;> rw [e]
  · exact handHold_conditions .wheelLost s
  · exact handTrip_conditions _ s

namespace SameHoldings

variable {s t u : State}

theorem refl (s : State) : SameHoldings s s := ⟨rfl, rfl, rfl, rfl, rfl⟩

theorem trans (h : SameHoldings s t) (g : SameHoldings t u) : SameHoldings s u :=
  ⟨g.params.trans h.params, g.steer.trans h.steer, g.load.trans h.load,
    g.conditions.trans h.conditions, by rw [g.retard, h.retard]⟩

/-! ### The changes of drive state (R170 to R173, R182) -/

/-- A change of drive state that leaves the conditions present. -/
theorem of_step (h : DriveStep s t) (hc : t.drive.conditions = s.drive.conditions) :
    SameHoldings s t :=
  ⟨by rw [h.frame], by rw [h.frame], by rw [h.frame], hc, by rw [h.frame]⟩

/-- A change of the drive's and the torque's records that leaves the conditions present. -/
theorem records (s : State) {x : DriveCtl} (q : TorqueGov) (hx : x.conditions = s.drive.conditions) :
    SameHoldings s { s with drive := x, torque := q } := of_step (.of_records s x q) hx

/-- An entry to a drive state after such a change. -/
theorem enter_with (d : Drive) (s : State) {x : DriveCtl} {q : TorqueGov}
    (hx : x.conditions = s.drive.conditions) :
    SameHoldings s (enter d { s with drive := x, torque := q }) :=
  (records s q hx).trans (of_step (.enter d _) (enter_conditions _ _))

theorem handHold {c : HoldCause} (hc : s.drive.conditions.add c = s.drive.conditions) :
    SameHoldings s (handHold c s) :=
  of_step (.handHold c s) ((handHold_conditions c s).trans hc)

theorem handTrip (c : TripCause) (s : State) : SameHoldings s (handTrip c s) :=
  of_step (.handTrip c s) (handTrip_conditions c s)

theorem handWheelLoss (s : State) : SameHoldings s (handWheelLoss s) :=
  of_step (.handWheelLoss s) (handWheelLoss_conditions s)

theorem enterHold (h : HoldSet) (s : State) : SameHoldings s (enterHold h s) := enter_with .hold s rfl

theorem enterParked (s : State) : SameHoldings s (enterParked s) := enter_with .parked s rfl

theorem endStarting (s : State) : SameHoldings s (endStarting s) := by
  unfold Machine.endStarting
  split
  · exact enter_with _ s rfl
  split
  · exact (SameHoldings.enterHold _ s).trans (.handWheelLoss _)
  split
  · exact (SameHoldings.enterHold _ s).trans (.handWheelLoss _)
  · exact .enterParked s

theorem driveAtWindow (d : Drive) (s : State) : SameHoldings s (driveAtWindow d s) := by
  cases d with
  | tripped => exact records s s.torque rfl
  | starting =>
    unfold Machine.driveAtWindow
    dsimp only
    split
    · exact .endStarting s
    · exact .refl s
  | parked => exact .refl s
  | releasing => exact .refl s
  | ready => exact .refl s
  | hold => exact .refl s

theorem evaluateAssist (s : State) : SameHoldings s (evaluateAssist s) := by
  rw [evaluateAssist_eq]; exact ⟨rfl, rfl, rfl, rfl, rfl⟩

/-! ### Hand-overs to the Limit Table and the links (R9, R187) -/

theorem updateGov (us : List (Gov × Option Nat)) (s : State) : SameHoldings s (updateGov us s) := by
  rw [updateGov_keeps]; exact ⟨rfl, rfl, rfl, rfl, rfl⟩

theorem raiseIf (b : Bool) (c : Attention) (s : State) : SameHoldings s (raiseIf b c s) := by
  rw [raiseIf_eq]; exact ⟨rfl, rfl, rfl, rfl, rfl⟩

end SameHoldings

/-! ### Requests -/

section
variable (s : State) (a : Owner)

theorem placeWork_holdings (kind scope seg im : Byte) (v l : Half) :
    SameHoldings s (placeWork kind scope v seg l im a s).1 := by
  unfold placeWork placeRecord
  (repeat' split) <;> exact ⟨rfl, rfl, rfl, rfl, rfl⟩

theorem amendWork_holdings (slot gen act : Byte) (v l : Half) :
    SameHoldings s (amendWork slot gen v act l a s).1 := by
  unfold amendWork
  split
  · exact .refl s
  · exact .refl s
  split
  · exact .refl s
  split
  · exact .refl s
  split
  · exact .refl s
  split
  · exact .refl s
  · dsimp only
    rw [amendRecord_frame]
    exact ⟨rfl, rfl, rfl, rfl, rfl⟩

theorem renewWork_holdings (slot gen : Byte) : SameHoldings s (renewWork slot gen a s).1 := by
  unfold renewWork
  (repeat' split) <;> exact ⟨rfl, rfl, rfl, rfl, rfl⟩

theorem retireWork_holdings (slot gen : Byte) : SameHoldings s (retireWork slot gen a s).1 := by
  unfold retireWork
  (repeat' split) <;> exact ⟨rfl, rfl, rfl, rfl, rfl⟩

theorem retireOwnerWork_holdings (owner : Byte) : SameHoldings s (retireOwnerWork owner a s).1 := by
  unfold retireOwnerWork
  dsimp only
  (repeat' split) <;> exact ⟨rfl, rfl, rfl, rfl, rfl⟩

theorem loadSegmentWork_holdings (id cls : Byte) (grade rr : Half) :
    SameHoldings s (loadSegmentWork id grade rr cls a s).1 := by
  unfold loadSegmentWork
  (repeat' split) <;> exact ⟨rfl, rfl, rfl, rfl, rfl⟩

theorem amendSegmentWork_holdings (id cls : Byte) (grade rr : Half) :
    SameHoldings s (amendSegmentWork id grade rr cls a s).1 := by
  unfold amendSegmentWork amendSegmentState
  dsimp only
  (repeat' split) <;> exact ⟨rfl, rfl, rfl, rfl, rfl⟩

theorem retireSegmentWork_holdings (id : Byte) : SameHoldings s (retireSegmentWork id a s).1 := by
  unfold retireSegmentWork
  (repeat' split) <;> exact ⟨rfl, rfl, rfl, rfl, rfl⟩

theorem enterSegmentWork_holdings (id hd : Byte) : SameHoldings s (enterSegmentWork id hd a s).1 := by
  unfold enterSegmentWork enterSegmentState
  dsimp only
  (repeat' split) <;> exact ⟨rfl, rfl, rfl, rfl, rfl⟩

theorem leaveSegmentWork_holdings : SameHoldings s (leaveSegmentWork a s).1 := by
  unfold leaveSegmentWork
  split <;> exact ⟨rfl, rfl, rfl, rfl, rfl⟩

theorem speedFixWork_holdings (v q : Half) : SameHoldings s (speedFixWork v q a s).1 := by
  unfold speedFixWork; split <;> exact ⟨rfl, rfl, rfl, rfl, rfl⟩

theorem selectWork_holdings (b : Byte) : SameHoldings s (selectWork b a s).1 := by
  unfold selectWork
  dsimp only
  (repeat' split) <;> exact ⟨rfl, rfl, rfl, rfl, rfl⟩

theorem lockWork_holdings : SameHoldings s (lockWork a s).1 := by
  unfold lockWork; dsimp only; split <;> exact ⟨rfl, rfl, rfl, rfl, rfl⟩

theorem setDemandWork_holdings (d st : Half) (b : Byte) :
    SameHoldings s (setDemandWork d st b a s).1 := by
  unfold setDemandWork demandTaken
  dsimp only
  (repeat' split) <;> exact ⟨rfl, rfl, rfl, rfl, rfl⟩

theorem parkWork_holdings : SameHoldings s (parkWork a s).1 := by
  unfold parkWork
  split
  · exact .refl s
  split
  · exact .refl s
  split
  · exact .refl s
  · show SameHoldings s (parkState s)
    unfold parkState
    split
    · exact .refl s
    · exact .enter_with _ s rfl
    · exact .enterParked s
    · exact .enterParked s
    · exact .refl s
    · exact .refl s

theorem unparkWork_holdings : SameHoldings s (unparkWork a s).1 := by
  unfold unparkWork
  (repeat' split) <;> [exact .refl s; exact .refl s; exact .refl s; exact .refl s;
    exact .enter_with .releasing s rfl]

theorem clearHoldWork_holdings : SameHoldings s (clearHoldWork a s).1 := by
  unfold clearHoldWork
  (repeat' split) <;> [exact .refl s; exact .refl s; exact .refl s; exact .refl s;
    exact .enter_with .ready s rfl]

theorem safetyHoldWork_holdings : SameHoldings s (safetyHoldWork a s).1 := by
  unfold safetyHoldWork
  split
  · exact .handHold rfl
  · exact .refl s

theorem resetTripWork_holdings : SameHoldings s (resetTripWork a s).1 := by
  unfold resetTripWork
  (repeat' split) <;> [exact .refl s; exact .refl s; exact .refl s; exact .enterParked s]

theorem setModeWork_holdings (m : Byte) : SameHoldings s (setModeWork m a s).1 := by
  unfold setModeWork
  (repeat' split) <;> exact ⟨rfl, rfl, rfl, rfl, rfl⟩

theorem clearAttentionWork_holdings (l : Link) (c : Half) :
    SameHoldings s (clearAttentionWork l c a s).1 := by
  unfold clearAttentionWork; split <;> exact ⟨rfl, rfl, rfl, rfl, rfl⟩

theorem setMaskWork_holdings (l : Link) (c : Half) : SameHoldings s (setMaskWork l c a s).1 := by
  unfold setMaskWork; split <;> exact ⟨rfl, rfl, rfl, rfl, rfl⟩

/-! ### Periodic steps and inputs -/

theorem leaseStepState_holdings : SameHoldings s (leaseStepState s) := by
  unfold leaseStepState
  dsimp only
  split <;> exact ⟨rfl, rfl, rfl, rfl, rfl⟩

theorem windowState_holdings (i : WindowIn) : SameHoldings s (windowState i s) := by
  have selected : SameHoldings s (windowSelected i s) :=
    .trans (t := { s with speed := unitSelected i s }) ⟨rfl, rfl, rfl, rfl, rfl⟩
      ((SameHoldings.updateGov _ _).trans (.raiseIf _ _ _))
  have handed : SameHoldings (windowSelected i s) (windowHanded i s) := by
    rw [windowHanded_eq]
    split
    · exact .handTrip _ _
    · exact .refl _
  exact .trans ((selected.trans handed).trans (.driveAtWindow _ _)) ⟨rfl, rfl, rfl, rfl, rfl⟩

theorem leaseCounted_holdings : SameHoldings s (leaseCounted s) := by
  unfold leaseCounted
  split
  · exact .trans (.records s _ rfl) (.handHold rfl)
  · split
    · exact .records s _ rfl
    · exact .refl s

theorem silenceCounted_holdings : SameHoldings s (silenceCounted s) := by
  have silenced : SameHoldings s (silencedState s) := .records s _ rfl
  rw [silenceCounted_eq]
  split
  · exact silenced.trans (.handWheelLoss _)
  · exact silenced

theorem handOver_holdings : SameHoldings s (handOver s) := ⟨rfl, rfl, rfl, rfl, rfl⟩

theorem commandStepState_holdings : SameHoldings s (commandStepState s) :=
  (((leaseCounted_holdings s).trans (silenceCounted_holdings _)).trans (handOver_holdings _)).trans
    (.evaluateAssist _)

theorem inverterMessageState_holdings (w : Wheel) (n : Nat) (f : Bool) :
    SameHoldings s (inverterMessageState w n f s) := by
  have reported : SameHoldings s (reportedState w n f s) := ⟨rfl, rfl, rfl, rfl, rfl⟩
  rw [inverterMessageState_eq]
  split
  · exact reported.trans (.handWheelLoss _)
  · exact reported

theorem releasedState_holdings : SameHoldings s (releasedState s) := by
  unfold releasedState
  dsimp only
  refine .trans ?_ (.handWheelLoss _)
  split <;> exact .enter_with _ s rfl

theorem brakeInputState_holdings (b : Bool) : SameHoldings s (brakeInputState b s) := by
  have read : SameHoldings s { s with drive := { s.drive with brakeReleased := b } } :=
    .records s s.torque rfl
  unfold brakeInputState
  split
  · exact .refl s
  dsimp only
  split
  · exact read.trans (releasedState_holdings _)
  · exact read

theorem releaseTimeoutState_holdings : SameHoldings s (releaseTimeoutState s) := by
  unfold releaseTimeoutState
  split
  · exact .enter_with _ s rfl
  · exact .refl s

theorem releaseTick_holdings : SameHoldings s (releaseTick s) := by
  unfold releaseTick
  split
  · exact .refl s
  split
  · exact releaseTimeoutState_holdings s
  · exact .records s s.torque rfl

end

end Sys2Proof.Machine
end

section
/-! The commands that change grids, curve, sweep, payload monitor, parameters or conditions, and what every
command keeps of them (O60). -/

namespace Sys2Proof.Machine

/-! ### Grids (R111, R114 to R118, R122, R137) -/

namespace Grid

/-- The fault counter of a fitted grid is 5 exactly in FAULT (R111). -/
def Counts (g : Grid) : Prop := g.faults ≤ 5 ∧ (g.state = .fault ↔ g.faults = 5)

theorem faultTested_counts {g : Grid} (h : g.state = .ready) : g.faultTested.Counts := by
  rcases g.faultTested_cases with ⟨-, e⟩ | ⟨-, -, hf, e⟩ | ⟨-, -, -, e⟩ <;> rw [e]
  · simp [Counts, h]
  · refine ⟨by dsimp only; omega, ?_⟩
    simp only [h, reduceCtorEq, false_iff]
    omega
  · exact ⟨Nat.le_refl 5, fun _ => rfl, fun _ => rfl⟩

theorem checked_counts {i : GridIn} {g : Grid} (hs : g.state ≠ .off) (h : g.Counts) :
    (g.checked i).Counts := by
  cases hc : g.state with
  | off => exact absurd hc hs
  | ready => rw [checked_ready i hc]; exact faultTested_counts hc
  | fault => rw [checked_fault i hc]; exact h

/-- A grid in order stays so through stages 1 to 5. -/
theorem stepped_inOrder (s : State) (pcap preq : Nat) (i : GridIn) {g : Grid} (h : g.InOrder) :
    (g.stepped s pcap preq i).InOrder := by
  obtain ⟨htheta, -, -, hle, hfit, hoff⟩ := h
  by_cases hs : g.state = .off
  · rw [stepped_off s pcap preq i hs]
    exact ⟨htheta, Nat.le_refl 0, Nat.zero_le _, hle, fun hn => absurd hs hn,
      fun _ => ⟨(hoff hs).1, rfl, rfl, rfl⟩⟩
  have frame := stepped_frame s pcap preq i g
  have state : (g.stepped s pcap preq i).state = (g.checked i).state := by rw [frame]
  have faults : (g.stepped s pcap preq i).faults = (g.checked i).faults := by rw [frame]
  obtain ⟨-, -, -, hstill⟩ := checked_fitted i hs
  have counts : (g.checked i).Counts := checked_counts hs ⟨hle, hfit hs⟩
  rw [Counts, ← state, ← faults] at counts
  rw [← state] at hstill
  refine ⟨?_, ?_, ?_, counts.1, fun _ => counts.2, fun hoff => absurd hoff hstill⟩
  · rw [stepped_theta, if_neg hstill]; exact Nat.min_le_left _ _
  · rw [stepped_alloc]
    split
    · exact Nat.zero_le _
    · exact Nat.min_le_left _ _
  · rw [stepped_duty]; exact Nat.min_le_left _ _

theorem cleared_inOrder (named : Bool) {g : Grid} (h : g.InOrder) : (g.cleared named).InOrder := by
  unfold cleared
  split
  · obtain ⟨htheta, halloc, hduty, -, -, -⟩ := h
    exact ⟨htheta, halloc, hduty, Nat.zero_le _, fun _ => by simp, fun hoff => by cases hoff⟩
  · exact h

theorem cleared_cap (named : Bool) (g : Grid) : (g.cleared named).cap = g.cap := by
  unfold cleared; split <;> rfl

theorem cleared_alloc (named : Bool) (g : Grid) : (g.cleared named).alloc = g.alloc := by
  unfold cleared; split <;> rfl

theorem warm_inOrder {g : Grid} (h : g.InOrder) : g.warm.InOrder := by
  obtain ⟨htheta, -, -, -, -, hoff⟩ := h
  refine ⟨htheta, Nat.zero_le _, Nat.zero_le _, ?_, fun _ => ?_, fun hs => ⟨(hoff hs).1, (hoff hs).2.1,
    rfl, rfl⟩⟩
  · unfold warm; dsimp only; split <;> omega
  · unfold warm; dsimp only; split <;> simp [*]

end Grid

/-- Shares of a demand by capacity, each rounded down, add up to no more than the demand (R117). -/
theorem shares_le {preq pcap c1 c2 c3 c4 : Nat} (h : pcap = c1 + c2 + c3 + c4) :
    preq * c1 / pcap + preq * c2 / pcap + preq * c3 / pcap + preq * c4 / pcap ≤ preq := by
  have h2 : preq * c1 / pcap + preq * c2 / pcap ≤ (preq * c1 + preq * c2) / pcap :=
    Nat.div_add_div_le_add_div
  have h3 : (preq * c1 + preq * c2) / pcap + preq * c3 / pcap ≤
      (preq * c1 + preq * c2 + preq * c3) / pcap := Nat.div_add_div_le_add_div
  have h4 : (preq * c1 + preq * c2 + preq * c3) / pcap + preq * c4 / pcap ≤
      (preq * c1 + preq * c2 + preq * c3 + preq * c4) / pcap := Nat.div_add_div_le_add_div
  calc preq * c1 / pcap + preq * c2 / pcap + preq * c3 / pcap + preq * c4 / pcap
      ≤ (preq * c1 + preq * c2 + preq * c3 + preq * c4) / pcap := by omega
    _ = preq * pcap / pcap := by simp only [h, Nat.mul_add]
    _ ≤ preq := Nat.div_le_of_le_mul (Nat.le_of_eq (Nat.mul_comm _ _))

theorem four_sum_map_le {α : Type} {f g : α → Nat} {x : Four α}
    (h : ∀ n, f (x.get n) ≤ g (x.get n)) : (x.map f).sum ≤ (x.map g).sum :=
  Nat.add_le_add (Nat.add_le_add (Nat.add_le_add (h .g1) (h .g2)) (h .g3)) (h .g4)

/-- Allocations that are each within a capacity and a share of the demand keep R117. -/
theorem allocations_le {u : RetardUnit} (hpcap : u.pcap = (u.grids.map Grid.cap).sum)
    (hcap : ∀ n, (u.grids.get n).alloc ≤ (u.grids.get n).cap)
    (hshare : ∀ n, (u.grids.get n).alloc ≤ u.preq * (u.grids.get n).cap / u.pcap) :
    (u.grids.map Grid.alloc).sum ≤ u.preq ∧ (u.grids.map Grid.alloc).sum ≤ u.pcap :=
  ⟨(four_sum_map_le (g := fun x => u.preq * x.cap / u.pcap) hshare).trans (shares_le hpcap),
    (four_sum_map_le hcap).trans (Nat.le_of_eq hpcap.symm)⟩

theorem capacityStepState_gridsInOrder (i : CapacityIn) {s : State} (h : GridsInOrder s) :
    GridsInOrder (capacityStepState i s) := by
  obtain ⟨before, -⟩ := h
  have order (n : GridNo) : ((capacityStepState i s).retard.grids.get n).InOrder := by
    rw [capacityStepState_grid]; exact Grid.stepped_inOrder _ _ _ _ (before n)
  have pcap := capacityStepState_pcap i s
  have within (n : GridNo) : ((capacityStepState i s).retard.grids.get n).alloc ≤
      ((capacityStepState i s).retard.grids.get n).cap := by
    obtain ⟨-, le, -⟩ := order n
    exact le
  refine ⟨order, pcap, allocations_le pcap within fun n => ?_⟩
  rw [capacityStepState_grid, Grid.stepped_alloc]
  split
  · exact Nat.zero_le _
  · exact Nat.min_le_right _ _

theorem clearGridWork_gridsInOrder (grid : Byte) (a : Owner) {s : State} (h : GridsInOrder s) :
    GridsInOrder (clearGridWork grid a s).1 := by
  obtain ⟨order, pcap, demand, capacity⟩ := h
  unfold clearGridWork
  split
  · exact ⟨order, pcap, demand, capacity⟩
  split
  · exact ⟨order, pcap, demand, capacity⟩
  · next named _ _ =>
    have caps : (Four.zip Grid.cleared named s.retard.grids).map Grid.cap =
        s.retard.grids.map Grid.cap := by
      simp only [Four.map, Four.zip, Grid.cleared_cap]
    have allocs : (Four.zip Grid.cleared named s.retard.grids).map Grid.alloc =
        s.retard.grids.map Grid.alloc := by
      simp only [Four.map, Four.zip, Grid.cleared_alloc]
    refine ⟨fun n => ?_, pcap.trans (congrArg Four.sum caps.symm), ?_, ?_⟩
    · rw [four_zip_get]; exact Grid.cleared_inOrder _ (order n)
    · rw [allocs]; exact demand
    · rw [allocs]; exact capacity

theorem warmRestart_gridsInOrder {s : State} (h : GridsInOrder s) : GridsInOrder (warmRestart s) := by
  obtain ⟨order, pcap, -, -⟩ := h
  rw [warmRestart_eq]
  refine ⟨fun n => ?_, pcap, Nat.zero_le _, Nat.zero_le _⟩
  have e : (s.retard.grids.map Grid.warm).get n = (s.retard.grids.get n).warm := by cases n <;> rfl
  exact e ▸ Grid.warm_inOrder (order n)

/-! ### Steer curve (R141, R151) -/

/-- What SET_STEER_POINT's third check gives: the first point at speed 0, and the order with both neighbours
(R151). -/
theorem pointFits_order {c : Vector CurvePoint 8} {k rated : Nat} {p : CurvePoint}
    (h : pointFits c k p rated = true) : (k = 0 → p.speed = 0) ∧
      (∀ i : Fin 8, i.val + 1 = k → (c.get i).speed < p.speed ∧ p.angle ≤ (c.get i).angle) ∧
      (∀ i : Fin 8, i.val = k + 1 → p.speed < (c.get i).speed ∧ (c.get i).angle ≤ p.angle) := by
  simp only [pointFits, Bool.and_eq_true, Bool.or_eq_true, bne_iff_ne, beq_iff_eq, ne_eq,
    decide_eq_true_eq] at h
  obtain ⟨⟨⟨first, before⟩, after⟩, -⟩ := h
  have listed (i : Fin 8) : c.toList[i.val]? = some (c.get i) := by simp [Vector.get]
  refine ⟨fun hk => first.resolve_left fun hn => hn hk, fun i hi => ?_, fun i hi => ?_⟩
  · have := before.resolve_left (by omega)
    rw [show k - 1 = i.val by omega, listed] at this
    simpa using this
  · rw [← hi, listed] at after
    simpa using after

theorem curveInOrder_set {c : Vector CurvePoint 8} {k rated : Nat} {p : CurvePoint} (hk : k < 8)
    (h : CurveInOrder c) (hs : p.speed ≤ 640) (ha : p.angle ≤ 450)
    (hp : pointFits c k p rated = true) : CurveInOrder (c.set k p) := by
  obtain ⟨zero, range, order⟩ := h
  obtain ⟨first, before, after⟩ := pointFits_order hp
  have placed (i : Fin 8) : (c.set k p).get i = if k = i.val then p else c.get i :=
    Vector.getElem_set hk i.isLt
  refine ⟨?_, fun i => ?_, fun i j hij => ?_⟩
  · rw [placed]
    split
    · next h0 => exact first h0
    · exact zero
  · rw [placed]
    split
    · exact ⟨hs, ha⟩
    · exact range i
  · have below (i : Fin 8) (hi : i.val < k) :
        (c.get i).speed < p.speed ∧ p.angle ≤ (c.get i).angle := by
      by_cases he : i.val + 1 = k
      · exact before i he
      · obtain ⟨s1, a1⟩ := before ⟨k - 1, by omega⟩ (by dsimp only; omega)
        obtain ⟨s2, a2⟩ := order i ⟨k - 1, by omega⟩ (Fin.lt_def.2 (by dsimp only; omega))
        exact ⟨s2.trans s1, a1.trans a2⟩
    have above (j : Fin 8) (hj : k < j.val) :
        p.speed < (c.get j).speed ∧ (c.get j).angle ≤ p.angle := by
      by_cases he : j.val = k + 1
      · exact after j he
      · obtain ⟨s1, a1⟩ := after ⟨k + 1, by omega⟩ rfl
        obtain ⟨s2, a2⟩ := order ⟨k + 1, by omega⟩ j (Fin.lt_def.2 (by dsimp only; omega))
        exact ⟨s1.trans s2, a2.trans a1⟩
    have lt : i.val < j.val := hij
    rw [placed, placed]
    by_cases hi : k = i.val
    · rw [if_pos hi, if_neg (by omega)]; exact above j (by omega)
    · rw [if_neg hi]
      split
      · exact below i (by omega)
      · exact order i j hij

/-! ### Payload monitor (R156 to R165) -/

theorem classOfRatio_ne_none (r : Nat) : classOfRatio r ≠ .none := by
  unfold classOfRatio
  (repeat' split) <;> simp

theorem heatAfter_le (h : Nat) (x : Vector Int 10) (cont gain : Nat) :
    heatAfter h x cont gain ≤ 12000 := by
  unfold heatAfter clampInt
  dsimp only
  omega

namespace LoadMon

/-- What R156 says of the samples alone. -/
def Sampled (l : List Nat) : Prop := l.length ≤ 16 ∧ ∀ x, x ∈ l → x ≤ 30000

theorem sampled_nil : Sampled [] := ⟨Nat.zero_le _, nofun⟩

theorem sampled_joined {l : List Nat} {x : Nat} (h : Sampled l) (hx : x ≤ 30000) :
    Sampled (joined l x) :=
  ⟨joined_length_le h.1, fun y hy => (mem_joined hy).elim (h.2 y) fun e => e ▸ hx⟩

/-- What R156 says of the tare, the low-speed count and the heat indexes. -/
structure Ranged (m : LoadMon) : Prop where
  tare : m.tare ≤ 30000
  low : m.lowSpeed ≤ 30
  left : m.heat.left ≤ 12000
  right : m.heat.right ≤ 12000

theorem inOrder_iff {m : LoadMon} : m.InOrder ↔ Sampled m.samples ∧ m.Ranged ∧ m.value ≤ 4000 ∧
    (m.state = .invalid → m.samples = []) ∧ (m.state ≠ .invalid → m.cls ≠ .none) :=
  ⟨fun ⟨len, bound, tare, value, low, left, right, empty, cls⟩ =>
      ⟨⟨len, bound⟩, ⟨tare, low, left, right⟩, value, empty, cls⟩,
    fun ⟨⟨len, bound⟩, ⟨tare, low, left, right⟩, value, empty, cls⟩ =>
      ⟨len, bound, tare, value, low, left, right, empty, cls⟩⟩

/-- A sample taken in any state but INVALID leaves the monitor in order (R159). -/
theorem taking_inOrder {m : LoadMon} {l : List Nat} {x : Nat} (rated : Nat) (h : m.Ranged)
    (hs : m.state ≠ .invalid) (hl : Sampled l) (hx : x ≤ 30000) : (m.taking l x rated).InOrder :=
  inOrder_iff.2 ⟨sampled_joined hl hx, ⟨h.tare, h.low, h.left, h.right⟩, Nat.min_le_left _ _,
    fun hn => absurd hn hs, fun _ => classOfRatio_ne_none _⟩

section
variable {m : LoadMon} {x : Nat} (rated : Nat) (stand : Bool) (h : m.InOrder) (hx : x ≤ 30000)
include h hx

theorem measuring_inOrder (good : Bool) (hs : m.state = .measuring) :
    (m.measuring stand good x rated).InOrder := by
  obtain ⟨sampled, ⟨tare, low, left, right⟩, value, -, cls⟩ := inOrder_iff.1 h
  have ne : m.state ≠ .invalid := by simp [hs]
  unfold measuring
  split
  · exact inOrder_iff.2 ⟨sampled, ⟨tare, Nat.zero_le _, left, right⟩, value, nofun, fun _ => cls ne⟩
  split
  · exact taking_inOrder rated ⟨tare, low, left, right⟩ ne sampled hx
  · exact inOrder_iff.2 ⟨sampled_nil, ⟨tare, low, left, right⟩, value, fun _ => rfl,
      fun hn => absurd rfl hn⟩

theorem latched_inOrder : (m.latched stand x rated).InOrder := by
  obtain ⟨sampled, ⟨tare, low, left, right⟩, value, empty, cls⟩ := inOrder_iff.1 h
  unfold latched
  split
  · exact inOrder_iff.2 ⟨sampled, ⟨tare, Nat.zero_le _, left, right⟩, value, empty, cls⟩
  split
  · split
    · exact inOrder_iff.2 ⟨sampled_nil, ⟨tare, Nat.le_refl 30, left, right⟩, value, fun _ => rfl,
        fun hn => absurd rfl hn⟩
    · exact taking_inOrder rated ⟨tare, Nat.le_refl 30, left, right⟩ nofun sampled_nil hx
  · next hlow =>
    exact inOrder_iff.2 ⟨sampled, ⟨tare, by dsimp only; omega, left, right⟩, value, empty, cls⟩

theorem invalid_inOrder (good : Bool) : (m.invalid stand good x rated).InOrder := by
  obtain ⟨sampled, ⟨tare, low, left, right⟩, -, -, -⟩ := inOrder_iff.1 h
  unfold invalid
  split
  · exact taking_inOrder rated ⟨tare, low, left, right⟩ nofun sampled hx
  · exact h

end

/-- The monitor with its samples emptied (R167). -/
theorem emptied_inOrder {m : LoadMon} (h : m.InOrder) : { m with samples := [] }.InOrder := by
  obtain ⟨-, ⟨tare, low, left, right⟩, value, -, cls⟩ := inOrder_iff.1 h
  exact inOrder_iff.2 ⟨sampled_nil, ⟨tare, low, left, right⟩, value, fun _ => rfl, cls⟩

/-- A warm restart empties the samples and the low-speed count (R169). -/
theorem warm_inOrder {m : LoadMon} (h : m.InOrder) : m.warm.InOrder := by
  obtain ⟨-, ⟨tare, -, left, right⟩, value, -, cls⟩ := inOrder_iff.1 h
  exact inOrder_iff.2 ⟨sampled_nil, ⟨tare, Nat.zero_le _, left, right⟩, value, fun _ => rfl, cls⟩

/-- A tare taken from samples within R156's range lies within it (R164). -/
theorem tared_inOrder {m : LoadMon} (h : m.InOrder) : { m with tare := meanOf m.samples }.InOrder := by
  obtain ⟨sampled, ⟨-, low, left, right⟩, value, empty, cls⟩ := inOrder_iff.1 h
  exact inOrder_iff.2 ⟨sampled, ⟨meanOf_le sampled.2, low, left, right⟩, value, empty, cls⟩

end LoadMon

/-- Stages 1 and 2 of a load window, by the payload state before it (R158, R160 to R162). -/
theorem payloadStage_inOrder (p : Four Nat) {s : State} (h : s.load.InOrder) :
    (payloadStage p s).InOrder := by
  have read : { s.load with
      struts := p, strutFault := s.load.strutFault || !strutsGood p }.InOrder := h
  have hx := sprungOf_le p (s.param .strutArea)
  unfold payloadStage
  dsimp only
  split
  · next hs => exact LoadMon.measuring_inOrder _ _ read hx _ hs
  · exact LoadMon.latched_inOrder _ _ read hx
  · exact LoadMon.invalid_inOrder _ _ read hx _

theorem loadUnit_inOrder (p : Four Nat) {s : State} (h : s.load.InOrder) :
    (loadUnit p s).InOrder := by
  obtain ⟨sampled, ⟨tare, low, -, -⟩, value, empty, cls⟩ :=
    LoadMon.inOrder_iff.1 (payloadStage_inOrder p h)
  exact LoadMon.inOrder_iff.2
    ⟨sampled, ⟨tare, low, heatAfter_le _ _ _ _, heatAfter_le _ _ _ _⟩, value, empty, cls⟩

/-! ### Sweep (R131, R133, R134) -/

/-- The sweep after an entry, a RUNNING one below its last index or the last. -/
theorem sweepEntryState_inOrder {s : State} (h : s.retard.sweep.InOrder) :
    (sweepEntryState s).retard.sweep.InOrder := by
  unfold sweepEntryState
  split
  · exact h
  · exact h
  · next j t hr =>
    rw [hr] at h
    have lt : t.length < 64 := h
    dsimp only
    split
    · next hle =>
      rw [List.length_append, List.length_singleton] at hle
      exact ⟨by rw [List.length_append, List.length_singleton]; omega, by decide⟩
    · next hle => exact Nat.lt_of_not_le hle

theorem readSweepWork_inOrder (a : Owner) {s : State} (h : s.retard.sweep.InOrder) :
    (readSweepWork a s).1.retard.sweep.InOrder := by
  unfold readSweepWork
  split
  · exact h
  · exact h
  · next j t c hr =>
    rw [hr] at h
    exact ⟨h.1, Nat.mod_lt _ (by decide)⟩

end Sys2Proof.Machine
end

section
/-! Every step keeps the holdings in order (O60). -/

namespace Sys2Proof.Machine

/-- Every parameter lies in its range (R190). -/
def ParamsInRange (s : State) : Prop := ∀ p : Param, p.range.1 ≤ s.param p ∧ s.param p ≤ p.range.2

/-- The command keeps each of the holdings in order. -/
structure KeepsHoldings (s t : State) : Prop where
  conditions : ConditionsFollow s → ConditionsFollow t
  grids : GridsInOrder s → GridsInOrder t
  params : ParamsInRange s → ParamsInRange t
  curve : CurveInOrder s.steer.curve → CurveInOrder t.steer.curve
  sweep : s.retard.sweep.InOrder → t.retard.sweep.InOrder
  load : s.load.InOrder → t.load.InOrder

namespace KeepsHoldings

variable {s t u : State}

theorem refl (s : State) : KeepsHoldings s s := ⟨id, id, id, id, id, id⟩

theorem trans (h : KeepsHoldings s t) (g : KeepsHoldings t u) : KeepsHoldings s u :=
  ⟨g.conditions ∘ h.conditions, g.grids ∘ h.grids, g.params ∘ h.params, g.curve ∘ h.curve,
    g.sweep ∘ h.sweep, g.load ∘ h.load⟩

theorem same (h : SameHoldings s t) : KeepsHoldings s t := by
  obtain ⟨params, steer, load, conditions, retard⟩ := h
  refine ⟨?_, ?_, ?_, ?_, ?_, ?_⟩
  · unfold ConditionsFollow; rw [conditions, steer]; exact id
  · unfold GridsInOrder; rw [retard]; exact id
  · unfold ParamsInRange State.param; rw [params]; exact id
  · rw [steer]; exact id
  · rw [retard]; exact id
  · rw [load]; exact id

/-- A change of the Retard Unit alone. -/
theorem retard {x : RetardUnit} (hg : GridsInOrder s → GridsInOrder { s with retard := x })
    (hs : s.retard.sweep.InOrder → x.sweep.InOrder) : KeepsHoldings s { s with retard := x } :=
  ⟨id, hg, id, id, hs, id⟩

/-- A change of the payload monitor alone. -/
theorem monitor {x : LoadMon} (h : s.load.InOrder → x.InOrder) : KeepsHoldings s { s with load := x } :=
  ⟨id, id, id, id, id, h⟩

/-- A request keeps what its work keeps: its answer touches the link alone. -/
theorem request {h : Hdr} {code : Byte} {allowed : Owner → Bool} {work : Owner → State → State × Reply}
    (hw : ∀ a, KeepsHoldings s (work a s).1) : KeepsHoldings s (takeRequest h code allowed work s) := by
  have answered {t : State} (a : Answer) (k : KeepsHoldings s t) :
      KeepsHoldings s (t.exchanged h.link a) := k.trans (.same ⟨rfl, rfl, rfl, rfl, rfl⟩)
  rcases takeRequest_cases h code allowed work s with e | ⟨a, -, -, e⟩ <;> rw [e]
  · exact answered _ (.refl s)
  · exact answered _ (hw a)

/-- An event inside a periodic step keeps what the step keeps. -/
theorem event {e : State → State → Bool} {f : State → State} (hf : KeepsHoldings s (f s)) :
    KeepsHoldings s (whenItComesAbout e f s) := whenItComesAbout_keeps (.refl s) hf

end KeepsHoldings

/-! ### Requests -/

section
variable (s : State) (a : Owner)

theorem clearGridWork_keepsHoldings (grid : Byte) : KeepsHoldings s (clearGridWork grid a s).1 := by
  have grids := clearGridWork_gridsInOrder grid a (s := s)
  have frame : (clearGridWork grid a s).1 = { s with
      retard := { s.retard with grids := (clearGridWork grid a s).1.retard.grids } } := by
    unfold clearGridWork; (repeat' split) <;> rfl
  rw [frame] at grids ⊢
  exact .retard grids id

theorem startSweepWork_keepsHoldings (l : Link) (g0 gs m0 ms : Half) :
    KeepsHoldings s (startSweepWork l g0 gs m0 ms a s).1 := by
  unfold startSweepWork
  split
  · exact .refl s
  split
  · exact .refl s
  · exact .retard id fun _ => Nat.zero_lt_succ 63

theorem readSweepWork_keepsHoldings : KeepsHoldings s (readSweepWork a s).1 := by
  have sweep := readSweepWork_inOrder a (s := s)
  have frame : (readSweepWork a s).1 = { s with
      retard := { s.retard with sweep := (readSweepWork a s).1.retard.sweep } } := by
    unfold readSweepWork; split <;> rfl
  rw [frame]
  exact .retard id sweep

theorem setPointWork_keepsHoldings (k : Byte) (v x : Half) :
    KeepsHoldings s (setPointWork k v x a s).1 := by
  unfold setPointWork
  split
  · next hk =>
    split
    · exact .refl s
    next hr =>
    split
    · exact .refl s
    dsimp only
    split
    · exact .refl s
    next hp =>
    rw [not_or, Nat.not_lt, Nat.not_lt] at hr
    obtain ⟨speed, angle⟩ := hr
    exact ⟨id, id, id, fun hc => curveInOrder_set hk hc speed angle (by simpa using hp), id, id⟩
  · exact .refl s

theorem tareWork_keepsHoldings : KeepsHoldings s (tareWork a s).1 := by
  unfold tareWork
  split
  · exact .refl s
  split
  · exact .refl s
  · exact .monitor LoadMon.tared_inOrder

/-- The payload monitor after a SET_PARAM: as it was, or with its samples emptied (R167). -/
theorem setParamState_loadInOrder (p : Param) (v : Nat) {s : State} (h : s.load.InOrder) :
    (setParamState p v s).load.InOrder := by
  by_cases hv : s.param p = v
  · rw [setParamState_same hv]; exact h
  by_cases hp : p = .strutArea
  · rw [setParamState_changed hv, hp]; exact LoadMon.emptied_inOrder h
  · obtain ⟨-, -, load⟩ := setParamState_untouched p v s
    rw [load hp]; exact h

theorem setParamWork_keepsHoldings (index : Byte) (value : Half) :
    KeepsHoldings s (setParamWork index value a s).1 := by
  unfold setParamWork
  split
  · exact .refl s
  next p _ =>
  split
  · exact .refl s
  split
  · exact .refl s
  next hr =>
  have frame := setParamState_frame p value.toNat s
  have load := setParamState_loadInOrder p value.toNat (s := s)
  refine ⟨?_, ?_, fun hs q => ?_, ?_, ?_, load⟩
  · dsimp only; rw [frame]; exact id
  · dsimp only; rw [frame]; exact id
  · rw [setParamState_param]
    split
    · next hq => subst hq; omega
    · exact hs q
  · dsimp only; rw [frame]; exact id
  · dsimp only; rw [frame]; exact id

/-! ### Periodic steps -/

theorem capacityStepState_keepsHoldings (i : CapacityIn) :
    KeepsHoldings s (capacityStepState i s) := by
  have conditions : (capacityStepState i s).drive.conditions = s.drive.conditions := by
    cases h : overvoltFound i s with
    | false => rw [(capacityStepState_kept h).1]
    | true =>
      obtain ⟨u, drive, -, e⟩ := capacityStepState_trips h
      rw [e, handTrip_conditions, drive]
  have frame := capacityStepState_frame i s
  refine ⟨fun hs => ?_, capacityStepState_gridsInOrder i, ?_, ?_, ?_, ?_⟩
  · unfold ConditionsFollow
    rw [conditions, frame]
    exact hs
  · rw [frame]; exact id
  · rw [frame]; exact id
  · rw [capacityStepState_retard]; exact id
  · rw [frame]; exact id

theorem sweepEntryState_keepsHoldings : KeepsHoldings s (sweepEntryState s) := by
  refine ⟨?_, ?_, ?_, ?_, sweepEntryState_inOrder, ?_⟩ <;> unfold sweepEntryState <;> dsimp only <;>
    (repeat' split) <;> exact id

theorem loadWindowState_keepsHoldings (p : Four Nat) : KeepsHoldings s (loadWindowState p s) :=
  .trans (.monitor (loadUnit_inOrder p)) (.same ((SameHoldings.updateGov _ _).trans (.raiseIf _ _ _)))

theorem DriveStep.handCondition (c : HoldCause) (before after : Bool) (s : State) :
    DriveStep s (handCondition c before after s) := by
  unfold Machine.handCondition
  split
  · exact .refl s
  split
  · exact .handHold c s
  · exact .of_records s _ s.torque

/-- A condition handed or taken away stands as it was found (R172). -/
theorem handCondition_steerFault {before after : Bool} {s : State}
    (h : s.drive.conditions.steerFault = before) :
    (handCondition .steerFault before after s).drive.conditions =
      { s.drive.conditions with steerFault := after } := by
  unfold handCondition
  split
  · next e => rw [← e, ← h]
  split
  · next ha => rw [handHold_conditions, ha]; rfl
  · next ha => rw [Bool.not_eq_true] at ha; rw [ha]; rfl

theorem handCondition_steerCrit {before after : Bool} {s : State}
    (h : s.drive.conditions.steerCrit = before) :
    (handCondition .steerCrit before after s).drive.conditions =
      { s.drive.conditions with steerCrit := after } := by
  unfold handCondition
  split
  · next e => rw [← e, ← h]
  split
  · next ha => rw [handHold_conditions, ha]; rfl
  · next ha => rw [Bool.not_eq_true] at ha; rw [ha]; rfl

/-- No stage of a steer step touches the curve. -/
theorem steerUnit_curve (i : SteerIn) : (steerUnit i s).curve = s.steer.curve := by
  have tracked (n : Nat) (u : SteerGov) : (u.tracked n).curve = u.curve := by
    unfold SteerGov.tracked SteerGov.recovered SteerGov.watched
    (repeat' split) <;> rfl
  have moved (d : Drive) (x : Option Int) (u : SteerGov) : (u.moved d x).curve = u.curve := by
    unfold SteerGov.moved
    (repeat' split) <;> rfl
  show (SteerGov.moved _ _ _).curve = _
  rw [moved]
  exact tracked _ _

theorem steerStepState_frame (i : SteerIn) : steerStepState i s = { s with
    steer := steerUnit i s
    gov := (steerStepState i s).gov, env := (steerStepState i s).env
    drive := (steerStepState i s).drive, torque := (steerStepState i s).torque
    ports := (steerStepState i s).ports
    retard := { s.retard with
      assist := (steerStepState i s).retard.assist, causes := (steerStepState i s).retard.causes } } := by
  have step : DriveStep (updateGov (steerUpdates i s) { s with steer := steerUnit i s })
      (steerStepState i s) := (DriveStep.handCondition _ _ _ _).trans (.handCondition _ _ _ _)
  rw [step.frame, updateGov_keeps]

/-- The conditions present follow the fault state and the critical flag through a steer step (R172). -/
theorem steerStepState_conditions {s : State} (i : SteerIn) (h : ConditionsFollow s) :
    (steerStepState i s).drive.conditions = ⟨(steerUnit i s).fault, (steerUnit i s).crit⟩ := by
  have same := (SameHoldings.updateGov (steerUpdates i s) { s with steer := steerUnit i s }).conditions
  have fault := handCondition_steerFault (after := (steerUnit i s).fault)
    ((congrArg Conditions.steerFault same).trans h.1)
  have crit := handCondition_steerCrit (after := (steerUnit i s).crit)
    ((congrArg Conditions.steerCrit fault).trans ((congrArg Conditions.steerCrit same).trans h.2))
  exact crit.trans (by rw [fault])

theorem steerStepState_keepsHoldings (i : SteerIn) : KeepsHoldings s (steerStepState i s) := by
  have frame := steerStepState_frame s i
  refine ⟨fun hs => ?_, ?_, ?_, fun hs => ?_, ?_, ?_⟩
  · unfold ConditionsFollow
    rw [steerStepState_conditions i hs, frame]
    exact ⟨rfl, rfl⟩
  · rw [frame]; exact id
  · rw [frame]; exact id
  · rw [frame]; exact (steerUnit_curve s i).symm ▸ hs
  · rw [frame]; exact id
  · rw [frame]; exact id

end

/-! ### Restarts (R25, R26, R181) -/

theorem isCold_keepsHoldings {straps : Straps} {b : Bool} {s t : State} (h : IsCold straps b t) :
    KeepsHoldings s t := by
  obtain ⟨p, q, level, n, l, rfl⟩ := h
  obtain ⟨params, curve, sweep, load⟩ := cold_holdings straps b
  exact ⟨fun _ => ⟨rfl, rfl⟩, fun _ => cold_grids straps b, fun _ => params, fun _ => curve,
    fun _ => sweep, fun _ => load⟩

theorem warmRestart_keepsHoldings (s : State) : KeepsHoldings s (warmRestart s) := by
  refine ⟨fun _ => ?_, warmRestart_gridsInOrder, ?_, ?_, ?_, ?_⟩ <;> rw [warmRestart_eq]
  · exact ⟨rfl, rfl⟩
  · exact id
  · exact id
  · exact fun _ => trivial
  · exact LoadMon.warm_inOrder

theorem restartState_keepsHoldings (h : Hdr) (kind : Byte) (s : State) :
    KeepsHoldings s (restartState h kind s) := by
  have ended : SameHoldings s (exchangeEnded h.link s) := ⟨rfl, rfl, rfl, rfl, rfl⟩
  unfold restartState
  split
  · exact .same ⟨rfl, rfl, rfl, rfl, rfl⟩
  split
  · exact .same ⟨rfl, rfl, rfl, rfl, rfl⟩
  dsimp only
  split
  · exact isCold_keepsHoldings (coldRestart_isCold _)
  · exact (KeepsHoldings.same ended).trans (warmRestart_keepsHoldings _)

theorem restartInputState_keepsHoldings (level : Bool) (s : State) :
    KeepsHoldings s (restartInputState level s) := by
  have read : SameHoldings s { s with pins := { s.pins with restart := level } } :=
    ⟨rfl, rfl, rfl, rfl, rfl⟩
  unfold restartInputState
  dsimp only
  split
  · exact (KeepsHoldings.same read).trans (warmRestart_keepsHoldings _)
  · exact .same read

/-! ### Every command -/

/-- Every command keeps the holdings in order. -/
theorem exec_keepsHoldings {i : Instr} {s t : State} (h : exec i s = .next t) :
    KeepsHoldings s t := by
  have other {h : Hdr} {code : Byte} {allowed : Owner → Bool} {work : Owner → State → State × Reply}
      (hw : ∀ a, SameHoldings s (work a s).1) : KeepsHoldings s (takeRequest h code allowed work s) :=
    .request fun a => .same (hw a)
  have read {h : Hdr} {code : Byte} {f : State → Reply} :
      KeepsHoldings s (takeRequest h code anyAuthority (reading f) s) := other fun _ => .refl s
  have window (i : WindowIn) := KeepsHoldings.same (windowState_holdings s i)
  have command := KeepsHoldings.same (commandStepState_holdings s)
  have capacity (i : CapacityIn) := capacityStepState_keepsHoldings s i
  have steer (i : SteerIn) := steerStepState_keepsHoldings s i
  have answered (l : Link) (a : Answer) : KeepsHoldings s (formAnswer l a s) :=
    .same ⟨rfl, rfl, rfl, rfl, rfl⟩
  cases i <;> obtain rfl := Host.Outcome.next.inj h
  case nop => exact read
  case frameError => split <;> [exact .refl s; exact answered _ _]
  case unknownRequest => split <;> [exact .refl s; exact answered _ _]
  case placeLimit => exact other fun a => placeWork_holdings s a _ _ _ _ _ _
  case amendLimit => exact other fun a => amendWork_holdings s a _ _ _ _ _
  case renewLimit => exact other fun a => renewWork_holdings s a _ _
  case retireLimit => exact other fun a => retireWork_holdings s a _ _
  case retireOwner => exact other fun a => retireOwnerWork_holdings s a _
  case lookupLimit => exact read
  case findLimit => exact read
  case nextLimit => exact read
  case readEnvelope => exact read
  case loadSegment => exact other fun a => loadSegmentWork_holdings s a _ _ _ _
  case amendSegment => exact other fun a => amendSegmentWork_holdings s a _ _ _ _
  case retireSegment => exact other fun a => retireSegmentWork_holdings s a _
  case enterSegment => exact other fun a => enterSegmentWork_holdings s a _ _
  case leaveSegment => exact other (leaveSegmentWork_holdings s)
  case readSegment => exact read
  case speedFix => exact other fun a => speedFixWork_holdings s a _ _
  case selectSpeedSource => exact other fun a => selectWork_holdings s a _
  case lockSpeedSource => exact other (lockWork_holdings s)
  case clearSourceFail => exact other fun _ => ⟨rfl, rfl, rfl, rfl, rfl⟩
  case setDemand => exact other fun a => setDemandWork_holdings s a _ _ _
  case park => exact other (parkWork_holdings s)
  case unpark => exact other (unparkWork_holdings s)
  case clearHold => exact other (clearHoldWork_holdings s)
  case safetyHold => exact other (safetyHoldWork_holdings s)
  case trip => exact other fun _ => .handTrip .trip s
  case resetTrip => exact other (resetTripWork_holdings s)
  case setControlMode => exact other fun a => setModeWork_holdings s a _
  case restart => exact restartState_keepsHoldings _ _ s
  case powerUp straps b => exact isCold_keepsHoldings (powerUpState_isCold straps b s)
  case restartInput => exact restartInputState_keepsHoldings _ s
  case clearGridFault => exact .request fun a => clearGridWork_keepsHoldings s a _
  case startSweep => exact .request fun a => startSweepWork_keepsHoldings s a _ _ _ _ _
  case readSweep => exact .request (readSweepWork_keepsHoldings s)
  case setSteerPoint => exact .request fun a => setPointWork_keepsHoldings s a _ _ _
  case readSteerPoint => exact read
  case tare => exact .request (tareWork_keepsHoldings s)
  case readStatus => exact read
  case clearAttention => exact other fun a => clearAttentionWork_holdings s a _ _
  case setAttentionMask => exact other fun a => setMaskWork_holdings s a _ _
  case setParam => exact .request fun a => setParamWork_keepsHoldings s a _ _
  case getParam => exact read
  case leaseStep => exact .same (leaseStepState_holdings s)
  case expiry => exact .event (.same (leaseStepState_holdings s))
  case envelopeStep => exact .same ⟨rfl, rfl, rfl, rfl, rfl⟩
  case window i => exact window i
  case trackerTracking i => exact .event (window i)
  case trackerLost i => exact .event (window i)
  case startSelectionTimeout i => exact .event (window i)
  case tripApplyCountExpiry i => exact .event (window i)
  case reprobeStart i => exact .event (window i)
  case holdDwellEnd => exact .event command
  case searchDwellEnd => exact .event command
  case commandStep => exact command
  case demandLeaseExpiry => exact .event command
  case inverterMessage => exact .same (inverterMessageState_holdings s _ _ _)
  case inverterSilent => exact .event command
  case capacityStep i => exact capacity i
  case gridFault i => exact .event (capacity i)
  case linkVoltageClear i => exact .event (capacity i)
  case sweepEntry => exact sweepEntryState_keepsHoldings s
  case sweepReady => exact .event (sweepEntryState_keepsHoldings s)
  case steerStep i => exact steer i
  case steerFault i => exact .event (steer i)
  case steerFaultClear i => exact .event (steer i)
  case loadWindow p => exact loadWindowState_keepsHoldings s p
  case latchEnd p => exact .event (loadWindowState_keepsHoldings s p)
  case brakeReleasedInput b => exact .same (brakeInputState_holdings s b)
  case releaseTimeout => exact .same (releaseTimeoutState_holdings s)

/-- Settles O60: a step is a tick of the release timer or a command on the state with the queue's rest, and
each keeps every one of the holdings in order. -/
theorem Settled.holdingsInvariant : Obligations.HoldingsInvariant := by
  intro s t h
  have keeps : KeepsHoldings s t := by
    unfold step at h
    split at h
    · obtain rfl := Host.Outcome.next.inj h
      exact .same (releaseTick_holdings s)
    · next c rest _ =>
      have queued : SameHoldings s { s with pending := rest } := ⟨rfl, rfl, rfl, rfl, rfl⟩
      exact (KeepsHoldings.same queued).trans (exec_keepsHoldings h)
  exact ⟨keeps.conditions, keeps.grids, fun ⟨params, curve, sweep, load⟩ =>
    ⟨keeps.params params, keeps.curve curve, keeps.sweep sweep, keeps.load load⟩⟩

end Sys2Proof.Machine
end

section
/-! What few commands may change: the queue, parameters, straps, control mode, steer curve, payload, and the
ways into READY and STARTING and out of TRIPPED (O54). What the other commands leave of them. -/

namespace Sys2Proof.Machine

/-! ### The figures and the drive states that the rules guard (R151, R159, R170, R180, R190) -/

/-- The queue, the parameters, the straps, the steer curve and the payload stand. -/
structure SameGuarded (s t : State) : Prop where
  queue : t.pending = s.pending
  params : t.params = s.params
  straps : t.straps = s.straps
  curve : t.steer.curve = s.steer.curve
  value : t.load.value = s.load.value
  cls : t.load.cls = s.load.cls

/-- The control mode stands, READY and STARTING are not entered, and TRIPPED is not left. -/
structure DriveCtl.Moves (x y : DriveCtl) : Prop where
  mode : y.mode = x.mode
  ready : y.state = .ready → x.state = .ready
  tripped : x.state = .tripped → y.state = .tripped
  starting : y.state = .starting → x.state = .starting

namespace SameGuarded

variable {s t u : State}

theorem trans (h : SameGuarded s t) (g : SameGuarded t u) : SameGuarded s u :=
  ⟨g.queue.trans h.queue, g.params.trans h.params, g.straps.trans h.straps, g.curve.trans h.curve,
    g.value.trans h.value, g.cls.trans h.cls⟩

theorem of_step (h : DriveStep s t) : SameGuarded s t := by
  constructor <;> rw [h.frame]

end SameGuarded

/-- What a command without a rule of its own leaves. -/
structure Ordinary (s t : State) : Prop where
  guarded : SameGuarded s t
  moves : s.drive.Moves t.drive

namespace DriveCtl.Moves

variable {x y z : DriveCtl} {s : State}

theorem refl (x : DriveCtl) : x.Moves x := ⟨rfl, id, id, id⟩

theorem trans (h : x.Moves y) (g : y.Moves z) : x.Moves z :=
  ⟨g.mode.trans h.mode, h.ready ∘ g.ready, g.tripped ∘ h.tripped, h.starting ∘ g.starting⟩

/-- A change of the drive's record that leaves its state and mode. -/
theorem of_state (hm : y.mode = x.mode) (hs : y.state = x.state) : x.Moves y := by
  refine ⟨hm, ?_, ?_, ?_⟩ <;> rw [hs] <;> exact id

/-! ### The changes of drive state (R172 to R174, R182) -/

/-- An entry to any other state, from TRIPPED to TRIPPED alone. -/
theorem enter {d : Drive} (hm : s.drive.mode = x.mode) (hr : d ≠ .ready) (hs : d ≠ .starting)
    (ht : x.state = .tripped → d = .tripped) : x.Moves (Machine.enter d s).drive := by
  rw [enter_drive]
  exact ⟨hm, fun h => absurd h hr, ht, fun h => absurd h hs⟩

theorem handHold (c : HoldCause) (s : State) : s.drive.Moves (handHold c s).drive := by
  by_cases h1 : s.drive.state = .ready
  · rw [handHold_ready h1]
    exact .enter rfl (by simp) (by simp) (by simp [h1])
  by_cases h2 : s.drive.state = .hold
  · rw [handHold_hold h2]; exact .of_state rfl rfl
  · rw [handHold_other h1 h2]; exact .of_state rfl rfl

theorem handTrip (c : TripCause) (s : State) : s.drive.Moves (handTrip c s).drive := by
  by_cases h : s.drive.state = .tripped
  · rw [handTrip_tripped h]; exact .of_state rfl rfl
  · rw [handTrip_other h]; exact .enter rfl (by simp) (by simp) fun _ => rfl

theorem handWheelLoss (s : State) : s.drive.Moves (handWheelLoss s).drive := by
  rcases handWheelLoss_split s with e | e | e <;> rw [e]
  · exact .refl _
  · exact .handHold _ s
  · exact .handTrip _ s

theorem handCondition (c : HoldCause) (before after : Bool) (s : State) :
    s.drive.Moves (handCondition c before after s).drive := by
  unfold Machine.handCondition
  split
  · exact .refl _
  split
  · exact .handHold c s
  · exact .of_state rfl rfl

theorem enterParked (hs : s.drive.state ≠ .tripped) : s.drive.Moves (enterParked s).drive :=
  .enter rfl (by simp) (by simp) fun h => absurd h hs

theorem enterHold (h : HoldSet) (hs : s.drive.state ≠ .tripped) :
    s.drive.Moves (enterHold h s).drive :=
  .enter rfl (by simp) (by simp) fun h => absurd h hs

theorem endStarting (h : s.drive.state = .starting) : s.drive.Moves (endStarting s).drive := by
  have leaves : s.drive.state ≠ .tripped := by simp [h]
  unfold Machine.endStarting
  split
  · exact .enter rfl (by simp) (by simp) fun _ => rfl
  split
  · exact (enterHold _ leaves).trans (.handWheelLoss _)
  split
  · exact (enterHold _ leaves).trans (.handWheelLoss _)
  · exact enterParked leaves

theorem driveAtWindow (d : Drive) (s : State) : s.drive.Moves (driveAtWindow d s).drive := by
  cases d with
  | tripped => exact .of_state rfl rfl
  | starting =>
    unfold Machine.driveAtWindow
    dsimp only
    split
    · next h => exact .endStarting h.1
    · exact .refl _
  | parked => exact .refl _
  | releasing => exact .refl _
  | ready => exact .refl _
  | hold => exact .refl _

end DriveCtl.Moves

namespace Ordinary

variable {s t u : State}

theorem refl (s : State) : Ordinary s s := ⟨⟨rfl, rfl, rfl, rfl, rfl, rfl⟩, .refl _⟩

theorem trans (h : Ordinary s t) (g : Ordinary t u) : Ordinary s u :=
  ⟨h.guarded.trans g.guarded, h.moves.trans g.moves⟩

/-- The drive stands too. -/
theorem of_drive (h : SameGuarded s t) (hd : t.drive = s.drive) : Ordinary s t := ⟨h, hd ▸ .refl _⟩

/-- A change of the drive's and the torque's records, the brake assist and the links alone. -/
theorem of_step (h : DriveStep s t) (hm : s.drive.Moves t.drive) : Ordinary s t := ⟨.of_step h, hm⟩

/-- An entry, after a change of the drive's record, to a state that no rule guards. -/
theorem enter {d : Drive} {x : DriveCtl} (hm : x.mode = s.drive.mode) (hr : d ≠ .ready)
    (hs : d ≠ .starting) (ht : s.drive.state = .tripped → d = .tripped) :
    Ordinary s (enter d { s with drive := x }) :=
  of_step (.enter_with d s x) (.enter hm hr hs ht)

theorem handHold (c : HoldCause) (s : State) : Ordinary s (handHold c s) :=
  of_step (.handHold c s) (.handHold c s)

theorem handTrip (c : TripCause) (s : State) : Ordinary s (handTrip c s) :=
  of_step (.handTrip c s) (.handTrip c s)

theorem handWheelLoss (s : State) : Ordinary s (handWheelLoss s) :=
  of_step (.handWheelLoss s) (.handWheelLoss s)

theorem handCondition (c : HoldCause) (before after : Bool) (s : State) :
    Ordinary s (handCondition c before after s) :=
  of_step (.handCondition c before after s) (.handCondition c before after s)

theorem enterParked (hs : s.drive.state ≠ .tripped) : Ordinary s (enterParked s) :=
  enter rfl (by simp) (by simp) fun h => absurd h hs

/-- The end of RELEASING in PARKED (R174, R176). -/
theorem parkReleased (o : ReleaseOutcome) (hs : s.drive.state = .releasing) :
    Ordinary s (Machine.enterParked (endRelease o s)) :=
  enter rfl (by simp) (by simp) (by simp [hs])

end Ordinary

/-! ### Requests of other chapters -/

section
variable (s : State) (a : Owner)

theorem placeWork_ordinary (kind scope seg im : Byte) (v l : Half) :
    Ordinary s (placeWork kind scope v seg l im a s).1 := by
  unfold placeWork placeRecord
  (repeat' split) <;> exact .of_drive ⟨rfl, rfl, rfl, rfl, rfl, rfl⟩ rfl

theorem amendWork_ordinary (slot gen act : Byte) (v l : Half) :
    Ordinary s (amendWork slot gen v act l a s).1 := by
  unfold amendWork
  split
  · exact .refl s
  · exact .refl s
  split
  · exact .refl s
  split
  · exact .refl s
  split
  · exact .refl s
  split
  · exact .refl s
  · dsimp only
    rw [amendRecord_frame]
    exact .of_drive ⟨rfl, rfl, rfl, rfl, rfl, rfl⟩ rfl

theorem renewWork_ordinary (slot gen : Byte) : Ordinary s (renewWork slot gen a s).1 := by
  unfold renewWork
  (repeat' split) <;> exact .of_drive ⟨rfl, rfl, rfl, rfl, rfl, rfl⟩ rfl

theorem retireWork_ordinary (slot gen : Byte) : Ordinary s (retireWork slot gen a s).1 := by
  unfold retireWork
  (repeat' split) <;> exact .of_drive ⟨rfl, rfl, rfl, rfl, rfl, rfl⟩ rfl

theorem retireOwnerWork_ordinary (owner : Byte) : Ordinary s (retireOwnerWork owner a s).1 := by
  unfold retireOwnerWork
  dsimp only
  (repeat' split) <;> exact .of_drive ⟨rfl, rfl, rfl, rfl, rfl, rfl⟩ rfl

theorem loadSegmentWork_ordinary (id cls : Byte) (grade rr : Half) :
    Ordinary s (loadSegmentWork id grade rr cls a s).1 := by
  unfold loadSegmentWork
  (repeat' split) <;> exact .of_drive ⟨rfl, rfl, rfl, rfl, rfl, rfl⟩ rfl

theorem amendSegmentWork_ordinary (id cls : Byte) (grade rr : Half) :
    Ordinary s (amendSegmentWork id grade rr cls a s).1 := by
  unfold amendSegmentWork amendSegmentState
  dsimp only
  (repeat' split) <;> exact .of_drive ⟨rfl, rfl, rfl, rfl, rfl, rfl⟩ rfl

theorem retireSegmentWork_ordinary (id : Byte) : Ordinary s (retireSegmentWork id a s).1 := by
  unfold retireSegmentWork
  (repeat' split) <;> exact .of_drive ⟨rfl, rfl, rfl, rfl, rfl, rfl⟩ rfl

theorem enterSegmentWork_ordinary (id hd : Byte) : Ordinary s (enterSegmentWork id hd a s).1 := by
  unfold enterSegmentWork enterSegmentState
  dsimp only
  (repeat' split) <;> exact .of_drive ⟨rfl, rfl, rfl, rfl, rfl, rfl⟩ rfl

theorem leaveSegmentWork_ordinary : Ordinary s (leaveSegmentWork a s).1 := by
  unfold leaveSegmentWork
  split <;> exact .of_drive ⟨rfl, rfl, rfl, rfl, rfl, rfl⟩ rfl

theorem speedFixWork_ordinary (v q : Half) : Ordinary s (speedFixWork v q a s).1 := by
  unfold speedFixWork; split <;> exact .of_drive ⟨rfl, rfl, rfl, rfl, rfl, rfl⟩ rfl

theorem selectWork_ordinary (b : Byte) : Ordinary s (selectWork b a s).1 := by
  unfold selectWork
  dsimp only
  (repeat' split) <;> exact .of_drive ⟨rfl, rfl, rfl, rfl, rfl, rfl⟩ rfl

theorem lockWork_ordinary : Ordinary s (lockWork a s).1 := by
  unfold lockWork; dsimp only; split <;> exact .of_drive ⟨rfl, rfl, rfl, rfl, rfl, rfl⟩ rfl

theorem setDemandWork_ordinary (d st : Half) (b : Byte) : Ordinary s (setDemandWork d st b a s).1 := by
  unfold setDemandWork demandTaken
  dsimp only
  (repeat' split) <;> exact .of_drive ⟨rfl, rfl, rfl, rfl, rfl, rfl⟩ rfl

theorem clearGridWork_ordinary (g : Byte) : Ordinary s (clearGridWork g a s).1 := by
  unfold clearGridWork
  (repeat' split) <;> exact .of_drive ⟨rfl, rfl, rfl, rfl, rfl, rfl⟩ rfl

theorem startSweepWork_ordinary (l : Link) (g0 gs m0 ms : Half) :
    Ordinary s (startSweepWork l g0 gs m0 ms a s).1 := by
  unfold startSweepWork
  (repeat' split) <;> exact .of_drive ⟨rfl, rfl, rfl, rfl, rfl, rfl⟩ rfl

theorem readSweepWork_ordinary : Ordinary s (readSweepWork a s).1 := by
  unfold readSweepWork; split <;> exact .of_drive ⟨rfl, rfl, rfl, rfl, rfl, rfl⟩ rfl

theorem tareWork_ordinary : Ordinary s (tareWork a s).1 := by
  unfold tareWork
  (repeat' split) <;> exact .of_drive ⟨rfl, rfl, rfl, rfl, rfl, rfl⟩ rfl

theorem clearAttentionWork_ordinary (l : Link) (c : Half) :
    Ordinary s (clearAttentionWork l c a s).1 := by
  unfold clearAttentionWork; split <;> exact .of_drive ⟨rfl, rfl, rfl, rfl, rfl, rfl⟩ rfl

theorem setMaskWork_ordinary (l : Link) (c : Half) : Ordinary s (setMaskWork l c a s).1 := by
  unfold setMaskWork; split <;> exact .of_drive ⟨rfl, rfl, rfl, rfl, rfl, rfl⟩ rfl

/-! ### Requests of the drive (R174, R175, R178) -/

theorem parkWork_ordinary : Ordinary s (parkWork a s).1 := by
  unfold parkWork
  split
  · exact .refl s
  split
  · exact .refl s
  split
  · exact .refl s
  · show Ordinary s (parkState s)
    unfold parkState
    split
    · exact .refl s
    · next h => exact .parkReleased _ h
    · next h => exact .enterParked (by simp [h])
    · next h => exact .enterParked (by simp [h])
    · exact .refl s
    · exact .refl s

theorem unparkWork_ordinary : Ordinary s (unparkWork a s).1 := by
  unfold unparkWork
  split
  · exact .refl s
  split
  · exact .refl s
  split
  · exact .refl s
  next hp =>
  split
  · exact .refl s
  · exact .enter rfl (by simp) (by simp) fun h => absurd (h.symm.trans (not_not.1 hp)) (by simp)

theorem safetyHoldWork_ordinary : Ordinary s (safetyHoldWork a s).1 := by
  unfold safetyHoldWork
  split
  · exact .handHold _ s
  · exact .refl s

/-! ### Periodic steps and inputs -/

theorem leaseStepState_ordinary : Ordinary s (leaseStepState s) := by
  unfold leaseStepState
  dsimp only
  split <;> exact .of_drive ⟨rfl, rfl, rfl, rfl, rfl, rfl⟩ rfl

theorem windowState_ordinary (i : WindowIn) : Ordinary s (windowState i s) := by
  have selected : Ordinary s (windowSelected i s) := by
    rw [windowSelected_frame]; exact .of_drive ⟨rfl, rfl, rfl, rfl, rfl, rfl⟩ rfl
  have handed : Ordinary (windowSelected i s) (windowHanded i s) := by
    rw [windowHanded_eq]
    split
    · exact .handTrip _ _
    · exact .refl _
  have driven : Ordinary (windowHanded i s) (windowDriven i s) :=
    .of_step (.driveAtWindow _ _) (.driveAtWindow _ _)
  exact ((selected.trans handed).trans driven).trans (.of_drive ⟨rfl, rfl, rfl, rfl, rfl, rfl⟩ rfl)

theorem leaseCounted_ordinary : Ordinary s (leaseCounted s) := by
  have changed (q : TorqueGov) : Ordinary s (withTorque q s) :=
    .of_drive ⟨rfl, rfl, rfl, rfl, rfl, rfl⟩ rfl
  rcases leaseCounted_cases s with ⟨-, -, e⟩ | ⟨-, -, e⟩ | ⟨-, -, e⟩ <;> rw [e]
  · exact (changed _).trans (.handHold _ _)
  · exact changed _
  · exact .refl s

theorem silenceCounted_ordinary : Ordinary s (silenceCounted s) := by
  have silenced : Ordinary s (silencedState s) := .of_drive ⟨rfl, rfl, rfl, rfl, rfl, rfl⟩ rfl
  rw [silenceCounted_eq]
  split
  · exact silenced.trans (.handWheelLoss _)
  · exact silenced

theorem commandStepState_ordinary : Ordinary s (commandStepState s) := by
  have handed : Ordinary (counted s) (commandStepState s) := by
    rw [commandStepState_eq, evaluateAssist_eq]
    exact .of_drive ⟨rfl, rfl, rfl, rfl, rfl, rfl⟩ rfl
  exact ((leaseCounted_ordinary s).trans (silenceCounted_ordinary _)).trans handed

theorem inverterMessageState_ordinary (w : Wheel) (n : Nat) (f : Bool) :
    Ordinary s (inverterMessageState w n f s) := by
  have reported : Ordinary s (reportedState w n f s) := .of_drive ⟨rfl, rfl, rfl, rfl, rfl, rfl⟩ rfl
  rw [inverterMessageState_eq]
  split
  · exact reported.trans (.handWheelLoss _)
  · exact reported

theorem capacityStepState_ordinary (i : CapacityIn) : Ordinary s (capacityStepState i s) := by
  have stages : Ordinary s (raiseIf (anyGridFaulted s { s with retard := capacityUnit i s }) .gridFault
      (updateGov (capacityUpdates i s) { s with retard := capacityUnit i s })) := by
    rw [raiseIf_eq, updateGov_keeps]; exact .of_drive ⟨rfl, rfl, rfl, rfl, rfl, rfl⟩ rfl
  unfold capacityStepState
  dsimp only
  split
  · exact stages.trans (.handTrip _ _)
  · exact stages

theorem sweepEntryState_ordinary : Ordinary s (sweepEntryState s) := by
  unfold sweepEntryState
  dsimp only
  (repeat' split) <;> exact .of_drive ⟨rfl, rfl, rfl, rfl, rfl, rfl⟩ rfl

theorem steerStepState_ordinary (i : SteerIn) : Ordinary s (steerStepState i s) := by
  have stages : Ordinary s (updateGov (steerUpdates i s) { s with steer := steerUnit i s }) := by
    rw [updateGov_keeps]; exact .of_drive ⟨rfl, rfl, rfl, steerUnit_curve s i, rfl, rfl⟩ rfl
  exact (stages.trans (.handCondition _ _ _ _)).trans (.handCondition _ _ _ _)

theorem releaseTimeoutState_ordinary : Ordinary s (releaseTimeoutState s) := by
  unfold releaseTimeoutState
  split
  · next h => exact .parkReleased _ h
  · exact .refl s

end

end Sys2Proof.Machine
end

section
/-! The commands that a rule lets change what the others leave, and O54. -/

namespace Sys2Proof.Machine

/-- The command changes the guarded figures, and goes into READY and STARTING and out of TRIPPED, only where
its rules let it (R151, R159, R172, R176, R177, R179 to R181, R190). -/
structure ChangesWhere (i : Instr) (s t : State) : Prop where
  queue : t.pending = s.pending
  parked : t.params ≠ s.params ∨ t.drive.mode ≠ s.drive.mode ∨ t.steer.curve ≠ s.steer.curve →
    s.drive.state = .parked ∨ ColdRestartBy i
  straps : t.straps ≠ s.straps → ColdRestartBy i
  ready : s.drive.state ≠ .ready → t.drive.state = .ready →
    (s.drive.state = .releasing ∧ i = .brakeReleasedInput true) ∨
      (s.drive.state = .hold ∧ s.speed.v < 5 ∧ ∃ h, i = .clearHold h)
  tripped : s.drive.state = .tripped → t.drive.state ≠ .tripped →
    RestartBy s i ∨ (s.speed.v < 5 ∧ s.retard.overvolt = false ∧
      ∃ h, i = .resetTrip h ∧ authorityOf h = some .safety)
  starting : t.drive.state = .starting → s.drive.state ≠ .starting → RestartBy s i
  payload : 50 ≤ s.speed.v → (t.load.value ≠ s.load.value ∨ t.load.cls ≠ s.load.cls) →
    ColdRestartBy i

namespace ChangesWhere

variable {i : Instr} {s t : State}

/-- The guarded figures and the mode stand: only a change of drive state is to be let. -/
theorem of_guarded (h : SameGuarded s t) (hm : t.drive.mode = s.drive.mode)
    (ready : s.drive.state ≠ .ready → t.drive.state = .ready →
      (s.drive.state = .releasing ∧ i = .brakeReleasedInput true) ∨
        (s.drive.state = .hold ∧ s.speed.v < 5 ∧ ∃ h, i = .clearHold h))
    (tripped : s.drive.state = .tripped → t.drive.state ≠ .tripped →
      RestartBy s i ∨ (s.speed.v < 5 ∧ s.retard.overvolt = false ∧
        ∃ h, i = .resetTrip h ∧ authorityOf h = some .safety))
    (starting : t.drive.state = .starting → s.drive.state ≠ .starting → RestartBy s i) :
    ChangesWhere i s t := by
  refine ⟨h.queue, ?_, fun hn => absurd h.straps hn, ready, tripped, starting, fun _ hn => ?_⟩
  · rintro (hn | hn | hn)
    exacts [absurd h.params hn, absurd hm hn, absurd h.curve hn]
  · exact hn.elim (absurd h.value) (absurd h.cls)

theorem of_ordinary (h : Ordinary s t) : ChangesWhere i s t :=
  of_guarded h.guarded h.moves.mode (fun hn hr => absurd (h.moves.ready hr) hn)
    (fun ht hn => absurd (h.moves.tripped ht) hn) fun hs hn => absurd (h.moves.starting hs) hn

theorem refl (i : Instr) (s : State) : ChangesWhere i s s := of_ordinary (.refl s)

/-- A change in PARKED that leaves the drive state (R151, R180, R190). -/
theorem of_parked (hp : s.drive.state = .parked) (hd : t.drive.state = s.drive.state)
    (queue : t.pending = s.pending) (straps : t.straps = s.straps)
    (value : t.load.value = s.load.value) (cls : t.load.cls = s.load.cls) : ChangesWhere i s t := by
  refine ⟨queue, fun _ => .inl hp, fun hn => absurd straps hn, ?_, ?_, ?_, fun _ hn => ?_⟩
  · rw [hd, hp]; nofun
  · rw [hd, hp]; nofun
  · rw [hd, hp]; nofun
  · exact hn.elim (absurd value) (absurd cls)

/-- An answer touches its link alone. -/
theorem exchanged (k : ChangesWhere i s t) (l : Link) (a : Answer) :
    ChangesWhere i s (t.exchanged l a) :=
  ⟨k.queue, k.parked, k.straps, k.ready, k.tripped, k.starting, k.payload⟩

/-- A request changes what its work changes. -/
theorem request {h : Hdr} {code : Byte} {allowed : Owner → Bool} {work : Owner → State → State × Reply}
    (hw : ∀ a, authorityOf h = some a → allowed a = true → ChangesWhere i s (work a s).1) :
    ChangesWhere i s (takeRequest h code allowed work s) := by
  rcases takeRequest_cases h code allowed work s with e | ⟨a, ha, hal, e⟩ <;> rw [e]
  · exact (refl i s).exchanged _ _
  · exact (hw a ha hal).exchanged _ _

/-- An event inside a periodic step changes what the step changes. -/
theorem event {e : State → State → Bool} {f : State → State} (hf : ChangesWhere i s (f s)) :
    ChangesWhere i s (whenItComesAbout e f s) := whenItComesAbout_keeps (refl i s) hf

end ChangesWhere

section
variable (i : Instr) (s : State) (a : Owner)

/-! ### What changes in PARKED (R151, R180, R190) -/

theorem setParamState_payload (p : Param) (v : Nat) :
    (setParamState p v s).load.value = s.load.value ∧ (setParamState p v s).load.cls = s.load.cls := by
  unfold setParamState
  split
  · exact ⟨rfl, rfl⟩
  · rw [paramEffect_frame]; cases p <;> exact ⟨rfl, rfl⟩

theorem setParamWork_changes (index : Byte) (value : Half) :
    ChangesWhere i s (setParamWork index value a s).1 := by
  unfold setParamWork
  split
  · exact .refl i s
  next p _ =>
  split
  · exact .refl i s
  next hp =>
  split
  · exact .refl i s
  · obtain ⟨hv, hc⟩ := setParamState_payload s p value.toNat
    have frame := setParamState_frame p value.toNat s
    refine .of_parked (not_not.1 hp) ?_ ?_ ?_ hv hc <;> dsimp only <;> rw [frame]

theorem setModeWork_changes (m : Byte) : ChangesWhere i s (setModeWork m a s).1 := by
  unfold setModeWork
  split
  · exact .refl i s
  split
  · exact .refl i s
  · next hp => exact .of_parked (not_not.1 hp) rfl rfl rfl rfl rfl

theorem setPointWork_changes (k : Byte) (v x : Half) :
    ChangesWhere i s (setPointWork k v x a s).1 := by
  unfold setPointWork
  split
  · split
    · exact .refl i s
    split
    · exact .refl i s
    next hp =>
    dsimp only
    split
    · exact .refl i s
    · exact .of_parked (not_not.1 hp) rfl rfl rfl rfl rfl
  · exact .refl i s

/-! ### The ways into READY (R176, R177) -/

theorem clearHoldWork_changes (h : Hdr) : ChangesWhere (.clearHold h) s (clearHoldWork a s).1 := by
  unfold clearHoldWork
  split
  · exact .refl _ s
  split
  · exact .refl _ s
  next hd =>
  split
  · exact .refl _ s
  next hv =>
  split
  · exact .refl _ s
  · have hold : s.drive.state = .hold := not_not.1 hd
    have state : (clearHoldState s).drive.state = .ready := enter_state _ _
    have step : DriveStep s (clearHoldState s) := (DriveStep.of_records s _ _).trans (.enter .ready _)
    have mode : (clearHoldState s).drive.mode = s.drive.mode := by
      unfold clearHoldState; rw [enter_drive]
    exact .of_guarded (.of_step step) mode (fun _ _ => .inr ⟨hold, Nat.lt_of_not_le hv, h, rfl⟩)
      (fun ht => nomatch hold.symm.trans ht) fun hs => nomatch state.symm.trans hs

/-- RELEASING ends by the input in HOLD or READY, before the wheel-loss cause (R176). -/
theorem releasedEntry_enters : DriveStep s (releasedEntry s) ∧
    (releasedEntry s).drive.mode = s.drive.mode ∧ (releasedEntry s).drive.state ≠ .starting := by
  unfold releasedEntry
  split
  · refine ⟨.enter_with .hold s _, ?_⟩
    rw [enterHold, enter_drive]
    exact ⟨rfl, nofun⟩
  · refine ⟨.enter_with .ready s _, ?_⟩
    rw [enter_drive]
    exact ⟨rfl, nofun⟩

theorem brakeInputState_changes (b : Bool) :
    ChangesWhere (.brakeReleasedInput b) s (brakeInputState b s) := by
  unfold brakeInputState
  split
  · exact .refl _ s
  dsimp only
  split
  · next h =>
    obtain ⟨rfl, hd⟩ := h
    obtain ⟨step, mode, starting⟩ :=
      releasedEntry_enters { s with drive := { s.drive with brakeReleased := true } }
    have loss := Ordinary.handWheelLoss
      (releasedEntry { s with drive := { s.drive with brakeReleased := true } })
    exact .of_guarded (.trans (.of_step ((DriveStep.of_records s _ s.torque).trans step)) loss.guarded)
      (loss.moves.mode.trans mode) (fun _ _ => .inl ⟨hd, rfl⟩)
      (fun ht => nomatch hd.symm.trans ht) fun hs => absurd (loss.moves.starting hs) starting
  · exact .of_ordinary (.of_step (.of_records s _ s.torque) (.of_state rfl rfl))

/-! ### The way out of TRIPPED (R179) -/

theorem resetTripWork_changes {h : Hdr} (ha : authorityOf h = some .safety) :
    ChangesWhere (.resetTrip h) s (resetTripWork a s).1 := by
  unfold resetTripWork
  split
  · exact .refl _ s
  split
  · exact .refl _ s
  next hv =>
  split
  · exact .refl _ s
  next ho =>
  have state : (enterParked s).drive.state = .parked := enter_state _ _
  have step : DriveStep s (enterParked s) := .enter_with .parked s _
  have mode : (enterParked s).drive.mode = s.drive.mode := by rw [enterParked, enter_drive]
  exact .of_guarded (.of_step step) mode (fun _ hr => nomatch state.symm.trans hr)
    (fun _ _ => .inr ⟨Nat.lt_of_not_le hv, by simpa using ho, h, rfl, ha⟩)
    fun hs => nomatch state.symm.trans hs

/-! ### Restarts (R181) -/

theorem isCold_changes {i : Instr} {straps : Straps} {b : Bool} {s t : State} (hi : ColdRestartBy i)
    (h : IsCold straps b t) (queue : t.pending = s.pending) : ChangesWhere i s t := by
  have state : t.drive.state = .starting := by obtain ⟨p, q, level, n, l, rfl⟩ := h; rfl
  exact ⟨queue, fun _ => .inr hi, fun _ => hi, fun _ hr => (nomatch state.symm.trans hr),
    fun _ _ => .inl (.inl hi), fun _ _ => .inl hi, fun _ _ => hi⟩

theorem warmRestart_guarded : SameGuarded s (warmRestart s) := by
  rw [warmRestart_eq]; exact ⟨rfl, rfl, rfl, rfl, rfl, rfl⟩

/-- A warm restart of a state that differs from this one in links, pins and outputs given alone. -/
theorem warmRestart_changes {i : Instr} {s x : State} (hi : RestartBy s i) (hx : SameGuarded s x)
    (hd : x.drive = s.drive) : ChangesWhere i s (warmRestart x) := by
  have drive : (warmRestart x).drive = x.drive.warm := by rw [warmRestart_eq]; rfl
  have state : (warmRestart x).drive.state = .starting := by rw [drive]; rfl
  exact .of_guarded (hx.trans (warmRestart_guarded x)) (by rw [drive, hd]; rfl)
    (fun _ hr => nomatch state.symm.trans hr) (fun _ _ => .inl hi) fun _ _ => hi

theorem restartInputState_changes (level : Bool) :
    ChangesWhere (.restartInput level) s (restartInputState level s) := by
  unfold restartInputState
  dsimp only
  split
  · next h =>
    obtain ⟨rfl, hp⟩ := h
    exact warmRestart_changes (.inr (.inr ⟨rfl, hp⟩)) ⟨rfl, rfl, rfl, rfl, rfl, rfl⟩ rfl
  · exact .of_ordinary (.of_drive ⟨rfl, rfl, rfl, rfl, rfl, rfl⟩ rfl)

/-- RESTART's check passes COLD from SAFETY, and WARM (R181). -/
theorem restartCheck_ok {kind : Byte} {a : Owner} {cold : Bool} (h : restartCheck kind a = .ok cold) :
    (cold = true ∧ kind = 0 ∧ a = .safety) ∨ (cold = false ∧ kind = 1) := by
  unfold restartCheck coldOfCode at h
  split at h
  · cases h
  · next hk =>
    split at h
    · next ha =>
      cases h
      split at hk
      · next h0 => exact .inl ⟨rfl, word_eq_zero.2 h0, ha⟩
      · cases hk
      · cases hk
    · cases h
  · next hk =>
    cases h
    split at hk
    · cases hk
    · next h1 => exact .inr ⟨rfl, BitVec.eq_of_toNat_eq h1⟩
    · cases hk

theorem restartState_changes (h : Hdr) (kind : Byte) :
    ChangesWhere (.restart h kind) s (restartState h kind s) := by
  unfold restartState
  split
  · exact (ChangesWhere.refl _ s).exchanged _ _
  next a ha =>
  split
  · exact (ChangesWhere.refl _ s).exchanged _ _
  next cold hc =>
  dsimp only
  rcases restartCheck_ok hc with ⟨rfl, h0, rfl⟩ | ⟨rfl, h1⟩
  · exact isCold_changes (.inr ⟨h, kind, rfl, h0, ha⟩) (coldRestart_isCold _) rfl
  · exact warmRestart_changes (.inr (.inl ⟨h, kind, rfl, h1, by simp [ha]⟩))
      ⟨rfl, rfl, rfl, rfl, rfl, rfl⟩ rfl

/-! ### The payload (R159) -/

/-- A window that is not standing takes no sample: payload value and class stand (R159 to R162). -/
theorem loadUnit_payload {p : Four Nat} {s : State} (h : standing s = false) :
    (loadUnit p s).value = s.load.value ∧ (loadUnit p s).cls = s.load.cls := by
  unfold loadUnit payloadStage
  cases hs : s.load.state <;>
    simp [h, LoadMon.measuring, LoadMon.latched, LoadMon.invalid]

theorem loadWindowState_changes (p : Four Nat) : ChangesWhere i s (loadWindowState p s) := by
  have e : loadWindowState p s = { s with
      load := loadUnit p s, gov := (loadWindowState p s).gov, env := (loadWindowState p s).env
      ports := (loadWindowState p s).ports } := by
    unfold loadWindowState; dsimp only; rw [raiseIf_eq, updateGov_keeps]
  rw [e]
  refine ⟨rfl, ?_, nofun, nofun, nofun, nofun, fun hv hn => ?_⟩
  · rintro (hn | hn | hn) <;> exact absurd rfl hn
  · obtain ⟨value, cls⟩ := loadUnit_payload (p := p) (s := s) (by simp [standing]; omega)
    exact hn.elim (absurd value) (absurd cls)

end

/-! ### Every command -/

theorem exec_changesWhere {i : Instr} {s t : State} (h : exec i s = .next t) : ChangesWhere i s t := by
  have other {i : Instr} {h : Hdr} {code : Byte} {allowed : Owner → Bool}
      {work : Owner → State → State × Reply} (hw : ∀ a, Ordinary s (work a s).1) :
      ChangesWhere i s (takeRequest h code allowed work s) :=
    .request fun a _ _ => .of_ordinary (hw a)
  have read {i : Instr} {h : Hdr} {code : Byte} {f : State → Reply} :
      ChangesWhere i s (takeRequest h code anyAuthority (reading f) s) := other fun _ => .refl s
  have window {k : Instr} (i : WindowIn) := ChangesWhere.of_ordinary (i := k) (windowState_ordinary s i)
  have command {k : Instr} := ChangesWhere.of_ordinary (i := k) (commandStepState_ordinary s)
  have capacity {k : Instr} (i : CapacityIn) :=
    ChangesWhere.of_ordinary (i := k) (capacityStepState_ordinary s i)
  have steer {k : Instr} (i : SteerIn) := ChangesWhere.of_ordinary (i := k) (steerStepState_ordinary s i)
  cases i <;> obtain rfl := Host.Outcome.next.inj h
  case nop => exact read
  case frameError => split <;> [exact .refl _ s; exact (ChangesWhere.refl _ s).exchanged _ _]
  case unknownRequest => split <;> [exact .refl _ s; exact (ChangesWhere.refl _ s).exchanged _ _]
  case placeLimit => exact other fun a => placeWork_ordinary s a _ _ _ _ _ _
  case amendLimit => exact other fun a => amendWork_ordinary s a _ _ _ _ _
  case renewLimit => exact other fun a => renewWork_ordinary s a _ _
  case retireLimit => exact other fun a => retireWork_ordinary s a _ _
  case retireOwner => exact other fun a => retireOwnerWork_ordinary s a _
  case lookupLimit => exact read
  case findLimit => exact read
  case nextLimit => exact read
  case readEnvelope => exact read
  case loadSegment => exact other fun a => loadSegmentWork_ordinary s a _ _ _ _
  case amendSegment => exact other fun a => amendSegmentWork_ordinary s a _ _ _ _
  case retireSegment => exact other fun a => retireSegmentWork_ordinary s a _
  case enterSegment => exact other fun a => enterSegmentWork_ordinary s a _ _
  case leaveSegment => exact other (leaveSegmentWork_ordinary s)
  case readSegment => exact read
  case speedFix => exact other fun a => speedFixWork_ordinary s a _ _
  case selectSpeedSource => exact other fun a => selectWork_ordinary s a _
  case lockSpeedSource => exact other (lockWork_ordinary s)
  case clearSourceFail => exact other fun _ => .of_drive ⟨rfl, rfl, rfl, rfl, rfl, rfl⟩ rfl
  case setDemand => exact other fun a => setDemandWork_ordinary s a _ _ _
  case park => exact other (parkWork_ordinary s)
  case unpark => exact other (unparkWork_ordinary s)
  case clearHold hdr => exact .request fun a _ _ => clearHoldWork_changes s a hdr
  case safetyHold => exact other (safetyHoldWork_ordinary s)
  case trip => exact other fun _ => .handTrip .trip s
  case resetTrip =>
    refine .request fun a ha hal => resetTripWork_changes s a ?_
    rw [ha, show a = .safety by simpa [safetyOnly] using hal]
  case setControlMode => exact .request fun a _ _ => setModeWork_changes _ s a _
  case restart hdr kind => exact restartState_changes s hdr kind
  case powerUp straps b => exact isCold_changes (.inl ⟨straps, b, rfl⟩) (powerUpState_isCold straps b s) rfl
  case restartInput level => exact restartInputState_changes s level
  case clearGridFault => exact other fun a => clearGridWork_ordinary s a _
  case startSweep => exact other fun a => startSweepWork_ordinary s a _ _ _ _ _
  case readSweep => exact other (readSweepWork_ordinary s)
  case setSteerPoint => exact .request fun a _ _ => setPointWork_changes _ s a _ _ _
  case readSteerPoint => exact read
  case tare => exact other (tareWork_ordinary s)
  case readStatus => exact read
  case clearAttention => exact other fun a => clearAttentionWork_ordinary s a _ _
  case setAttentionMask => exact other fun a => setMaskWork_ordinary s a _ _
  case setParam => exact .request fun a _ _ => setParamWork_changes _ s a _ _
  case getParam => exact read
  case leaseStep => exact .of_ordinary (leaseStepState_ordinary s)
  case expiry => exact .event (.of_ordinary (leaseStepState_ordinary s))
  case envelopeStep => exact .of_ordinary (.of_drive ⟨rfl, rfl, rfl, rfl, rfl, rfl⟩ rfl)
  case window i => exact window i
  case trackerTracking i => exact .event (window i)
  case trackerLost i => exact .event (window i)
  case startSelectionTimeout i => exact .event (window i)
  case tripApplyCountExpiry i => exact .event (window i)
  case reprobeStart i => exact .event (window i)
  case holdDwellEnd => exact .event command
  case searchDwellEnd => exact .event command
  case commandStep => exact command
  case demandLeaseExpiry => exact .event command
  case inverterMessage => exact .of_ordinary (inverterMessageState_ordinary s _ _ _)
  case inverterSilent => exact .event command
  case capacityStep i => exact capacity i
  case gridFault i => exact .event (capacity i)
  case linkVoltageClear i => exact .event (capacity i)
  case sweepEntry => exact .of_ordinary (sweepEntryState_ordinary s)
  case sweepReady => exact .event (.of_ordinary (sweepEntryState_ordinary s))
  case steerStep i => exact steer i
  case steerFault i => exact .event (steer i)
  case steerFaultClear i => exact .event (steer i)
  case loadWindow p => exact loadWindowState_changes _ s p
  case latchEnd p => exact .event (loadWindowState_changes _ s p)
  case brakeReleasedInput b => exact brakeInputState_changes s b
  case releaseTimeout => exact .of_ordinary (releaseTimeoutState_ordinary s)

/-- Settles O54: most commands leave all that the rules guard; each of the others is let by its own. -/
theorem Settled.whatChangesWhere : Obligations.WhatChangesWhere := by
  intro i s t h
  obtain ⟨queue, parked, straps, ready, tripped, starting, payload⟩ := exec_changesWhere h
  exact ⟨queue, parked, straps, ready, tripped, starting, payload⟩

end Sys2Proof.Machine
end

section
/-! A steer step, stage by stage (R139, R140, R142 to R144), what it hands over (R9, R139), and its samples,
target and command (O46). -/

namespace Sys2Proof.Machine

/-! ### Stages 1 to 4 on the unit (R140, R142 to R144, R147, R148) -/

namespace SteerGov

section
variable (u : SteerGov)

/-- Stage 2 writes the fault state, its two counts and the freeze angle alone (R147, R148). -/
theorem tracked_frame (n : Nat) : u.tracked n = { u with
    fault := (u.tracked n).fault, errors := (u.tracked n).errors
    recovery := (u.tracked n).recovery, freeze := (u.tracked n).freeze } := by
  unfold tracked recovered watched
  (repeat' split) <;> rfl

/-- Stage 4 writes the command, its target and the freeze angle alone (R143, R144). -/
theorem moved_frame (d : Drive) (demand : Option Int) : u.moved d demand = { u with
    command := (u.moved d demand).command, target := (u.moved d demand).target
    freeze := (u.moved d demand).freeze } := by
  unfold moved
  (repeat' split) <;> rfl

end

/-! #### Stage 2: the tracking error (R147, R148) -/

/-- The measured angle follows the command within the tolerance. -/
def Tracks (n : Nat) (u : SteerGov) : Prop :=
  ∃ m δ, u.measured = some m ∧ u.command = some δ ∧ (m - δ).natAbs ≤ n

/-- The measured angle lies off the command by more than the tolerance. -/
def Strays (n : Nat) (u : SteerGov) : Prop :=
  ∃ m δ, u.measured = some m ∧ u.command = some δ ∧ n < (m - δ).natAbs

variable {u : SteerGov} {n : Nat}

theorem watched_lost (h : u.measured = none) : u.watched n = u.faulted u.command := by
  simp only [watched, h]

theorem watched_tenth (h : u.Strays n) (he : 9 ≤ u.errors) :
    u.watched n = u.faulted u.measured := by
  obtain ⟨m, δ, hm, hc, hlt⟩ := h
  simp only [watched, hm, hc, if_pos hlt, if_pos (Nat.succ_le_succ he)]

theorem watched_counts (h : u.Strays n) (he : u.errors < 9) :
    u.watched n = { u with errors := u.errors + 1 } := by
  obtain ⟨m, δ, hm, hc, hlt⟩ := h
  simp only [watched, hm, hc, if_pos hlt, if_neg (Nat.not_le.2 (Nat.succ_lt_succ he))]

theorem watched_resets (hm : u.measured ≠ none) (h : ¬u.Strays n) :
    u.watched n = { u with errors := 0 } := by
  obtain ⟨m, hm⟩ := Option.ne_none_iff_exists'.1 hm
  cases hc : u.command with
  | none => simp only [watched, hm, hc]
  | some δ => simp only [watched, hm, hc, if_neg fun hlt => h ⟨m, δ, hm, hc, hlt⟩]

theorem recovered_clears (h : u.Tracks n) (hr : 9 ≤ u.recovery) :
    u.recovered n = { u with fault := false, recovery := 0, freeze := none } := by
  obtain ⟨m, δ, hm, hc, hle⟩ := h
  simp only [recovered, hm, hc, if_neg (Nat.not_lt.2 hle), if_pos (Nat.succ_le_succ hr)]

theorem recovered_counts (h : u.Tracks n) (hr : u.recovery < 9) :
    u.recovered n = { u with recovery := u.recovery + 1 } := by
  obtain ⟨m, δ, hm, hc, hle⟩ := h
  simp only [recovered, hm, hc, if_neg (Nat.not_lt.2 hle),
    if_neg (Nat.not_le.2 (Nat.succ_lt_succ hr))]

theorem recovered_resets (h : ¬u.Tracks n) : u.recovered n = { u with recovery := 0 } := by
  cases hm : u.measured with
  | none => simp only [recovered, hm]
  | some m =>
    cases hc : u.command with
    | none => simp only [recovered, hm, hc]
    | some δ =>
      simp only [recovered, hm, hc, if_pos (Nat.not_le.1 fun hle => h ⟨m, δ, hm, hc, hle⟩)]

/-! #### Stage 4: the command (R143, R144) -/

variable {d : Drive} {demand : Option Int}

theorem moved_some {δ : Int} (h : u.command = some δ) : u.moved d demand = { u with
    command := some (δ + clampInt (steerTarget d demand u δ - δ) (-(u.rateStep : Int)) u.rateStep)
    target := some (steerTarget d demand u δ) } := by
  simp only [moved, h]

/-- Without a command the measured angle, if there is one, becomes it, and the freeze angle of a STEER_FAULT
that has none (R144). -/
theorem moved_none (h : u.command = none) : u.moved d demand = { u with
    command := u.measured, target := none
    freeze := if u.fault = true ∧ u.freeze = none then u.measured else u.freeze } := by
  cases hm : u.measured with
  | some m => simp only [moved, h, hm]
  | none =>
    have freeze : (if u.fault = true ∧ u.freeze = none then none else u.freeze) = u.freeze := by
      split
      · next hf => exact hf.2.symm
      · rfl
    simp only [moved, h, hm, freeze]

end SteerGov

section
variable (i : SteerIn) (s : State)

/-- The unit after stages 1 and 2. -/
def trackedUnit : SteerGov := (s.steer.sampled i).tracked (s.param .steerTrackErr)

/-- The unit after stages 1 to 3. -/
def limitedUnit : SteerGov := (trackedUnit i s).limited s

/-- All that stages 3 to 5 write. -/
theorem steerUnit_frame : steerUnit i s = { limitedUnit i s with
    command := (steerUnit i s).command, target := (steerUnit i s).target
    freeze := (steerUnit i s).freeze
    low := (steerUnit i s).low, crit := (steerUnit i s).crit } := by
  calc steerUnit i s = { (limitedUnit i s).moved s.drive.state s.torque.steerDemand with
        low := (steerUnit i s).low, crit := (steerUnit i s).crit } := rfl
    _ = _ := by rw [SteerGov.moved_frame]; rfl

theorem limitedUnit_frame : limitedUnit i s = { s.steer.sampled i with
    fault := (limitedUnit i s).fault, errors := (limitedUnit i s).errors
    recovery := (limitedUnit i s).recovery, freeze := (limitedUnit i s).freeze
    alim := (limitedUnit i s).alim, rateStep := (limitedUnit i s).rateStep } := by
  calc limitedUnit i s = { trackedUnit i s with
        alim := (limitedUnit i s).alim, rateStep := (limitedUnit i s).rateStep } := rfl
    _ = _ := by rw [trackedUnit, SteerGov.tracked_frame]; rfl

@[simp] theorem limitedUnit_command : (limitedUnit i s).command = s.steer.command := by
  rw [limitedUnit_frame]; rfl

theorem trackedUnit_fault {s : State} (h : s.steer.fault = true) :
    trackedUnit i s = (s.steer.sampled i).recovered (s.param .steerTrackErr) := if_pos h

theorem trackedUnit_clear {s : State} (h : s.steer.fault = false) :
    trackedUnit i s = (s.steer.sampled i).watched (s.param .steerTrackErr) :=
  if_neg (Bool.eq_false_iff.1 h)

theorem steerUnit_measured : (steerUnit i s).measured = (s.steer.sampled i).measured := by
  rw [steerUnit_frame, limitedUnit_frame]

theorem steerUnit_pressure : (steerUnit i s).pressure = (s.steer.sampled i).pressure := by
  rw [steerUnit_frame, limitedUnit_frame]

theorem steerUnit_alim :
    (steerUnit i s).alim = min (s.eff .left .steerAngle) (curveAt s.steer.curve s.speed.v) := by
  have curve : (trackedUnit i s).curve = s.steer.curve := by
    rw [trackedUnit, SteerGov.tracked_frame]; rfl
  rw [steerUnit_frame, ← curve]; rfl

theorem steerUnit_rateStep : (steerUnit i s).rateStep = s.eff .left .steerRate / 20 := by
  rw [steerUnit_frame]; rfl

theorem steerUnit_fault : (steerUnit i s).fault = (trackedUnit i s).fault := by
  rw [steerUnit_frame]; rfl

theorem steerUnit_errors : (steerUnit i s).errors = (trackedUnit i s).errors := by
  rw [steerUnit_frame]; rfl

theorem steerUnit_recovery : (steerUnit i s).recovery = (trackedUnit i s).recovery := by
  rw [steerUnit_frame]; rfl

end

section
variable {i : SteerIn} {s : State}

/-- Stage 4 of a step with a command (R143). -/
theorem steerUnit_moves {δ : Int} (h : s.steer.command = some δ) :
    (steerUnit i s).command = some (δ + clampInt
      (steerTarget s.drive.state s.torque.steerDemand (limitedUnit i s) δ - δ)
      (-((steerUnit i s).rateStep : Int)) (steerUnit i s).rateStep) ∧
    (steerUnit i s).target =
      some (steerTarget s.drive.state s.torque.steerDemand (limitedUnit i s) δ) ∧
    (steerUnit i s).freeze = (trackedUnit i s).freeze := by
  have rate : (steerUnit i s).rateStep = (limitedUnit i s).rateStep := by rw [steerUnit_frame]
  rw [rate]
  show (SteerGov.reserved _ _ ((limitedUnit i s).moved _ _)).command = _ ∧
    (SteerGov.reserved _ _ ((limitedUnit i s).moved _ _)).target = _ ∧
    (SteerGov.reserved _ _ ((limitedUnit i s).moved _ _)).freeze = _
  rw [SteerGov.moved_some ((limitedUnit_command i s).trans h)]
  exact ⟨rfl, rfl, rfl⟩

/-- Stage 4 of a step without one (R144). -/
theorem steerUnit_seeds (h : s.steer.command = none) :
    (steerUnit i s).command = (steerUnit i s).measured ∧ (steerUnit i s).target = none ∧
    (steerUnit i s).freeze =
      if (steerUnit i s).fault = true ∧ (trackedUnit i s).freeze = none then (steerUnit i s).measured
      else (trackedUnit i s).freeze := by
  have measured : (steerUnit i s).measured = (limitedUnit i s).measured := by rw [steerUnit_frame]
  rw [measured, steerUnit_fault]
  show (SteerGov.reserved _ _ ((limitedUnit i s).moved _ _)).command = _ ∧
    (SteerGov.reserved _ _ ((limitedUnit i s).moved _ _)).target = _ ∧
    (SteerGov.reserved _ _ ((limitedUnit i s).moved _ _)).freeze = _
  rw [SteerGov.moved_none ((limitedUnit_command i s).trans h)]
  exact ⟨rfl, rfl, rfl⟩

end

/-! ### What the step hands over (R9, R31, R139) -/

section
variable (i : SteerIn) (s : State)

theorem steerStepState_steer : (steerStepState i s).steer = steerUnit i s := by
  rw [steerStepState_frame]

theorem steerStepState_gov : (steerStepState i s).gov = (steerUpdates i s).foldl applyGov s.gov := by
  simp [steerStepState, updateGov_gov]

/-- The two governor records of a steer step, and the seven others. -/
theorem steerStepState_records : (steerStepState i s).gov = { s.gov with
    steerCurve := (applyGov s.gov
      (.steerCurve, steerCurveUpdate s.steer.curve (steerUnit i s).command)).steerCurve
    steerReserve := if (steerUnit i s).low = true then ⟨true, s.param .steerReserveSpeed, true⟩
      else { s.gov.steerReserve with active := false } } := by
  rw [steerStepState_gov]
  simp only [steerUpdates, List.foldl, applyGov, steerUnit_curve]
  cases steerCurveUpdate s.steer.curve (steerUnit i s).command <;> split <;> simp_all <;> rfl

/-- The envelope is resolved at a steer step exactly when a governor record changes. -/
theorem steerStepState_env : ((steerStepState i s).gov = s.gov → (steerStepState i s).env = s.env) ∧
    ((steerStepState i s).gov ≠ s.gov → ResolvedFrom s.env.applied (steerStepState i s)) := by
  obtain ⟨same, changed⟩ := updateGov_env (steerUpdates i s) { s with steer := steerUnit i s }
  have limits : SameLimits (updateGov (steerUpdates i s) { s with steer := steerUnit i s })
      (steerStepState i s) := by constructor <;> simp [steerStepState]
  have table : (steerStepState i s).table =
      (updateGov (steerUpdates i s) { s with steer := steerUnit i s }).table := by
    simp [steerStepState]
  rw [limits.gov, limits.env]
  exact ⟨same, fun hne => (changed hne).sameTable table limits⟩

end

/-! ### The target and the command (R143) -/

theorem steerHolds_iff {d : Drive} :
    d.steerHolds = true ↔ d = .parked ∨ d = .starting ∨ d = .tripped := by
  cases d <;> simp [Drive.steerHolds]

/-- A command moved by at most the rate step toward a target within the limit is above the limit only while
it comes down. -/
theorem command_toward_target {δ aim target next : Int} {alim rate : Nat}
    (ht : target = max (-(alim : Int)) (min aim alim))
    (hn : next = δ + max (-(rate : Int)) (min (target - δ) rate)) :
    (next - δ).natAbs ≤ rate ∧ (1 ≤ rate → alim < next.natAbs → next.natAbs < δ.natAbs) := by
  omega

/-- Settles O46, stage by stage: the samples, the limits, then the command, moved or seeded. -/
theorem Settled.steerCommand : Obligations.SteerCommand := by
  intro i s
  obtain ⟨same, changed⟩ := steerStepState_env i s
  refine ⟨steerStepState i s, rfl, ?_⟩
  rw [steerStepState_steer]
  refine ⟨fun h => ?_, fun h => ?_, fun h => ?_, fun h => ?_, steerUnit_alim i s,
    steerUnit_rateStep i s, steerUnit_curve s i, fun δ aim hc haim => ?_, fun hc => ?_, ?_, same, changed⟩
  · rw [steerUnit_measured]; exact if_pos h
  · rw [steerUnit_measured]; exact if_neg h
  · rw [steerUnit_pressure]; exact if_pos h
  · rw [steerUnit_pressure]; exact if_neg h
  · obtain ⟨command, target, freeze⟩ := steerUnit_moves (i := i) hc
    have aimed : steerAim s.drive.state s.torque.steerDemand (limitedUnit i s) δ = aim := by
      rw [haim, freeze, steerUnit_fault, steerAim]
      simp only [steerHolds_iff]
      rfl
    have within : steerTarget s.drive.state s.torque.steerDemand (limitedUnit i s) δ =
        max (-((steerUnit i s).alim : Int)) (min aim (steerUnit i s).alim) := by
      rw [steerTarget, aimed, steerUnit_frame i s]; rfl
    obtain ⟨near, down⟩ := command_toward_target within rfl
    refine ⟨_, _, command, target, within, rfl, near, fun hr => down ?_⟩
    rw [steerUnit_rateStep]
    omega
  · obtain ⟨command, target, freeze⟩ := steerUnit_seeds (i := i) hc
    refine ⟨target, command, fun hf hs hn => ?_⟩
    have untracked : ¬(s.steer.sampled i).Tracks (s.param .steerTrackErr) :=
      fun ⟨_, _, _, hδ, _⟩ => nomatch hc.symm.trans hδ
    have unfrozen : (trackedUnit i s).freeze = none := by
      rw [trackedUnit_fault i hs, SteerGov.recovered_resets untracked]; exact hn
    rw [freeze, if_pos ⟨hf, unfrozen⟩]
  · have gov : (steerStepState i s).gov = { s.gov with
        steerReserve := (steerStepState i s).gov.steerReserve
        steerCurve := (steerStepState i s).gov.steerCurve } := by rw [steerStepState_records]
    conv_lhs => rw [steerStepState_frame, gov]

end Sys2Proof.Machine
end

section
/-! STEER_FAULT found and cleared (R147, R148), the accumulator reserve (R149, R150), and the conditions that
they hand (R172): O47. -/

namespace Sys2Proof.Machine

/-! ### The measured angle against the command (R140, R147) -/

/-- The reading of the measured angle is in range (R140). -/
def AngleInRange (i : SteerIn) : Prop := i.angleLineGood = true ∧ -500 ≤ i.angle ∧ i.angle ≤ 500

section
variable {i : SteerIn} {s : State} {n : Nat}

theorem sampled_within (h : AngleInRange i) : (s.steer.sampled i).measured = some i.angle := if_pos h

theorem sampled_without (h : ¬AngleInRange i) : (s.steer.sampled i).measured = none := if_neg h

theorem sampled_none_iff : (s.steer.sampled i).measured = none ↔ ¬AngleInRange i := by
  refine ⟨fun h hw => ?_, sampled_without⟩
  rw [sampled_within hw] at h
  cases h

theorem sampled_some_iff {m : Int} :
    (s.steer.sampled i).measured = some m ↔ AngleInRange i ∧ i.angle = m := by
  by_cases hw : AngleInRange i
  · simp [sampled_within hw, hw]
  · simp [sampled_without hw, hw]

theorem sampled_strays_iff : (s.steer.sampled i).Strays n ↔
    AngleInRange i ∧ ∃ δ, s.steer.command = some δ ∧ n < (i.angle - δ).natAbs := by
  constructor
  · rintro ⟨m, δ, hm, hc, hlt⟩
    obtain ⟨hw, rfl⟩ := sampled_some_iff.1 hm
    exact ⟨hw, δ, hc, hlt⟩
  · rintro ⟨hw, δ, hc, hlt⟩
    exact ⟨i.angle, δ, sampled_within hw, hc, hlt⟩

theorem sampled_tracks_iff : (s.steer.sampled i).Tracks n ↔
    AngleInRange i ∧ ∃ δ, s.steer.command = some δ ∧ (i.angle - δ).natAbs ≤ n := by
  constructor
  · rintro ⟨m, δ, hm, hc, hle⟩
    obtain ⟨hw, rfl⟩ := sampled_some_iff.1 hm
    exact ⟨hw, δ, hc, hle⟩
  · rintro ⟨hw, δ, hc, hle⟩
    exact ⟨i.angle, δ, sampled_within hw, hc, hle⟩

end

/-! ### The fault state after the step (R144, R147, R148) -/

/-- The step finds the tracking fault: the reading is out of range, or the tenth error in a row (R147). -/
def FaultFound (i : SteerIn) (s : State) : Prop :=
  s.steer.fault = false ∧ ((s.steer.sampled i).measured = none ∨
    ((s.steer.sampled i).Strays (s.param .steerTrackErr) ∧ 9 ≤ s.steer.errors))

/-- The step clears it: the tenth good reading in a row (R148). -/
def FaultClears (i : SteerIn) (s : State) : Prop :=
  s.steer.fault = true ∧ (s.steer.sampled i).Tracks (s.param .steerTrackErr) ∧ 9 ≤ s.steer.recovery

section
variable {i : SteerIn} {s : State}

/-- The freeze angle after the step: that of stage 2, but for a seeding step in a STEER_FAULT that has none
(R144). -/
theorem steerUnit_freeze : (steerUnit i s).freeze =
    if s.steer.command = none ∧ (trackedUnit i s).fault = true ∧ (trackedUnit i s).freeze = none then
      (s.steer.sampled i).measured
    else (trackedUnit i s).freeze := by
  cases hc : s.steer.command with
  | none =>
    obtain ⟨-, -, freeze⟩ := steerUnit_seeds (i := i) hc
    rw [freeze, steerUnit_fault, steerUnit_measured]
    simp
  | some δ =>
    obtain ⟨-, -, freeze⟩ := steerUnit_moves (i := i) hc
    rw [freeze]
    simp

theorem trackedUnit_found (h : FaultFound i s) : trackedUnit i s =
    (s.steer.sampled i).faulted ((s.steer.sampled i).measured.or s.steer.command) := by
  obtain ⟨clear, lost | ⟨strays, tenth⟩⟩ := h
  · rw [trackedUnit_clear i clear, SteerGov.watched_lost lost, lost]; rfl
  · rw [trackedUnit_clear i clear, SteerGov.watched_tenth strays tenth]
    obtain ⟨m, -, hm, -⟩ := strays
    rw [hm]; rfl

theorem steerUnit_found (h : FaultFound i s) : (steerUnit i s).fault = true ∧
    (steerUnit i s).errors = 0 ∧ (steerUnit i s).recovery = 0 ∧
    (steerUnit i s).freeze = (s.steer.sampled i).measured.or s.steer.command := by
  rw [steerUnit_fault, steerUnit_errors, steerUnit_recovery, steerUnit_freeze, trackedUnit_found h]
  refine ⟨rfl, rfl, rfl, ?_⟩
  split
  · next hn => rw [hn.1, Option.or_none]
  · rfl

theorem steerUnit_clears (h : FaultClears i s) : (steerUnit i s).fault = false ∧
    (steerUnit i s).recovery = 0 ∧ (steerUnit i s).freeze = none := by
  obtain ⟨fault, tracks, tenth⟩ := h
  rw [steerUnit_fault, steerUnit_recovery, steerUnit_freeze, trackedUnit_fault i fault,
    SteerGov.recovered_clears tracks tenth]
  exact ⟨rfl, rfl, if_neg fun hn => nomatch hn.2.1⟩

/-- Without a fault, found neither before nor now, the error count alone goes on (R147). -/
theorem steerUnit_watched (clear : s.steer.fault = false) (h : ¬FaultFound i s) :
    (steerUnit i s).fault = false ∧ (steerUnit i s).recovery = s.steer.recovery ∧
    (steerUnit i s).freeze = s.steer.freeze ∧
    ((s.steer.sampled i).Strays (s.param .steerTrackErr) →
      (steerUnit i s).errors = s.steer.errors + 1) ∧
    (¬(s.steer.sampled i).Strays (s.param .steerTrackErr) → (steerUnit i s).errors = 0) := by
  have read : (s.steer.sampled i).measured ≠ none := fun hm => h ⟨clear, .inl hm⟩
  have e : trackedUnit i s =
      { s.steer.sampled i with errors := (trackedUnit i s).errors } ∧
      ((s.steer.sampled i).Strays (s.param .steerTrackErr) →
        (trackedUnit i s).errors = s.steer.errors + 1) ∧
      (¬(s.steer.sampled i).Strays (s.param .steerTrackErr) → (trackedUnit i s).errors = 0) := by
    rw [trackedUnit_clear i clear]
    by_cases strays : (s.steer.sampled i).Strays (s.param .steerTrackErr)
    · have few : s.steer.errors < 9 := Nat.not_le.1 fun tenth => h ⟨clear, .inr ⟨strays, tenth⟩⟩
      rw [SteerGov.watched_counts strays few]
      exact ⟨rfl, fun _ => rfl, absurd strays⟩
    · rw [SteerGov.watched_resets read strays]
      exact ⟨rfl, fun hs => absurd hs strays, fun _ => rfl⟩
  obtain ⟨frame, counts, resets⟩ := e
  have fault : (trackedUnit i s).fault = false := by rw [frame]; exact clear
  have freeze : (trackedUnit i s).freeze = s.steer.freeze := by rw [frame]; rfl
  rw [steerUnit_fault, steerUnit_errors, steerUnit_recovery, steerUnit_freeze, fault, freeze]
  exact ⟨rfl, by rw [frame]; rfl, by simp, counts, resets⟩

/-- In a STEER_FAULT that does not clear the recovery count alone goes on, but for the freeze angle of a
seeding step (R144, R148). -/
theorem steerUnit_recovers (fault : s.steer.fault = true) (h : ¬FaultClears i s) :
    (steerUnit i s).fault = true ∧ (steerUnit i s).errors = s.steer.errors ∧
    (steerUnit i s).freeze = (if s.steer.command = none ∧ s.steer.freeze = none then
      (s.steer.sampled i).measured else s.steer.freeze) ∧
    ((s.steer.sampled i).Tracks (s.param .steerTrackErr) →
      (steerUnit i s).recovery = s.steer.recovery + 1) ∧
    (¬(s.steer.sampled i).Tracks (s.param .steerTrackErr) → (steerUnit i s).recovery = 0) := by
  have e : trackedUnit i s =
      { s.steer.sampled i with recovery := (trackedUnit i s).recovery } ∧
      ((s.steer.sampled i).Tracks (s.param .steerTrackErr) →
        (trackedUnit i s).recovery = s.steer.recovery + 1) ∧
      (¬(s.steer.sampled i).Tracks (s.param .steerTrackErr) → (trackedUnit i s).recovery = 0) := by
    rw [trackedUnit_fault i fault]
    by_cases tracks : (s.steer.sampled i).Tracks (s.param .steerTrackErr)
    · have few : s.steer.recovery < 9 := Nat.not_le.1 fun tenth => h ⟨fault, tracks, tenth⟩
      rw [SteerGov.recovered_counts tracks few]
      exact ⟨rfl, fun _ => rfl, absurd tracks⟩
    · rw [SteerGov.recovered_resets tracks]
      exact ⟨rfl, fun ht => absurd ht tracks, fun _ => rfl⟩
  obtain ⟨frame, counts, resets⟩ := e
  have stands : (trackedUnit i s).fault = true := by rw [frame]; exact fault
  have freeze : (trackedUnit i s).freeze = s.steer.freeze := by rw [frame]; rfl
  rw [steerUnit_fault, steerUnit_errors, steerUnit_recovery, steerUnit_freeze, stands, freeze]
  exact ⟨rfl, by rw [frame]; rfl, by simp, counts, resets⟩

end

/-! ### The reserve flags (R149, R150) -/

theorem flagAfter_iff {flag : Bool} {threshold p : Nat} : flagAfter flag threshold p = true ↔
    p < threshold ∨ (flag = true ∧ p < threshold + 50) := by
  cases flag <;> simp [flagAfter]
  omega

section
variable (i : SteerIn) (s : State)

theorem steerUnit_low : (steerUnit i s).low =
    flagAfter s.steer.low (s.param .steerLow) ((s.steer.sampled i).pressure.getD 0) := by
  have e : (steerUnit i s).low = flagAfter (limitedUnit i s).low (s.param .steerLow)
      ((limitedUnit i s).pressure.getD 0) := by
    show (SteerGov.reserved _ _ ((limitedUnit i s).moved _ _)).low = _
    rw [SteerGov.moved_frame]; rfl
  rw [e, limitedUnit_frame]; rfl

theorem steerUnit_crit : (steerUnit i s).crit =
    flagAfter s.steer.crit (s.param .steerCrit) ((s.steer.sampled i).pressure.getD 0) := by
  have e : (steerUnit i s).crit = flagAfter (limitedUnit i s).crit (s.param .steerCrit)
      ((limitedUnit i s).pressure.getD 0) := by
    show (SteerGov.reserved _ _ ((limitedUnit i s).moved _ _)).crit = _
    rw [SteerGov.moved_frame]; rfl
  rw [e, limitedUnit_frame]; rfl

end

/-! ### A condition cause handed or taken away (R172) -/

theorem HoldSet.has_add {h : HoldSet} {c x : HoldCause} :
    (h.add c).has x = true ↔ x = c ∨ h.has x = true := by
  cases c <;> cases x <;> simp [add, has]

section
variable {c : HoldCause} {s : State}

/-- A hold cause handed in READY or HOLD leaves HOLD with the cause in the hold set. -/
theorem handHold_holds (h : s.drive.state = .ready ∨ s.drive.state = .hold) :
    (handHold c s).drive.state = .hold ∧ (handHold c s).drive.hold.has c = true := by
  rcases h with h | h
  · rw [handHold_ready h, enterHold, enter_drive]
    exact ⟨rfl, HoldSet.has_add.2 (.inl rfl)⟩
  · rw [handHold_hold h]
    exact ⟨h, HoldSet.has_add.2 (.inl rfl)⟩

/-- HOLD and the causes in the hold set stand through a condition handed or taken away. -/
theorem handCondition_keepsHold {before after : Bool} (h : s.drive.state = .hold) :
    (handCondition c before after s).drive.state = .hold ∧
    ∀ x, s.drive.hold.has x = true → (handCondition c before after s).drive.hold.has x = true := by
  unfold handCondition
  split
  · exact ⟨h, fun _ => id⟩
  split
  · rw [handHold_hold h]
    exact ⟨h, fun x hx => HoldSet.has_add.2 (.inr hx)⟩
  · exact ⟨h, fun _ => id⟩

theorem handCondition_same (b : Bool) : handCondition c b b s = s := if_pos rfl

theorem handCondition_cleared : handCondition c true false s =
    { s with drive := { s.drive with conditions := s.drive.conditions.remove c } } := rfl

theorem handCondition_found : handCondition c false true s = handHold c s := rfl

/-- A condition leaves READY and HOLD for HOLD or as they are. -/
theorem handCondition_running {before after : Bool} (h : s.drive.state = .ready ∨ s.drive.state = .hold) :
    (handCondition c before after s).drive.state = .ready ∨
      (handCondition c before after s).drive.state = .hold := by
  unfold handCondition
  split
  · exact h
  split
  · exact .inr (handHold_holds h).1
  · exact h

theorem handCondition_crit_fault {before after : Bool} :
    (handCondition .steerCrit before after s).drive.conditions.steerFault =
      s.drive.conditions.steerFault := by
  unfold handCondition
  split
  · rfl
  split
  · rw [handHold_conditions]; rfl
  · rfl

end

/-! ### What the step hands to the drive (R172) -/

section
variable (i : SteerIn) (s : State)

/-- The state before the critical flag's condition is handed. -/
def faultHanded : State :=
  handCondition .steerFault s.steer.fault (steerUnit i s).fault
    (updateGov (steerUpdates i s) { s with steer := steerUnit i s })

theorem steerStepState_eq : steerStepState i s =
    handCondition .steerCrit s.steer.crit (steerUnit i s).crit (faultHanded i s) := rfl

end

section
variable {i : SteerIn} {s : State}

theorem exec_steerFault_found (before : s.steer.fault = false) (after : (steerUnit i s).fault = true) :
    exec (.steerFault i) s = .next (steerStepState i s) :=
  congrArg Host.Outcome.next (whenItComesAbout_of (by simp [steerStepState_steer, before, after]))

theorem exec_steerFault_stands (h : s.steer.fault = true ∨ (steerUnit i s).fault = false) :
    exec (.steerFault i) s = .next s := by
  show Host.Outcome.next (whenItComesAbout _ _ _) = _
  rcases h with h | h <;> simp [whenItComesAbout, steerStepState_steer, h]

theorem exec_steerFaultClear_clears (before : s.steer.fault = true)
    (after : (steerUnit i s).fault = false) :
    exec (.steerFaultClear i) s = .next (steerStepState i s) :=
  congrArg Host.Outcome.next (whenItComesAbout_of (by simp [steerStepState_steer, before, after]))

theorem exec_steerFaultClear_stands (h : s.steer.fault = false ∨ (steerUnit i s).fault = true) :
    exec (.steerFaultClear i) s = .next s := by
  show Host.Outcome.next (whenItComesAbout _ _ _) = _
  rcases h with h | h <;> simp [whenItComesAbout, steerStepState_steer, h]

/-- STEER_FAULT found: its condition, and HOLD (R147, R172). -/
theorem steerStepState_hands_fault (before : s.steer.fault = false)
    (after : (steerUnit i s).fault = true) :
    (steerStepState i s).drive.conditions.steerFault = true ∧
    (s.drive.state = .ready ∨ s.drive.state = .hold → (steerStepState i s).drive.state = .hold ∧
      (steerStepState i s).drive.hold.steerFault = true) ∧
    (s.drive.state = .ready → PendingOnBoth .holdEntered (steerStepState i s)) := by
  have handed : faultHanded i s =
      handHold .steerFault (updateGov (steerUpdates i s) { s with steer := steerUnit i s }) := by
    rw [faultHanded, before, after]; rfl
  rw [steerStepState_eq, handed]
  refine ⟨?_, fun h => ?_, fun h => ?_⟩
  · rw [handCondition_crit_fault, handHold_conditions]; rfl
  · obtain ⟨hold, cause⟩ := handHold_holds (c := .steerFault)
      (s := updateGov (steerUpdates i s) { s with steer := steerUnit i s }) (by simpa using h)
    obtain ⟨hold, causes⟩ := handCondition_keepsHold (c := .steerCrit) (before := s.steer.crit)
      (after := (steerUnit i s).crit) hold
    exact ⟨hold, causes .steerFault cause⟩
  · exact (DriveStep.handCondition _ _ _ _).pending _ (handHold_raises (by simpa using h))

/-- STEER_FAULT cleared: its condition is taken away, and HOLD stands (R148, R172). -/
theorem steerStepState_clears_fault (before : s.steer.fault = true)
    (after : (steerUnit i s).fault = false) :
    (steerStepState i s).drive.conditions.steerFault = false ∧
    (s.drive.state = .hold → (steerStepState i s).drive.state = .hold ∧
      (s.drive.hold.steerFault = true → (steerStepState i s).drive.hold.steerFault = true)) := by
  have handed : (faultHanded i s).drive =
      { s.drive with conditions := s.drive.conditions.remove .steerFault } := by
    rw [faultHanded, before, after, handCondition_cleared, updateGov_drive]
  rw [steerStepState_eq]
  refine ⟨?_, fun h => ?_⟩
  · rw [handCondition_crit_fault, handed]; rfl
  · obtain ⟨hold, causes⟩ := handCondition_keepsHold (c := .steerCrit) (before := s.steer.crit)
      (after := (steerUnit i s).crit) (s := faultHanded i s) (by rw [handed]; exact h)
    refine ⟨hold, fun hf => causes .steerFault ?_⟩
    rw [handed]; exact hf

/-- The critical flag raised: its condition, and HOLD (R150, R172). -/
theorem steerStepState_hands_crit (before : s.steer.crit = false)
    (after : (steerUnit i s).crit = true) :
    (steerStepState i s).drive.conditions.steerCrit = true ∧
    (s.drive.state = .ready ∨ s.drive.state = .hold → (steerStepState i s).drive.state = .hold ∧
      (steerStepState i s).drive.hold.steerCrit = true) := by
  rw [steerStepState_eq, before, after, handCondition_found]
  refine ⟨by rw [handHold_conditions]; rfl, fun h => handHold_holds (handCondition_running ?_)⟩
  simpa using h

/-- The critical flag cleared. -/
theorem steerStepState_clears_crit (before : s.steer.crit = true)
    (after : (steerUnit i s).crit = false) :
    (steerStepState i s).drive.conditions.steerCrit = false := by
  rw [steerStepState_eq, before, after]; rfl

/-- Without a change of either the drive, the torque and the links stand. -/
theorem steerStepState_quiet (fault : s.steer.fault = (steerUnit i s).fault)
    (crit : s.steer.crit = (steerUnit i s).crit) :
    (steerStepState i s).drive = s.drive ∧ (steerStepState i s).torque = s.torque ∧
      (steerStepState i s).ports = s.ports := by
  rw [steerStepState_eq, faultHanded, fault, crit, handCondition_same, handCondition_same,
    updateGov_keeps]
  exact ⟨rfl, rfl, rfl⟩

end

/-- Settles O47: the four cases of the fault state before and after the step, then the reserve flags, then
what is handed. -/
theorem Settled.steerFaultsAndReserve : Obligations.SteerFaultsAndReserve := by
  intro i s within found clears p hw hf hc hp
  change within ↔ AngleInRange i at hw
  have found_iff : found ↔ FaultFound i s := by
    rw [hf, FaultFound, sampled_none_iff, sampled_strays_iff, hw]
    by_cases h : AngleInRange i <;> simp [h, and_comm]
  have clears_iff : clears ↔ FaultClears i s := by
    rw [hc, FaultClears, sampled_tracks_iff, hw]
    by_cases h : AngleInRange i <;> simp [h, and_comm]
  have pressure : (s.steer.sampled i).pressure.getD 0 = p := by
    rw [hp]; dsimp only [SteerGov.sampled]; split <;> rfl
  have low : (steerUnit i s).low = true ↔ p < s.param .steerLow ∨
      (s.steer.low = true ∧ p < s.param .steerLow + 50) := by
    rw [steerUnit_low, pressure, flagAfter_iff]
  have crit : (steerUnit i s).crit = true ↔ p < s.param .steerCrit ∨
      (s.steer.crit = true ∧ p < s.param .steerCrit + 50) := by
    rw [steerUnit_crit, pressure, flagAfter_iff]
  refine ⟨steerStepState i s, rfl, ?_⟩
  rw [steerStepState_steer, steerStepState_records]
  refine ⟨fun h => ?_, fun h => ?_, fun h clear => ?_,
    fun fault => exec_steerFault_stands (.inl fault), fun clear => exec_steerFaultClear_stands (.inl clear),
    fun h fault => ?_, low, crit, rfl, steerStepState_hands_crit, steerStepState_clears_crit,
    fun hcrit hfault => steerStepState_quiet hfault hcrit⟩
  · have before : s.steer.fault = false := (found_iff.1 h).1
    obtain ⟨after, errors, recovery, freeze⟩ := steerUnit_found (found_iff.1 h)
    obtain ⟨condition, held, raised⟩ := steerStepState_hands_fault before after
    refine ⟨exec_steerFault_found before after, after, errors, recovery, condition,
      fun δ hδ => ⟨fun hin => ?_, fun hout => ?_⟩, fun hnone => ?_, held, raised⟩
    · rw [freeze, sampled_within (hw.1 hin)]; rfl
    · rw [freeze, sampled_without (mt hw.2 hout), hδ]; rfl
    · obtain ⟨-, lost | ⟨⟨-, δ, -, hδ, -⟩, -⟩⟩ := found_iff.1 h
      · rw [freeze, lost, hnone]; rfl
      · exact nomatch hnone.symm.trans hδ
  · have before : s.steer.fault = true := (clears_iff.1 h).1
    obtain ⟨after, recovery, freeze⟩ := steerUnit_clears (clears_iff.1 h)
    obtain ⟨condition, held⟩ := steerStepState_clears_fault before after
    exact ⟨exec_steerFaultClear_clears before after, after, recovery, freeze, condition, held⟩
  · have hin : AngleInRange i := by
      by_contra hout
      exact h (found_iff.2 ⟨clear, .inl (sampled_without hout)⟩)
    obtain ⟨after, recovery, freeze, counts, resets⟩ := steerUnit_watched clear (mt found_iff.2 h)
    rw [sampled_strays_iff] at counts resets
    refine ⟨after, exec_steerFault_stands (.inr after),
      fun δ hδ hlt => counts ⟨hin, δ, hδ, hlt⟩, fun δ hδ hle => resets ?_, fun _ hnone => resets ?_,
      recovery, freeze⟩
    · rintro ⟨-, δ', hδ', hlt⟩
      obtain rfl := Option.some.inj (hδ.symm.trans hδ')
      omega
    · rintro ⟨-, δ, hδ, -⟩
      exact nomatch hnone.symm.trans hδ
  · obtain ⟨after, errors, freeze, counts, resets⟩ := steerUnit_recovers fault (mt clears_iff.2 h)
    rw [sampled_tracks_iff] at counts resets
    refine ⟨after, exec_steerFaultClear_stands (.inr after),
      fun δ hδ hin hle => counts ⟨hw.1 hin, δ, hδ, hle⟩, fun hbad => resets ?_, errors,
      fun f hfrozen => ?_, fun hfree => ⟨fun hnone hin => ?_, fun hheld => ?_⟩⟩
    · rintro ⟨hin, δ, hδ, hle⟩
      rcases hbad with hout | hnone | ⟨δ', hδ', hlt⟩
      · exact hout (hw.2 hin)
      · exact nomatch hnone.symm.trans hδ
      · obtain rfl := Option.some.inj (hδ.symm.trans hδ')
        omega
    · rw [freeze, hfrozen]; simp
    · rw [freeze, if_pos ⟨hnone, hfree⟩, sampled_within (hw.1 hin)]
    · rw [freeze]
      rcases hheld with hsome | hout
      · rw [if_neg fun hn => hsome hn.1, hfree]
      · rw [sampled_without (mt hw.2 hout), hfree, ite_self]

end Sys2Proof.Machine
end

section
/-! The steer curve (R141), STEER_CURVE from the command (R146) and SET_STEER_POINT (R151): O48. -/

namespace Sys2Proof.Machine

/-! ### The order of the curve (R141) -/

section
variable {c : Vector CurvePoint 8} (h : CurveInOrder c) {i j : Fin 8}
include h

theorem CurveInOrder.points (hij : i < j) :
    (c.get i).speed < (c.get j).speed ∧ (c.get j).angle ≤ (c.get i).angle := by
  obtain ⟨-, -, order⟩ := h
  exact order i j hij

theorem CurveInOrder.speed_lt (hij : i < j) : (c.get i).speed < (c.get j).speed := (h.points hij).1

theorem CurveInOrder.speed_le (hij : i ≤ j) : (c.get i).speed ≤ (c.get j).speed := by
  rcases hij.eq_or_lt with rfl | hlt
  · exact Nat.le_refl _
  · exact (h.speed_lt hlt).le

theorem CurveInOrder.angle_le (hij : i ≤ j) : (c.get j).angle ≤ (c.get i).angle := by
  rcases hij.eq_or_lt with rfl | hlt
  · exact Nat.le_refl _
  · exact (h.points hlt).2

end

/-! ### The segments and the angle on them (R141) -/

/-- The k-th segment of a curve. -/
def curveSegment (c : Vector CurvePoint 8) (k : Fin 7) : CurvePoint × CurvePoint :=
  (c.get k.castSucc, c.get k.succ)

theorem curveSegments_eq (c : Vector CurvePoint 8) :
    curveSegments c = (List.finRange 7).map (curveSegment c) := by
  refine List.ext_getElem (by simp [curveSegments]) fun n h1 h2 => ?_
  simp [curveSegments, curveSegment, Vector.get]

/-- The angle at a speed on a segment. -/
def angleOnSegment (x : CurvePoint × CurvePoint) (v : Nat) : Nat :=
  x.1.angle - (v - x.1.speed) * (x.1.angle - x.2.angle) / (x.2.speed - x.1.speed)

theorem angleOnSegment_start (x : CurvePoint × CurvePoint) :
    angleOnSegment x x.1.speed = x.1.angle := by simp [angleOnSegment]

theorem angleOnSegment_end {x : CurvePoint × CurvePoint} (hs : x.1.speed < x.2.speed)
    (ha : x.2.angle ≤ x.1.angle) : angleOnSegment x x.2.speed = x.2.angle := by
  rw [angleOnSegment, Nat.mul_div_cancel_left _ (Nat.sub_pos_of_lt hs)]
  omega

section
variable {c : Vector CurvePoint 8} {v : Nat}

/-- The curve goes by the first segment that spans the speed. -/
theorem curveAt_first {k : Fin 7} (h1 : (c.get k.castSucc).speed ≤ v) (h2 : v ≤ (c.get k.succ).speed)
    (first : ∀ j : Fin 7, v ≤ (c.get j.succ).speed → k ≤ j) :
    curveAt c v = angleOnSegment (curveSegment c k) v := by
  have found : (curveSegments c).find?
      (fun x => decide (x.1.speed ≤ v) && decide (v ≤ x.2.speed)) = some (curveSegment c k) := by
    rw [curveSegments_eq, List.find?_map, find?_least (f := Fin.val) (List.pairwise_lt_finRange 7)
      (List.mem_finRange k) (by simp [curveSegment, h1, h2]) fun j _ hj => first j ?_]
    · rfl
    · simp only [Function.comp_apply, Bool.and_eq_true, decide_eq_true_eq] at hj
      exact hj.2
  simp only [curveAt, found]
  rfl

/-- Between two points of a curve in order. -/
theorem curveAt_between (h : CurveInOrder c) {k : Fin 7} (h1 : (c.get k.castSucc).speed ≤ v)
    (h2 : v ≤ (c.get k.succ).speed) : curveAt c v = angleOnSegment (curveSegment c k) v := by
  by_cases inside : k.val = 0 ∨ (c.get k.castSucc).speed < v
  · refine curveAt_first h1 h2 fun j hj => ?_
    by_contra hn
    have earlier : j.val < k.val := not_le.1 hn
    have := h.speed_le (i := j.succ) (j := k.castSucc) earlier
    omega
  · obtain ⟨hk, hv⟩ := not_or.1 inside
    have at_start : v = (c.get k.castSucc).speed := by omega
    obtain ⟨j, next⟩ : ∃ j : Fin 7, j.succ = k.castSucc :=
      ⟨⟨k.val - 1, by omega⟩, Fin.ext (by simp; omega)⟩
    obtain ⟨faster, lower⟩ := h.points (Fin.castSucc_lt_succ (i := j))
    rw [curveAt_first (k := j) (by rw [at_start, ← next]; omega) (by rw [at_start, next]) fun l hl => ?_]
    · have hend : v = (curveSegment c j).2.speed := by rw [at_start, ← next]; rfl
      have hstart : v = (curveSegment c k).1.speed := at_start
      calc angleOnSegment (curveSegment c j) v = (curveSegment c j).2.angle := by
            rw [hend]; exact angleOnSegment_end faster lower
        _ = (curveSegment c k).1.angle := by
            show (c.get j.succ).angle = _
            rw [next]; rfl
        _ = _ := by rw [hstart, angleOnSegment_start]
    · by_contra hn
      have earlier : l.succ < k.castSucc := by rw [← next]; exact Fin.succ_lt_succ_iff.2 (not_le.1 hn)
      have := h.speed_lt earlier
      omega

/-- Past the last point of a curve in order. -/
theorem curveAt_past (h : CurveInOrder c) (hv : (c.get 7).speed ≤ v) :
    curveAt c v = (c.get 7).angle := by
  rcases hv.eq_or_lt with rfl | hlt
  · obtain ⟨faster, lower⟩ := h.points (i := 6) (j := 7) (by decide)
    rw [curveAt_between (k := 6) h faster.le (Nat.le_refl _)]
    exact angleOnSegment_end faster lower
  · have none : (curveSegments c).find?
        (fun x => decide (x.1.speed ≤ v) && decide (v ≤ x.2.speed)) = none := by
      rw [curveSegments_eq, List.find?_map, Option.map_eq_none_iff, List.find?_eq_none]
      intro k _ hk
      simp only [Function.comp_apply, Bool.and_eq_true, decide_eq_true_eq] at hk
      have := h.speed_le (i := k.succ) (j := 7) (Fin.le_last _)
      exact absurd (hk.2.trans this) (Nat.not_le.2 hlt)
    simp only [curveAt, none]
    rfl

end

/-! ### STEER_CURVE from the command (R146) -/

section
variable {c : Vector CurvePoint 8} {d : Nat}

/-- The speed allowed goes by the last segment that spans the angle. -/
theorem speedAllowed_last {k : Fin 7} (h1 : d ≤ (c.get k.castSucc).angle)
    (h2 : (c.get k.succ).angle ≤ d) (last : ∀ j : Fin 7, k < j → (c.get j.castSucc).angle < d) :
    speedAllowed c d = speedOnSegment (curveSegment c k) d := by
  have found : (curveSegments c).reverse.find?
      (fun x => decide (d ≤ x.1.angle) && decide (x.2.angle ≤ d)) = some (curveSegment c k) := by
    rw [curveSegments_eq, ← List.map_reverse, List.find?_map,
      find?_least (f := fun k : Fin 7 => 6 - k.val) (g := k) (by decide) (by simp)
        (by simp [curveSegment, h1, h2]) fun j _ hj => ?_]
    · rfl
    · simp only [Function.comp_apply, Bool.and_eq_true, decide_eq_true_eq] at hj
      by_contra hlt
      have := last j (Fin.lt_def.2 (by omega))
      exact absurd hj.1 (Nat.not_le.2 this)
  simp only [speedAllowed, found]

end

section
variable {i : SteerIn} {s : State}

theorem steerStepState_dormant
    (h : steerCurveUpdate s.steer.curve (steerUnit i s).command = none) :
    (steerStepState i s).gov.steerCurve = { s.gov.steerCurve with active := false } := by
  rw [steerStepState_records, h]; rfl

theorem steerStepState_allows {v : Nat}
    (h : steerCurveUpdate s.steer.curve (steerUnit i s).command = some v) :
    (steerStepState i s).gov.steerCurve = ⟨true, v, true⟩ := by
  rw [steerStepState_records, h]; rfl

end

/-! ### SET_STEER_POINT (R151) -/

/-- What SET_STEER_POINT's third check asks. -/
theorem pointFits_iff {c : Vector CurvePoint 8} {n : Fin 8} {p : CurvePoint} {rated : Nat} :
    pointFits c n.val p rated = true ↔ (n = 0 → p.speed = 0) ∧ p.angle ≤ rated ∧
      (∀ m : Fin 8, m.val + 1 = n.val → (c.get m).speed < p.speed ∧ p.angle ≤ (c.get m).angle) ∧
      (∀ m : Fin 8, n.val + 1 = m.val → p.speed < (c.get m).speed ∧ (c.get m).angle ≤ p.angle) := by
  have listed (i : Fin 8) : c.toList[i.val]? = some (c.get i) := by simp [Vector.get]
  constructor
  · intro h
    obtain ⟨first, before, after⟩ := pointFits_order h
    simp only [pointFits, Bool.and_eq_true, decide_eq_true_eq] at h
    exact ⟨fun hn => first (by rw [hn]; rfl), h.2, before, fun m hm => after m hm.symm⟩
  · rintro ⟨first, range, before, after⟩
    simp only [pointFits, Bool.and_eq_true, Bool.or_eq_true, bne_iff_ne, beq_iff_eq, ne_eq,
      decide_eq_true_eq]
    refine ⟨⟨⟨?_, ?_⟩, ?_⟩, range⟩
    · by_cases hn : n.val = 0
      · exact .inr (first (Fin.ext hn))
      · exact .inl hn
    · by_cases hn : n.val = 0
      · exact .inl hn
      · have below := before ⟨n.val - 1, by omega⟩ (by dsimp only; omega)
        rw [listed ⟨n.val - 1, by omega⟩]
        exact .inr (by simpa using below)
    · by_cases hn : n.val + 1 < 8
      · have above := after ⟨n.val + 1, hn⟩ rfl
        rw [listed ⟨n.val + 1, hn⟩]
        simpa using above
      · rw [List.getElem?_eq_none (by simp; omega)]; rfl

section
variable {h : Hdr} {a : Owner} {k : Byte} {speed angle : Half} {s : State}

theorem exec_setSteerPoint (ha : authorityOf h = some a) (hw : a = .dispatch ∨ a = .safety) :
    exec (.setSteerPoint h k speed angle) s =
      .next ((setPointWork k speed angle a s).1.exchanged h.link
        (answerOf h 0x58 (setPointWork k speed angle a s).2)) :=
  congrArg Host.Outcome.next (takeRequest_of ha (dispatchOrSafety_of hw))

theorem setPointWork_range (hbad : 7 < k.toNat ∨ 640 < speed.toNat ∨ 450 < angle.toNat) :
    setPointWork k speed angle a s = (s, .refuse .badValue) := by
  unfold setPointWork
  split
  · rw [if_pos (by omega)]
  · rfl

section
variable {n : Fin 8} (hk : k.toNat = n.val) (hs : speed.toNat ≤ 640) (ha : angle.toNat ≤ 450)
include hk hs ha

theorem setPointWork_state (hp : s.drive.state ≠ .parked) :
    setPointWork k speed angle a s = (s, .refuse .state) := by
  unfold setPointWork
  rw [dif_pos (by omega), if_neg (by omega), if_pos hp]

theorem setPointWork_unfit (hp : s.drive.state = .parked)
    (hfit : pointFits s.steer.curve n.val ⟨speed.toNat, angle.toNat⟩ (s.param .steerAngleRated) = false) :
    setPointWork k speed angle a s = (s, .refuse .badValue) := by
  unfold setPointWork
  rw [dif_pos (by omega), if_neg (by omega), if_neg (not_not.2 hp)]
  simp only [hk, hfit, if_true]

theorem setPointWork_done (hp : s.drive.state = .parked)
    (hfit : pointFits s.steer.curve n.val ⟨speed.toNat, angle.toNat⟩ (s.param .steerAngleRated) = true) :
    setPointWork k speed angle a s =
      ({ s with steer := { s.steer with
          curve := s.steer.curve.set n.val ⟨speed.toNat, angle.toNat⟩ } },
        .ok (u8 n.val ++ u16 speed.toNat ++ u16 angle.toNat)) := by
  unfold setPointWork
  rw [dif_pos (by omega), if_neg (by omega), if_neg (not_not.2 hp)]
  simp only [hk, hfit]
  rfl

end

end

/-- Settles O48: the curve segment by segment, then SET_STEER_POINT's checks in order. -/
theorem Settled.steerCurveAndPoints : Obligations.SteerCurveAndPoints := by
  refine ⟨fun c v h => ⟨fun k h1 h2 => curveAt_between h h1 h2, curveAt_past h⟩, fun i s h => ?_,
    fun h k speed angle s h1 h2 => ?_, fun h k speed angle a s ha hw => ⟨fun hbad => ?_,
      fun n good hk hs hang hgood => ?_⟩⟩
  · refine ⟨steerStepState i s, rfl, ?_⟩
    rw [steerStepState_steer]
    refine ⟨fun hnone => steerStepState_dormant (by rw [hnone]; rfl),
      fun δ d hδ hd => ⟨fun hle => steerStepState_dormant ?_, fun hlt => steerStepState_allows ?_,
        fun hlt k p q hp hq hpd hqd last => steerStepState_allows ?_⟩⟩ <;>
      rw [hδ, steerCurveUpdate, ← hd]
    · exact if_pos hle
    · have := h.angle_le (i := 0) (j := 7) (by decide)
      exact (if_neg (Nat.not_le.2 (this.trans_lt hlt))).trans (if_pos hlt)
    · have := h.angle_le (i := 0) (j := k.castSucc) (Fin.zero_le _)
      subst hp hq
      refine (if_neg (Nat.not_le.2 hlt)).trans ((if_neg (Nat.not_lt.2 (hpd.trans this))).trans ?_)
      rw [speedAllowed_last hpd hqd last]
      rfl
  · exact congrArg Host.Outcome.next (takeRequest_refused (dispatchOrSafety_false h1 h2))
  · rw [exec_setSteerPoint ha hw, setPointWork_range hbad]; rfl
  · have zero : speed = 0 ↔ speed.toNat = 0 := word_eq_zero
    have fits : pointFits s.steer.curve n.val ⟨speed.toNat, angle.toNat⟩
        (s.param .steerAngleRated) = true ↔ good := by
      rw [pointFits_iff, hgood, zero]
    rw [exec_setSteerPoint ha hw]
    refine ⟨fun hp => ?_, fun hp hn => ?_, fun hp hg => ?_⟩
    · rw [setPointWork_state hk hs hang hp]; rfl
    · rw [setPointWork_unfit hk hs hang hp (Bool.eq_false_iff.2 (mt fits.1 hn))]; rfl
    · rw [setPointWork_done hk hs hang hp (fits.2 hg)]; rfl

end Sys2Proof.Machine
end

section
/-! The load window's frame (R157), and the payload states with the window at which a latch ends (O49). -/

namespace Sys2Proof.Machine

/-! ### What the readings say (R157, R158) -/

theorem strutsGood_iff {p : Four Nat} :
    strutsGood p = true ↔ ∀ n : GridNo, 1 ≤ p.get n ∧ p.get n ≤ 3999 := by
  simp only [strutsGood, Four.map, Four.all, strutInRange, Bool.and_eq_true, decide_eq_true_eq]
  constructor
  · rintro ⟨⟨⟨h1, h2⟩, h3⟩, h4⟩ (_ | _ | _ | _)
    exacts [h1, h2, h3, h4]
  · exact fun h => ⟨⟨⟨h .g1, h .g2⟩, h .g3⟩, h .g4⟩

theorem standing_iff {s : State} :
    standing s = true ↔ s.speed.current.isSome = true ∧ s.speed.v < 50 := by
  simp [standing]

theorem PayloadClass.over_iff {c : PayloadClass} :
    c.over = true ↔ c = .over1 ∨ c = .over2 ∨ c = .over3 := by
  cases c <;> simp [PayloadClass.over]

/-! ### Stages 1 and 2, row by row (R158 to R162) -/

namespace LoadMon

/-- The monitor as stage 1 leaves it: these readings, and STRUT_FAULT set when one is out of range
(R158). -/
def reading (p : Four Nat) (m : LoadMon) : LoadMon :=
  { m with struts := p, strutFault := m.strutFault || !strutsGood p }

/-- The monitor holds a sample taken against a list, and the value and class that follow (R159). -/
def Takes (l : List Nat) (x tare rated : Nat) (m : LoadMon) : Prop :=
  m.samples = joined l x ∧ m.value = min 4000 (meanOf m.samples - tare) ∧
    m.cls = classOfRatio (m.value * 1000 / rated)

theorem taking_takes (l : List Nat) (x rated : Nat) (m : LoadMon) :
    (m.taking l x rated).Takes l x m.tare rated := ⟨rfl, rfl, rfl⟩

section
variable (stand good : Bool) (x rated : Nat) (m : LoadMon)

/-- A window in MEASURING leaves readings, STRUT_FAULT, tare and heat (R160). -/
theorem measuring_frame : m.measuring stand good x rated = { m with
    state := (m.measuring stand good x rated).state
    samples := (m.measuring stand good x rated).samples
    value := (m.measuring stand good x rated).value, cls := (m.measuring stand good x rated).cls
    lowSpeed := (m.measuring stand good x rated).lowSpeed } := by
  unfold measuring
  (repeat' split) <;> rfl

/-- A window in LATCHED leaves readings, STRUT_FAULT, tare and heat (R161). -/
theorem latched_frame : m.latched stand x rated = { m with
    state := (m.latched stand x rated).state, samples := (m.latched stand x rated).samples
    value := (m.latched stand x rated).value, cls := (m.latched stand x rated).cls
    lowSpeed := (m.latched stand x rated).lowSpeed } := by
  unfold latched
  (repeat' split) <;> rfl

/-- A window in INVALID clears STRUT_FAULT at its return, and leaves readings, tare, heat and the low-speed
count (R162). -/
theorem invalid_frame : m.invalid stand good x rated = { m with
    state := (m.invalid stand good x rated).state, samples := (m.invalid stand good x rated).samples
    value := (m.invalid stand good x rated).value, cls := (m.invalid stand good x rated).cls
    strutFault := if stand = true ∧ good = true then false else m.strutFault } := by
  unfold invalid
  split <;> rfl

end

end LoadMon

section
variable {p : Four Nat} {s : State}

theorem payloadStage_measuring (hs : s.load.state = .measuring) :
    payloadStage p s = (s.load.reading p).measuring (standing s) (strutsGood p)
      (sprungOf p (s.param .strutArea)) (s.param .ratedPayload) := by
  unfold payloadStage
  dsimp only
  split
  · rfl
  · next h => exact nomatch hs.symm.trans h
  · next h => exact nomatch hs.symm.trans h

theorem payloadStage_latched (hs : s.load.state = .latched) :
    payloadStage p s = (s.load.reading p).latched (standing s)
      (sprungOf p (s.param .strutArea)) (s.param .ratedPayload) := by
  unfold payloadStage
  dsimp only
  split
  · next h => exact nomatch hs.symm.trans h
  · rfl
  · next h => exact nomatch hs.symm.trans h

theorem payloadStage_invalid (hs : s.load.state = .invalid) :
    payloadStage p s = (s.load.reading p).invalid (standing s) (strutsGood p)
      (sprungOf p (s.param .strutArea)) (s.param .ratedPayload) := by
  unfold payloadStage
  dsimp only
  split
  · next h => exact nomatch hs.symm.trans h
  · next h => exact nomatch hs.symm.trans h
  · rfl

/-- MEASURING latches when the truck moves (R160). -/
theorem payloadStage_latches (hs : s.load.state = .measuring) (moving : standing s = false) :
    payloadStage p s = { s.load.reading p with state := .latched, lowSpeed := 0 } := by
  rw [payloadStage_measuring hs, moving]; rfl

/-- MEASURING takes a sample in a standing window with four good struts (R160). -/
theorem payloadStage_samples (hs : s.load.state = .measuring) (stand : standing s = true)
    (good : strutsGood p = true) : payloadStage p s =
      (s.load.reading p).taking s.load.samples (sprungOf p (s.param .strutArea))
        (s.param .ratedPayload) := by
  rw [payloadStage_measuring hs, stand, good]; rfl

/-- MEASURING is INVALID in a standing window with a strut out of range (R160). -/
theorem payloadStage_fails (hs : s.load.state = .measuring) (stand : standing s = true)
    (bad : strutsGood p = false) :
    payloadStage p s = { s.load.reading p with state := .invalid, samples := [] } := by
  rw [payloadStage_measuring hs, stand, bad]; rfl

/-- LATCHED begins its count anew when the truck moves (R161). -/
theorem payloadStage_holds (hs : s.load.state = .latched) (moving : standing s = false) :
    payloadStage p s = { s.load.reading p with lowSpeed := 0 } := by
  rw [payloadStage_latched hs, moving]; rfl

/-- LATCHED counts the standing windows before the thirtieth (R161). -/
theorem payloadStage_counts (hs : s.load.state = .latched) (stand : standing s = true)
    (low : s.load.lowSpeed < 29) :
    payloadStage p s = { s.load.reading p with lowSpeed := s.load.lowSpeed + 1 } := by
  have early : ¬30 ≤ (s.load.reading p).lowSpeed + 1 := Nat.not_le.2 (Nat.succ_lt_succ low)
  rw [payloadStage_latched hs, stand]
  exact (if_neg nofun).trans (if_neg early)

/-- The thirtieth standing window ends a latch by STRUT_FAULT: INVALID without samples, or a first sample
in MEASURING (R161). -/
theorem payloadStage_ends (hs : s.load.state = .latched) (stand : standing s = true)
    (low : 29 ≤ s.load.lowSpeed) : payloadStage p s =
      if (s.load.reading p).strutFault then
        { s.load.reading p with lowSpeed := 30, state := .invalid, samples := [] }
      else ({ s.load.reading p with lowSpeed := 30, state := .measuring }).taking []
        (sprungOf p (s.param .strutArea)) (s.param .ratedPayload) := by
  have due : 30 ≤ (s.load.reading p).lowSpeed + 1 := Nat.succ_le_succ low
  rw [payloadStage_latched hs, stand]
  exact (if_neg nofun).trans (if_pos due)

/-- INVALID returns to MEASURING with a sample in a standing window with four good struts (R162). -/
theorem payloadStage_returns (hs : s.load.state = .invalid) (stand : standing s = true)
    (good : strutsGood p = true) : payloadStage p s =
      ({ s.load.reading p with state := .measuring, strutFault := false }).taking s.load.samples
        (sprungOf p (s.param .strutArea)) (s.param .ratedPayload) := by
  rw [payloadStage_invalid hs]
  exact if_pos ⟨stand, good⟩

/-- INVALID stays in every other window (R162). -/
theorem payloadStage_stays (hs : s.load.state = .invalid)
    (h : ¬(standing s = true ∧ strutsGood p = true)) : payloadStage p s = s.load.reading p := by
  rw [payloadStage_invalid hs]
  exact if_neg h

/-- Stages 1 and 2 store the readings and leave the tare; STRUT_FAULT is cleared by INVALID's return
alone (R157, R158, R162). -/
theorem payloadStage_frame (p : Four Nat) (s : State) :
    (payloadStage p s).struts = p ∧ (payloadStage p s).tare = s.load.tare ∧
      (payloadStage p s).strutFault =
        if s.load.state = .invalid ∧ standing s = true ∧ strutsGood p = true then false
        else s.load.strutFault || !strutsGood p := by
  cases hs : s.load.state with
  | measuring =>
    rw [payloadStage_measuring hs, LoadMon.measuring_frame]
    exact ⟨rfl, rfl, rfl⟩
  | latched =>
    rw [payloadStage_latched hs, LoadMon.latched_frame]
    exact ⟨rfl, rfl, rfl⟩
  | invalid =>
    rw [payloadStage_invalid hs, LoadMon.invalid_frame]
    exact ⟨rfl, rfl, by simp [LoadMon.reading]⟩

end

/-! ### What a load window writes at all (R157, R159) -/

section
variable (p : Four Nat) (s : State)

theorem loadWindowState_frame : loadWindowState p s = { s with
    load := loadUnit p s, gov := (loadWindowState p s).gov, env := (loadWindowState p s).env
    ports := (loadWindowState p s).ports } := by
  unfold loadWindowState
  dsimp only
  rw [raiseIf_eq, updateGov_keeps]

theorem loadWindowState_load : (loadWindowState p s).load = loadUnit p s := by
  rw [loadWindowState_frame]

variable {p s}

/-- Stages 3 and 4 write the heat indexes alone of the monitor (R165). -/
theorem loadUnit_eq {m : LoadMon} (h : payloadStage p s = m) :
    loadUnit p s = { m with heat := (loadUnit p s).heat } := by
  subst h; rfl

/-- A change of class to one that limits makes PAYLOAD_CLASS pending (R159). -/
theorem loadWindowState_raises (hne : (loadUnit p s).cls ≠ s.load.cls)
    (hover : (loadUnit p s).cls.over = true) :
    PendingOnBoth .payloadClass (loadWindowState p s) :=
  raiseIf_raises (by simp [hne, hover])

/-- Without such a change the links stay as they are. -/
theorem loadWindowState_ports
    (h : (loadUnit p s).cls = s.load.cls ∨ (loadUnit p s).cls = .normal) :
    (loadWindowState p s).ports = s.ports := by
  have quiet : ((loadUnit p s).cls.over && (loadUnit p s).cls != s.load.cls) = false := by
    rcases h with h | h <;> simp [h, PayloadClass.over]
  unfold loadWindowState
  dsimp only
  rw [quiet]
  exact updateGov_ports _ _

/-! ### LATCH_END (R161; log entry 1) -/

theorem exec_latchEnd_idle (h : s.load.state ≠ .latched ∨ (loadUnit p s).state = .latched) :
    exec (.latchEnd p) s = .next s := by
  rcases whenItComesAbout_cases latchEnds (loadWindowState p) s with ⟨e, -⟩ | ⟨-, due⟩
  · exact congrArg Host.Outcome.next e
  · simp only [latchEnds, loadWindowState_load, Bool.and_eq_true, beq_iff_eq, bne_iff_ne] at due
    exact absurd h (by simp [due])

theorem exec_latchEnd_due (hs : s.load.state = .latched) (h : (loadUnit p s).state ≠ .latched) :
    exec (.latchEnd p) s = .next (loadWindowState p s) :=
  congrArg Host.Outcome.next (whenItComesAbout_of (by simp [latchEnds, loadWindowState_load, hs, h]))

end

/-- Settles O49, row by row: stages 1 and 2 by the payload state before the window, then what a change of
class raises. -/
theorem Settled.payloadStates : Obligations.PayloadStates := by
  intro p s stand good x hstand hgood hx
  obtain ⟨struts, tare, fault⟩ := payloadStage_frame p s
  have stood : stand ↔ standing s = true := hstand.trans standing_iff.symm
  have sound : good ↔ strutsGood p = true := hgood.trans strutsGood_iff.symm
  have sample : x = sprungOf p (s.param .strutArea) := hx
  rw [stood, sound, sample]
  simp only [Bool.not_eq_true]
  refine ⟨loadWindowState p s,
    fun l => (loadUnit p s).Takes l (sprungOf p (s.param .strutArea)) s.load.tare
      (s.param .ratedPayload),
    (loadUnit p s).value = s.load.value ∧ (loadUnit p s).cls = s.load.cls, rfl, ?_⟩
  rw [loadWindowState_load]
  refine ⟨fun l => ⟨fun ⟨samples, value, cls⟩ => ⟨samples, value, fun r hr => hr ▸ cls⟩,
      fun ⟨samples, value, cls⟩ => ⟨samples, value, cls _ rfl⟩⟩, Iff.rfl, struts, tare,
    fun bad => fault.trans (by simp [bad]), fun hs => exec_latchEnd_idle (.inl hs), fun hs => ?_,
    fun hs => ?_, fun hs => ?_,
    fun hne hover => loadWindowState_raises hne (PayloadClass.over_iff.2 hover), loadWindowState_ports⟩
  · refine ⟨fun ok => fault.trans (by simp [hs, ok]), fun moving => ?_, fun still ok => ?_,
      fun still bad => ?_⟩
    · rw [loadUnit_eq (payloadStage_latches hs moving)]
      exact ⟨rfl, rfl, rfl, rfl, rfl⟩
    · rw [loadUnit_eq (payloadStage_samples hs still ok)]
      exact ⟨hs, LoadMon.taking_takes _ _ _ _⟩
    · rw [loadUnit_eq (payloadStage_fails hs still bad)]
      exact ⟨rfl, rfl, rfl, rfl⟩
  · refine ⟨fun ok => fault.trans (by simp [hs, ok]), fun moving => ?_, fun still low => ?_,
      fun still low => ?_⟩
    · have holds := loadUnit_eq (payloadStage_holds (p := p) hs moving)
      have idle := exec_latchEnd_idle (p := p) (s := s) (.inr (by rw [holds]; exact hs))
      rw [holds]
      exact ⟨hs, rfl, rfl, ⟨rfl, rfl⟩, idle⟩
    · have counts := loadUnit_eq (payloadStage_counts (p := p) hs still low)
      have idle := exec_latchEnd_idle (p := p) (s := s) (.inr (by rw [counts]; exact hs))
      rw [counts]
      exact ⟨hs, rfl, rfl, ⟨rfl, rfl⟩, idle⟩
    · have ends := payloadStage_ends (p := p) hs still low
      cases hf : (s.load.reading p).strutFault with
      | true =>
        have ends := loadUnit_eq (ends.trans (if_pos hf))
        have due := exec_latchEnd_due hs (by rw [ends]; nofun)
        rw [ends]
        exact ⟨due, fun _ => ⟨rfl, rfl, rfl, rfl⟩, fun h => absurd (hf.symm.trans h) nofun⟩
      | false =>
        have ends := loadUnit_eq (ends.trans (if_neg (by simp [hf])))
        have due := exec_latchEnd_due hs (by rw [ends]; nofun)
        rw [ends]
        exact ⟨due, fun h => absurd (hf.symm.trans h) nofun,
          fun _ => ⟨rfl, LoadMon.taking_takes _ _ _ _⟩⟩
  · refine ⟨fun still ok => ?_, fun h => ?_, fun moving ok => fault.trans (by simp [moving, ok])⟩
    · rw [loadUnit_eq (payloadStage_returns hs still ok)]
      exact ⟨rfl, rfl, LoadMon.taking_takes _ _ _ _⟩
    · rw [loadUnit_eq (payloadStage_stays hs fun ⟨still, ok⟩ => by simp [still, ok] at h)]
      exact ⟨hs, rfl, rfl, rfl⟩

end Sys2Proof.Machine
end

section
/-! What a load window hands to the Limit Table (R163, R165, R166), and TARE (R164): O50. -/

namespace Sys2Proof.Machine

/-! ### The records that a load window updates (R9, R157) -/

/-- A governor record after one update: ACTIVE with a value, or DORMANT with its value left (R9). -/
def GovRec.updated (r : GovRec) : Option Nat → GovRec
  | some v => ⟨true, v, true⟩
  | none => { r with active := false }

theorem applyGov_eq (t : GovTable) (g : Gov) (u : Option Nat) :
    applyGov t (g, u) = t.set g ((t.get g).updated u) := by
  cases u <;> rfl

/-- The MOTOR record of a wheel (R9). -/
def motorRecord : Wheel → Gov
  | .left => .motorLeft
  | .right => .motorRight

section
variable (p : Four Nat) (s : State)

theorem loadWindowState_gov :
    (loadWindowState p s).gov = (loadUpdates p s).foldl applyGov s.gov := by
  simp [loadWindowState, updateGov_gov]

/-- The four governor records of a load window, and the five others. -/
theorem loadWindowState_records : (loadWindowState p s).gov = { s.gov with
    payloadSpeed := s.gov.payloadSpeed.updated (payloadSpeedUpdate (loadUnit p s))
    payloadTorque := s.gov.payloadTorque.updated
      (payloadTorqueUpdate (loadUnit p s) (s.param .propelRated))
    motorLeft := s.gov.motorLeft.updated (motorUpdate s.gov.motorLeft.active
      (loadUnit p s).heat.left (s.param .wheelRated) (s.param .motorCont))
    motorRight := s.gov.motorRight.updated (motorUpdate s.gov.motorRight.active
      (loadUnit p s).heat.right (s.param .wheelRated) (s.param .motorCont)) } := by
  rw [loadWindowState_gov]
  simp only [loadUpdates, List.foldl, applyGov_eq]
  rfl

theorem loadWindowState_motor (w : Wheel) : (loadWindowState p s).gov.get (motorRecord w) =
    (s.gov.get (motorRecord w)).updated (motorUpdate (s.gov.get (motorRecord w)).active
      ((loadUnit p s).heat.get w) (s.param .wheelRated) (s.param .motorCont)) := by
  rw [loadWindowState_records]
  cases w <;> rfl

/-- The envelope is resolved at a load window exactly when a governor record changes (R9, R31). -/
theorem loadWindowState_env : ((loadWindowState p s).gov = s.gov → (loadWindowState p s).env = s.env) ∧
    ((loadWindowState p s).gov ≠ s.gov → ResolvedFrom s.env.applied (loadWindowState p s)) := by
  obtain ⟨same, changed⟩ := updateGov_env (loadUpdates p s) { s with load := loadUnit p s }
  have limits : SameLimits (updateGov (loadUpdates p s) { s with load := loadUnit p s })
      (loadWindowState p s) := by constructor <;> simp [loadWindowState]
  have table : (loadWindowState p s).table =
      (updateGov (loadUpdates p s) { s with load := loadUnit p s }).table := by
    simp [loadWindowState]
  rw [limits.gov, limits.env]
  exact ⟨same, fun hne => (changed hne).sameTable table limits⟩

end

/-! ### PAYLOAD_SPEED and PAYLOAD_TORQUE (R163) -/

/-- PAYLOAD_SPEED by state and class. A class NONE outside INVALID limits nothing (log entry 32). -/
theorem payloadSpeed_updated (r : GovRec) (m : LoadMon) : r.updated (payloadSpeedUpdate m) =
    if m.state = .invalid then ⟨true, 300, true⟩
    else if m.cls = .over2 then ⟨true, 160, true⟩
    else if m.cls = .over3 then ⟨true, 50, true⟩
    else { r with active := false } := by
  unfold payloadSpeedUpdate
  split
  · rfl
  · cases m.cls <;> rfl

theorem payloadTorque_updated (r : GovRec) (m : LoadMon) (rated : Nat) :
    r.updated (payloadTorqueUpdate m rated) =
      if m.state ≠ .invalid ∧ m.cls = .over3 then ⟨true, rated * 300 / 1000, true⟩
      else { r with active := false } := by
  unfold payloadTorqueUpdate
  split <;> rfl

/-! ### The heat indexes and the MOTOR records (R165, R166) -/

theorem heatAfter_eq (h : Nat) (history : Vector Int 10) (cont gain : Nat) :
    (heatAfter h history cont gain : Int) =
      clampInt ((h : Int) + Int.tdiv
        (((meanMagnitude history * meanMagnitude history * 1000 / (cont * cont) : Nat) - 1000 : Int) *
          gain) 1000) 0 12000 :=
  Int.toNat_of_nonneg le_clampInt

theorem loadUnit_heat (p : Four Nat) (s : State) (w : Wheel) : (loadUnit p s).heat.get w =
    heatAfter (s.load.heat.get w) (s.wheel w).history (s.param .motorCont)
      (s.param .motorHeatGain) := by
  cases w <;> rfl

section
variable {active : Bool} {h rated cont : Nat}

theorem motorUpdate_hot (hot : 10000 ≤ h) : motorUpdate active h rated cont = some (cont * 9 / 10) :=
  if_pos hot

/-- Between 8000 and 10 000 the limit falls from P_WHEEL_RATED towards P_MOTOR_CONT. -/
theorem motorUpdate_warm (warm : 8000 ≤ h) (below : h < 10000) : motorUpdate active h rated cont =
    some (clampInt ((rated : Int) - Int.tdiv (((rated : Int) - cont) * ((h : Int) - 8000)) 2000)
      0 900).toNat := by
  have excess : ((h - 8000 : Nat) : Int) = (h : Int) - 8000 := Int.ofNat_sub warm
  rw [← excess]
  exact (if_neg (Nat.not_le.2 below)).trans (if_pos warm)

/-- An ACTIVE record stays, at P_WHEEL_RATED, down to 7500. -/
theorem motorUpdate_cooling (cooling : 7500 ≤ h) (below : h < 8000) :
    motorUpdate true h rated cont = some rated :=
  (if_neg (by omega)).trans ((if_neg (Nat.not_le.2 below)).trans (if_pos ⟨rfl, cooling⟩))

theorem motorUpdate_cool (cool : h < 7500 ∨ (active = false ∧ h < 8000)) :
    motorUpdate active h rated cont = none := by
  have below : h < 8000 := by omega
  have no : ¬(active = true ∧ 7500 ≤ h) := by
    rintro ⟨rfl, hh⟩
    exact cool.elim (Nat.not_lt.2 hh) fun c => nomatch c.1
  exact (if_neg (by omega)).trans ((if_neg (Nat.not_le.2 below)).trans (if_neg no))

end

/-! ### TARE (R164) -/

section
variable {h : Hdr} {a : Owner} {s : State}

theorem exec_tare (ha : authorityOf h = some a) (hw : a = .dispatch ∨ a = .safety) :
    exec (.tare h) s =
      .next ((tareWork a s).1.exchanged h.link (answerOf h 0x5C (tareWork a s).2)) :=
  congrArg Host.Outcome.next (takeRequest_of ha (dispatchOrSafety_of hw))

theorem tareWork_state (hp : s.drive.state ≠ .parked) : tareWork a s = (s, .refuse .state) :=
  if_pos hp

theorem tareWork_notReady (hp : s.drive.state = .parked)
    (hn : s.load.state ≠ .measuring ∨ s.load.samples = []) : tareWork a s = (s, .refuse .notReady) :=
  (if_neg (not_not.2 hp)).trans (if_pos hn)

theorem tareWork_done (hp : s.drive.state = .parked) (hm : s.load.state = .measuring)
    (hs : s.load.samples ≠ []) : tareWork a s =
      ({ s with load := { s.load with tare := meanOf s.load.samples } },
        .ok (u16 (meanOf s.load.samples) ++ u8 s.load.samples.length)) :=
  (if_neg (not_not.2 hp)).trans (if_neg (not_or.2 ⟨not_not.2 hm, hs⟩))

end

/-- Settles O50: the four records by their updates, the heat indexes, the window's frame, then TARE's checks
in order. -/
theorem Settled.payloadRecordsHeatAndTare : Obligations.PayloadRecordsHeatAndTare := by
  refine ⟨fun p s => ?_, fun h s h1 h2 => ?_, fun h a s ha hw => ?_⟩
  · obtain ⟨same, changed⟩ := loadWindowState_env p s
    refine ⟨loadWindowState p s, rfl, ?_, ?_, fun w tm x hot g htm hx hhot hg => ?_, same, changed, ?_⟩
    · rw [loadWindowState_load, loadWindowState_records]
      exact payloadSpeed_updated _ _
    · rw [loadWindowState_load, loadWindowState_records]
      exact payloadTorque_updated _ _ _
    · have motor := loadWindowState_motor p s w
      rw [loadWindowState_load] at hhot
      rw [← hhot, ← (show g = motorRecord w by rw [hg]; cases w <;> rfl)] at motor
      refine ⟨?_, fun hh => ?_, fun h1 h2 => ?_, fun h1 h2 act => ?_, fun hc => ?_⟩
      · subst htm hx
        rw [hhot, loadUnit_heat]
        exact heatAfter_eq _ _ _ _
      · rw [motor, motorUpdate_hot hh]; rfl
      · rw [motor, motorUpdate_warm h1 h2]
        exact ⟨rfl, Int.toNat_of_nonneg le_clampInt⟩
      · rw [motor, act, motorUpdate_cooling h1 h2]; rfl
      · rw [motor, motorUpdate_cool hc]; rfl
    · rw [loadWindowState_load]
      conv_lhs => rw [loadWindowState_frame, loadWindowState_records]
      rw [loadWindowState_records]
  · exact congrArg Host.Outcome.next (takeRequest_refused (dispatchOrSafety_false h1 h2))
  · rw [exec_tare ha hw]
    refine ⟨fun hp => ?_, fun hp hn => ?_, fun mean hp hm hs hmean => ?_⟩
    · rw [tareWork_state hp]; rfl
    · rw [tareWork_notReady hp hn]; rfl
    · subst hmean
      rw [tareWork_done hp hm hs]; rfl

end Sys2Proof.Machine
end

section
/-! An empty queue (O2). -/

namespace Sys2Proof.Machine

/-! ### The tick of the release timer (R175, R176, log entry 2) -/

section
variable {s : State} {n : Nat}

theorem step_waitingNothing (h : s.pending = []) : step s = .next (releaseTick s) := by
  rw [step, h]

theorem releaseTick_idle (h : s.drive.timer = none) : releaseTick s = s := by
  rw [releaseTick, h]

theorem releaseTick_counts (h : s.drive.timer = some n) (hn : 1 < n) :
    releaseTick s = { s with drive := { s.drive with timer := some (n - 1) } } := by
  rw [releaseTick, h]
  exact if_neg (Nat.not_le.2 hn)

theorem releaseTick_ends (h : s.drive.timer = some n) (hn : n ≤ 1) :
    releaseTick s = releaseTimeoutState s := by
  rw [releaseTick, h]
  exact if_pos hn

end

/-- Settles O2, by what the release timer shows. -/
theorem Settled.stepWithNothingWaiting : Obligations.StepWithNothingWaiting := by
  intro s empty
  rw [step_waitingNothing empty]
  refine ⟨fun idle => ?_, fun n running above => ?_, fun n running last => ?_⟩
  · rw [releaseTick_idle idle]
  · rw [releaseTick_counts running above]
  · rw [releaseTick_ends running last]; rfl

end Sys2Proof.Machine
end

section
/-! SAFETY_HOLD, TRIP, RESET_TRIP and SET_CONTROL_MODE (O53). -/

namespace Sys2Proof.Machine

/-! ### Who may send them (R185) -/

section
variable {h : Hdr} {a : Owner} {s : State} {mode : Byte}

theorem safetyOnly_eq_false (ha : authorityOf h = some a) (hne : a ≠ .safety) (b : Owner)
    (hb : authorityOf h = some b) : safetyOnly b = false := by
  obtain rfl := Option.some.inj (ha.symm.trans hb)
  exact beq_eq_false_iff_ne.2 hne

theorem operatorOrSafety_of (hw : a = .operator ∨ a = .safety) : operatorOrSafety a = true := by
  rcases hw with rfl | rfl <;> rfl

theorem operatorOrSafety_false (ho : authorityOf h ≠ some .operator)
    (hs : authorityOf h ≠ some .safety) (b : Owner) (hb : authorityOf h = some b) :
    operatorOrSafety b = false :=
  Bool.or_eq_false_iff.2 ⟨beq_eq_false_iff_ne.2 fun e => ho (e ▸ hb),
    beq_eq_false_iff_ne.2 fun e => hs (e ▸ hb)⟩

theorem exec_safetyHold (ha : authorityOf h = some .safety) : exec (.safetyHold h) s =
    .next ((safetyHoldWork .safety s).1.exchanged h.link
      (answerOf h 0x44 (safetyHoldWork .safety s).2)) :=
  congrArg Host.Outcome.next (takeRequest_of ha rfl)

theorem exec_trip (ha : authorityOf h = some .safety) : exec (.trip h) s =
    .next ((handTrip .trip s).exchanged h.link (doneAnswer h 0x45 (u8 5))) := by
  have answer : driveReply (handTrip .trip s) = .ok (u8 5) := by rw [driveReply, handTrip_state]; rfl
  have taken : exec (.trip h) s = .next ((tripWork .safety s).1.exchanged h.link
      (answerOf h 0x45 (tripWork .safety s).2)) := congrArg Host.Outcome.next (takeRequest_of ha rfl)
  rw [taken, tripWork, driveDone, answer, answerOf_ok]

theorem exec_resetTrip (ha : authorityOf h = some .safety) : exec (.resetTrip h) s =
    .next ((resetTripWork .safety s).1.exchanged h.link
      (answerOf h 0x46 (resetTripWork .safety s).2)) :=
  congrArg Host.Outcome.next (takeRequest_of ha rfl)

theorem exec_setControlMode (ha : authorityOf h = some a) (hw : a = .operator ∨ a = .safety) :
    exec (.setControlMode h mode) s = .next ((setModeWork mode a s).1.exchanged h.link
      (answerOf h 0x47 (setModeWork mode a s).2)) :=
  congrArg Host.Outcome.next (takeRequest_of ha (operatorOrSafety_of hw))

end

/-- An entry to any state but READY drops the demand and its lease (R77). -/
theorem enter_dropsDemand {d : Drive} (hd : d ≠ .ready) (s : State) :
    (enter d s).torque.demand = none ∧ (enter d s).torque.lease = none := by
  rw [enter_torque]
  exact ⟨rfl, if_neg (by simpa using hd)⟩

/-! ### SAFETY_HOLD (R87, R129, R172, R178) -/

section
variable {a : Owner} {s : State}

theorem safetyHoldWork_state (hr : s.drive.state ≠ .ready) (hh : s.drive.state ≠ .hold) :
    safetyHoldWork a s = (s, .refuse .state) :=
  if_neg fun h => h.elim hr hh

/-- A SAFETY_HOLD in READY or HOLD leaves HOLD. -/
theorem safetyHoldWork_done (hd : s.drive.state = .ready ∨ s.drive.state = .hold) :
    safetyHoldWork a s = (handHold .safetyHold s, .ok (u8 4)) := by
  rw [safetyHoldWork, if_pos hd, driveDone, driveReply, (handHold_holds hd).1]
  rfl

/-- Below 0.5 km/h the brake assist level at an entry to HOLD is that of the standstill cause (R129). -/
theorem enter_hold_assist (hv : s.speed.v < 5) : (enter .hold s).retard.assist = 1000 := by
  have still : (assistCauses (entered .hold s)).standstill = true := by
    simp [assistCauses, entered, hv]
  obtain ⟨p, e⟩ := enter_eq .hold s
  rw [e]
  refine Nat.le_antisymm (assistLevel_le _ (retardShortLevel_le _ _ _)).1 ?_
  simp [assistLevel, still]

/-- All that SAFETY_HOLD leaves in READY (R87, R170, R178, log entry 35). -/
theorem handHold_safetyHold_ready (hd : s.drive.state = .ready) :
    (handHold .safetyHold s).drive = { s.drive with
      state := .hold, hold := { HoldSet.empty with safetyHold := true }, brakeApply := false } ∧
    (handHold .safetyHold s).torque.demand = none ∧ (handHold .safetyHold s).torque.lease = none ∧
    (∀ w : Wheel, (handHold .safetyHold s).wheel w = if 0 < (s.wheel w).tprev
      then { s.wheel w with tprev := 0, sent := ⟨0, s.torque.direction⟩ } else s.wheel w) ∧
    PendingOnBoth .holdEntered (handHold .safetyHold s) ∧
    (s.speed.v < 5 → (handHold .safetyHold s).retard.assist = 1000) := by
  have running : s.drive.state ≠ .starting := by simp [hd]
  rw [handHold_ready hd]
  obtain ⟨demand, lease⟩ := enter_dropsDemand (d := .hold) (by simp) _
  refine ⟨enter_drive_running .hold running, demand, lease, fun w => ?_, (enter_raises .hold _).1 rfl,
    fun hv => enter_hold_assist hv⟩
  rw [enterHold, enter_wheel]; rfl

end

/-! ### TRIP (R87, R129, R170, R173) -/

/-- All that TRIP leaves outside TRIPPED; log entry 39 for the restart trip mark. -/
theorem handTrip_trip_other {s : State} (hd : s.drive.state ≠ .tripped) :
    (handTrip .trip s).drive = { s.drive with
      state := .tripped, trip := some TripCause.trip, later := .empty, hold := .empty, timer := none
      outcome := if s.drive.state = .releasing then .aborted else s.drive.outcome
      applyCount := 0, brakeApply := decide (s.speed.v < 5)
      tripMark := s.drive.tripMark && s.drive.state != .starting } ∧
    (handTrip .trip s).torque.demand = none ∧ (handTrip .trip s).torque.lease = none ∧
    (handTrip .trip s).retard.assist = 1000 ∧ PendingOnBoth .tripped (handTrip .trip s) ∧
    (∀ w : Wheel, (handTrip .trip s).wheel w = { s.wheel w with
      tprev := 0, sent := ⟨0, s.torque.direction⟩ }) := by
  rw [handTrip_other hd]
  obtain ⟨demand, lease⟩ := enter_dropsDemand (d := .tripped) (by simp) _
  refine ⟨enter_drive .tripped _, demand, lease, enter_tripped_assist _, (enter_raises .tripped _).2 rfl,
    fun w => ?_⟩
  rw [enter_wheel]; rfl

/-! ### RESET_TRIP (R179) -/

section
variable {a : Owner} {s : State}

theorem resetTripWork_state (hd : s.drive.state ≠ .tripped) :
    resetTripWork a s = (s, .refuse .state) := if_pos hd

theorem resetTripWork_moving (hd : s.drive.state = .tripped) (hv : 5 ≤ s.speed.v) :
    resetTripWork a s = (s, .refuse .moving) := by
  simp [resetTripWork, hd, hv]

theorem resetTripWork_notReady (hd : s.drive.state = .tripped) (hv : s.speed.v < 5)
    (ho : s.retard.overvolt = true) : resetTripWork a s = (s, .refuse .notReady) := by
  simp [resetTripWork, hd, Nat.not_le.2 hv, ho]

theorem resetTripWork_done (hd : s.drive.state = .tripped) (hv : s.speed.v < 5)
    (ho : s.retard.overvolt = false) : resetTripWork a s = (enterParked s, .ok (u8 1)) := by
  have passed : resetTripWork a s = driveDone (enterParked s) := by
    simp [resetTripWork, hd, Nat.not_le.2 hv, ho]
  rw [passed, driveDone, driveReply, enterParked, enter_state]
  rfl

end

/-! ### SET_CONTROL_MODE (R180) -/

/-- A control mode's code is the byte that named it (R170, R186). -/
theorem mode_code {mode : Byte} {m : ControlMode} (h : modeOfCode mode = some m) :
    u8 m.code = [mode] := by
  have e : m.code = mode.toNat := by
    unfold modeOfCode at h
    split at h <;> simp_all <;> subst h <;> rfl
  simp [u8, e]

section
variable {mode : Byte} {m : ControlMode} {a : Owner} {s : State}

theorem setModeWork_badValue (hm : modeOfCode mode = none) :
    setModeWork mode a s = (s, .refuse .badValue) := by
  rw [setModeWork, hm]

theorem setModeWork_state (hm : modeOfCode mode = some m) (hd : s.drive.state ≠ .parked) :
    setModeWork mode a s = (s, .refuse .state) := by
  rw [setModeWork, hm]
  exact if_pos hd

/-- The answer holds the drive state and the mode (log entry 9). -/
theorem setModeWork_done (hm : modeOfCode mode = some m) (hd : s.drive.state = .parked) :
    setModeWork mode a s = ({ s with drive := { s.drive with mode := m } }, .ok [1, mode]) := by
  have fields : u8 s.drive.state.code ++ u8 m.code = [1, mode] := by rw [mode_code hm, hd]; rfl
  rw [setModeWork, hm, ← fields]
  exact if_neg (not_not.2 hd)

end

/-- Settles O53: each request of SAFETY by its checks and the drive state, the senders it is refused to,
then SET_CONTROL_MODE's checks in order. -/
theorem Settled.safetyRequestsAndMode : Obligations.SafetyRequestsAndMode := by
  refine ⟨fun h s ha => ?_, fun h a s ha hne => ?_, fun h mode s ho hs => ?_,
    fun h mode a s ha hw => ?_⟩
  · rw [exec_safetyHold ha, exec_trip ha, exec_resetTrip ha]
    refine ⟨fun hr hh => ?_, fun hd => ?_, fun hd => ?_, fun hd => ?_, fun hd => ?_, fun hd => ?_,
      fun hd hv => ?_, fun hd hv ho => ?_, fun hd hv ho => ?_⟩
    · rw [safetyHoldWork_state hr hh]; rfl
    · rw [safetyHoldWork_done (.inr hd), handHold_hold hd]; rfl
    · rw [safetyHoldWork_done (.inl hd)]
      exact ⟨handHold .safetyHold s, rfl, handHold_safetyHold_ready hd⟩
    · exact ⟨handTrip .trip s, rfl, handTrip_trip_other hd⟩
    · rw [handTrip_tripped hd]; rfl
    · rw [resetTripWork_state hd]; rfl
    · rw [resetTripWork_moving hd hv]; rfl
    · rw [resetTripWork_notReady hd hv ho]; rfl
    · have running : s.drive.state ≠ .starting := by simp [hd]
      obtain ⟨demand, lease⟩ := enter_dropsDemand (d := .parked) (by simp) _
      rw [resetTripWork_done hd hv ho]
      exact ⟨enterParked s, rfl, enter_drive_running .parked running, demand, lease, enterParked_wheel s⟩
  · have refused := safetyOnly_eq_false ha hne
    exact ⟨congrArg Host.Outcome.next (takeRequest_refused refused),
      congrArg Host.Outcome.next (takeRequest_refused refused),
      congrArg Host.Outcome.next (takeRequest_refused refused)⟩
  · exact congrArg Host.Outcome.next (takeRequest_refused (operatorOrSafety_false ho hs))
  · rw [exec_setControlMode ha hw]
    refine ⟨fun hm => ?_, fun m hm => ⟨fun hd => ?_, fun hd => ?_⟩⟩
    · rw [setModeWork_badValue hm]; rfl
    · rw [setModeWork_state hm hd]; rfl
    · rw [setModeWork_done hm hd]; rfl

end Sys2Proof.Machine
end

section
/-! Frames and fields (R183, R186, R191), and what the bytes of an exchange spell (O3, O4). -/

namespace Sys2Proof

/-! ### Fields (R186) -/

/-- The two bytes of a field, low byte first, are the field. -/
@[simp] theorem half_bytes (x : Half) : half (loByte x) (hiByte x) = x := by
  refine BitVec.eq_of_getLsbD_eq fun i hi => ?_
  simp only [half, loByte, hiByte, BitVec.getLsbD_append, BitVec.getLsbD_setWidth,
    BitVec.getLsbD_ushiftRight]
  split
  · next h => simp [h]
  · next h => simp [Nat.add_sub_cancel' (Nat.le_of_not_lt h), show i - 8 < 8 by omega]

/-- The body that leading fields spell, the rest of it zeros. -/
def bodyOf (fields : List Byte) : Body :=
  ⟨fields.getD 0 0, fields.getD 1 0, fields.getD 2 0, fields.getD 3 0, fields.getD 4 0, fields.getD 5 0,
    fields.getD 6 0, fields.getD 7 0⟩

/-- Leading fields and zeros after them, cut at eight bytes. -/
theorem padded_fields (fields : List Byte) : (fields ++ List.replicate 8 0).take 8 =
    [fields.getD 0 0, fields.getD 1 0, fields.getD 2 0, fields.getD 3 0, fields.getD 4 0,
      fields.getD 5 0, fields.getD 6 0, fields.getD 7 0] := by
  refine List.ext_getElem (by simp) fun n h _ => ?_
  have hn : n < 8 := by simpa using h
  have at_n : ((fields ++ List.replicate 8 0).take 8)[n] = fields.getD n 0 := by
    rw [List.getElem_take, List.getElem_append]
    split
    · next h => simp [h]
    · next h => rw [List.getElem_replicate, List.getD_eq_default _ _ (Nat.le_of_not_lt h)]
  rw [at_n]
  interval_cases n <;> rfl

/-! ### Frames (R183, R191) -/

/-- Eleven bytes with their own CRC pass the frame test. -/
theorem frameOk_sealFrame {bs : List Byte} (h : bs.length = 11) : frameOk (sealFrame bs) = true := by
  simp [frameOk, sealFrame, h]

theorem frameOk_requestFrame (h : Hdr) (code : Byte) (fields : List Byte) :
    frameOk (requestFrame h code fields) = true := frameOk_sealFrame (by simp)

@[simp] theorem requestFrame_code (h : Hdr) (code : Byte) (fields : List Byte) :
    (requestFrame h code fields).getD 0 0 = code := rfl
@[simp] theorem requestFrame_tag (h : Hdr) (code : Byte) (fields : List Byte) :
    (requestFrame h code fields).getD 1 0 = h.tag := rfl
@[simp] theorem requestFrame_claim (h : Hdr) (code : Byte) (fields : List Byte) :
    (requestFrame h code fields).getD 2 0 = h.claim := rfl

/-- A request frame is read as the request that its code and fields spell. -/
theorem decodeExchange_requestFrame (h : Hdr) (code : Byte) (fields : List Byte) :
    decodeExchange h.link (requestFrame h code fields) = requestOf h code (bodyOf fields) := by
  have ok := frameOk_requestFrame h code fields
  unfold requestFrame at ok ⊢
  rw [padded_fields] at ok ⊢
  exact if_pos ok

/-- Bytes that fail the frame test are a FRAME_ERROR, however many they are. -/
theorem decodeExchange_failing {l : Link} {bytes : List Byte} (h : frameOk bytes = false) :
    decodeExchange l bytes = .frameError l bytes := by
  unfold decodeExchange
  split
  · exact if_neg (by simp [h])
  · rfl

/-- A code that is not in R185's table spells UNKNOWN, whatever the body. -/
theorem requestOf_unlisted {code : Byte} (hc : knownCodes.contains code = false) (h : Hdr) (b : Body) :
    requestOf h code b = .unknownRequest h code := by
  have unlisted {n : Nat} (e : code.toNat = n) : knownCodes.contains (BitVec.ofNat 8 n) = false := by
    rwa [← e, BitVec.ofNat_toNat, BitVec.setWidth_eq]
  unfold requestOf
  split
  case h_41 => rfl
  all_goals next e => exact absurd (unlisted e) (by decide)

end Sys2Proof

namespace Sys2Proof.Machine

/-- Settles O3: the two exchanges that carry no request by the frame test and by R185's table, each request
by the fields of its body. -/
theorem Settled.exchangesRoundTrip : Obligations.ExchangesRoundTrip := by
  intro i l bytes hw he
  cases i <;> cases he
  case frameError => exact decodeExchange_failing (by simpa [Instr.wellFormed] using hw)
  case unknownRequest h code =>
    rw [decodeExchange_requestFrame]
    exact requestOf_unlisted (by simpa [Instr.wellFormed] using hw) h _
  all_goals
    rw [decodeExchange_requestFrame]
    simp [requestOf, bodyOf]

/-- Settles O4: each frame is a closed list of bytes, whose CRC is worked out. -/
theorem Settled.framesDecode : Obligations.FramesDecode := by
  refine ⟨?_, ?_, ?_, ?_, ?_, ?_, ?_, ?_⟩ <;> decide +kernel

end Sys2Proof.Machine
end

section
/-! What the work of each request leaves of the answers on the links, and of the state when it refuses
(R183 to R185). -/

namespace Sys2Proof.Machine

/-! ### The answers stand -/

/-- The answers formed on both links stand. -/
def SameAnswers (s t : State) : Prop := ∀ l : Link, (t.port l).answer = (s.port l).answer

namespace SameAnswers

variable {s t u : State}

theorem refl (s : State) : SameAnswers s s := fun _ => rfl

theorem trans (h : SameAnswers s t) (g : SameAnswers t u) : SameAnswers s u :=
  fun l => (g l).trans (h l)

theorem of_ports (h : t.ports = s.ports) : SameAnswers s t := fun l => by simp [State.port, h]

/-- A cause made pending is no answer (R187). -/
theorem raiseIf (b : Bool) (c : Attention) (s : State) : SameAnswers s (raiseIf b c s) := by
  intro l
  cases b <;> cases l <;> rfl

/-- A port replaced by one with the same answer. -/
theorem setPort {l : Link} {p : Port} (h : p.answer = (s.port l).answer) :
    SameAnswers s (s.setPort l p) := by
  intro k
  cases l <;> cases k <;> [exact h; rfl; rfl; exact h]

theorem evaluateAssist (s : State) : SameAnswers s (evaluateAssist s) :=
  (of_ports (setAssist_ports s)).trans (.raiseIf _ _ _)

theorem enter (d : Drive) (s : State) : SameAnswers s (enter d s) :=
  .trans (t := entered d s) (of_ports rfl)
    (((SameAnswers.raiseIf _ _ _).trans (.raiseIf _ _ _)).trans (.evaluateAssist _))

/-- An entry after a change that leaves the links. -/
theorem enter_of (d : Drive) (h : t.ports = s.ports) : SameAnswers s (Machine.enter d t) :=
  (of_ports h).trans (.enter d t)

theorem handHold (c : HoldCause) (s : State) : SameAnswers s (handHold c s) := by
  by_cases h1 : s.drive.state = .ready
  · rw [handHold_ready h1]; exact enter_of .hold rfl
  by_cases h2 : s.drive.state = .hold
  · rw [handHold_hold h2]; exact of_ports rfl
  · rw [handHold_other h1 h2]; exact of_ports rfl

theorem handTrip (c : TripCause) (s : State) : SameAnswers s (handTrip c s) := by
  by_cases h : s.drive.state = .tripped
  · rw [handTrip_tripped h]; exact of_ports rfl
  · rw [handTrip_other h]; exact enter_of .tripped rfl

end SameAnswers

/-! ### What a request's work may do -/

/-- The work of a request changes nothing unless its outcome is DONE, and leaves the answers to be formed
when the exchange ends (R184, R185). -/
structure Replies (s : State) (r : State × Reply) : Prop where
  refused : r.2.outcome ≠ .done → r.1 = s
  answers : SameAnswers s r.1

namespace Replies

variable {s t : State}

/-- A reply that comes with no change. -/
theorem unchanged (s : State) (r : Reply) : Replies s (s, r) := ⟨fun _ => rfl, .refl s⟩

theorem done {fields : List Byte} (h : SameAnswers s t) : Replies s (t, .ok fields) :=
  ⟨fun hn => absurd rfl hn, h⟩

/-- DONE with a change that leaves the links. -/
theorem ports {fields : List Byte} (h : t.ports = s.ports) : Replies s (t, .ok fields) :=
  done (.of_ports h)

/-- A check that refuses, before work that replies so. -/
theorem check {c : Prop} {_ : Decidable c} {x : Reply} {r : State × Reply} (h : Replies s r) :
    Replies s (if c then (s, x) else r) := by
  split
  · exact .unchanged s x
  · exact h

end Replies

/-! ### The work of each request -/

section
variable (s : State) (a : Owner)

theorem placeWork_replies (kind scope seg im : Byte) (v l : Half) :
    Replies s (placeWork kind scope v seg l im a s) := by
  unfold placeWork placeRecord
  repeat' split
  any_goals exact .unchanged s _
  exact .ports rfl

theorem amendWork_replies (slot gen act : Byte) (v l : Half) :
    Replies s (amendWork slot gen v act l a s) := by
  unfold amendWork
  repeat' split
  any_goals exact .unchanged s _
  exact .ports (by rw [amendRecord_frame])

theorem renewWork_replies (slot gen : Byte) : Replies s (renewWork slot gen a s) := by
  unfold renewWork
  repeat' split
  any_goals exact .unchanged s _
  exact .ports rfl

theorem retireWork_replies (slot gen : Byte) : Replies s (retireWork slot gen a s) := by
  unfold retireWork
  repeat' split
  any_goals exact .unchanged s _
  exact .ports rfl

theorem retireOwnerWork_replies (owner : Byte) : Replies s (retireOwnerWork owner a s) := by
  unfold retireOwnerWork
  dsimp only
  repeat' split
  any_goals exact .unchanged s _
  exact .ports rfl

theorem loadSegmentWork_replies (id cls : Byte) (grade rr : Half) :
    Replies s (loadSegmentWork id grade rr cls a s) := by
  unfold loadSegmentWork
  repeat' split
  any_goals exact .unchanged s _
  exact .ports rfl

theorem amendSegmentWork_replies (id cls : Byte) (grade rr : Half) :
    Replies s (amendSegmentWork id grade rr cls a s) := by
  unfold amendSegmentWork
  repeat' split
  any_goals exact .unchanged s _
  exact .ports (by rw [amendSegmentState_frame])

theorem retireSegmentWork_replies (id : Byte) : Replies s (retireSegmentWork id a s) := by
  unfold retireSegmentWork
  repeat' split
  any_goals exact .unchanged s _
  exact .ports rfl

theorem enterSegmentWork_replies (id hd : Byte) : Replies s (enterSegmentWork id hd a s) := by
  unfold enterSegmentWork
  repeat' split
  any_goals exact .unchanged s _
  refine .ports ?_
  unfold enterSegmentState
  split <;> rfl

theorem leaveSegmentWork_replies : Replies s (leaveSegmentWork a s) := by
  unfold leaveSegmentWork
  split
  · exact .unchanged s _
  · exact .ports rfl

theorem speedFixWork_replies (v q : Half) : Replies s (speedFixWork v q a s) := .check (.ports rfl)

theorem selectWork_replies (b : Byte) : Replies s (selectWork b a s) := by
  unfold selectWork
  repeat' split
  any_goals exact .unchanged s _
  exact .ports rfl

theorem lockWork_replies : Replies s (lockWork a s) := by
  unfold lockWork
  split
  · exact .unchanged s _
  · exact .ports rfl

theorem clearSourceFailWork_replies : Replies s (clearSourceFailWork a s) := .ports rfl

theorem setDemandWork_replies (d st : Half) (b : Byte) : Replies s (setDemandWork d st b a s) := by
  unfold setDemandWork
  repeat' split
  any_goals exact .unchanged s _
  refine .ports ?_
  unfold demandTaken
  split <;> rfl

theorem parkState_answers : SameAnswers s (parkState s) := by
  unfold parkState
  split
  · exact .refl s
  · exact .enter_of .parked rfl
  · exact .enter_of .parked rfl
  · exact .enter_of .parked rfl
  · exact .refl s
  · exact .refl s

theorem parkWork_replies : Replies s (parkWork a s) :=
  .check (.check (.check (.done (parkState_answers s))))

theorem unparkWork_replies : Replies s (unparkWork a s) :=
  .check (.check (.check (.check (.done (.enter_of .releasing rfl)))))

theorem clearHoldWork_replies : Replies s (clearHoldWork a s) :=
  .check (.check (.check (.check (.done (.enter_of .ready rfl)))))

theorem safetyHoldWork_replies : Replies s (safetyHoldWork a s) := by
  unfold safetyHoldWork
  split
  · exact .done (.handHold .safetyHold s)
  · exact .unchanged s _

theorem tripWork_replies : Replies s (tripWork a s) := .done (.handTrip .trip s)

theorem resetTripWork_replies : Replies s (resetTripWork a s) :=
  .check (.check (.check (.done (.enter_of .parked rfl))))

theorem setModeWork_replies (mode : Byte) : Replies s (setModeWork mode a s) := by
  unfold setModeWork
  repeat' split
  any_goals exact .unchanged s _
  exact .ports rfl

theorem clearGridWork_replies (grid : Byte) : Replies s (clearGridWork grid a s) := by
  unfold clearGridWork
  repeat' split
  any_goals exact .unchanged s _
  exact .ports rfl

theorem startSweepWork_replies (l : Link) (g0 gs m0 ms : Half) :
    Replies s (startSweepWork l g0 gs m0 ms a s) := .check (.check (.ports rfl))

theorem readSweepWork_replies : Replies s (readSweepWork a s) := by
  unfold readSweepWork
  split
  · exact .unchanged s _
  · exact .unchanged s _
  · exact .ports rfl

theorem setPointWork_replies (k : Byte) (v x : Half) : Replies s (setPointWork k v x a s) := by
  unfold setPointWork
  dsimp only
  repeat' split
  any_goals exact .unchanged s _
  exact .ports rfl

theorem tareWork_replies : Replies s (tareWork a s) := .check (.check (.ports rfl))

theorem clearAttentionWork_replies (l : Link) (causes : Half) :
    Replies s (clearAttentionWork l causes a s) := by
  unfold clearAttentionWork
  split
  · exact .unchanged s _
  · exact .done (.setPort rfl)

theorem setMaskWork_replies (l : Link) (causes : Half) : Replies s (setMaskWork l causes a s) := by
  unfold setMaskWork
  split
  · exact .unchanged s _
  · exact .done (.setPort rfl)

theorem setParamWork_replies (index : Byte) (v : Half) : Replies s (setParamWork index v a s) := by
  unfold setParamWork
  repeat' split
  any_goals exact .unchanged s _
  exact .ports (by rw [setParamState_frame])

end

end Sys2Proof.Machine
end

section
/-! What an exchange can be (R183 to R185), and what every exchange does: the refusals (O5, O7), the answer
given out and the one formed (O6). -/

namespace Sys2Proof.Machine

/-! ### The forms of an exchange -/

/-- What a well-formed exchange of these bytes on this link can be: bytes that fail the frame test, a code
that is not listed, a RESTART, or a listed request that is taken and answered (R183, R185). -/
inductive ExchangeForm (s : State) : Instr → Link → List Byte → Prop
  | failing {l : Link} {bytes : List Byte} (h : frameOk bytes = false) :
    ExchangeForm s (.frameError l bytes) l bytes
  | unlisted {h : Hdr} {code : Byte} (hc : knownCodes.contains code = false) :
    ExchangeForm s (.unknownRequest h code) h.link (requestFrame h code [])
  | restart (h : Hdr) (kind : Byte) :
    ExchangeForm s (.restart h kind) h.link (requestFrame h 0x48 [kind])
  | request {i : Instr} {h : Hdr} {code : Byte} {fields : List Byte} {allowed : Owner → Bool}
    {work : Owner → State → State × Reply}
    (taken : exec i s = .next (takeRequest h code allowed work s))
    (replies : ∀ a, Replies s (work a s)) : ExchangeForm s i h.link (requestFrame h code fields)

theorem exchangeForm {i : Instr} {l : Link} {bytes : List Byte} (s : State) (hw : i.wellFormed = true)
    (he : encodeExchange i = some (l, bytes)) : ExchangeForm s i l bytes := by
  have read {f : State → Reply} (a : Owner) : Replies s (reading f a s) := .unchanged s _
  cases i <;> cases he
  case nop => exact .request rfl read
  case frameError => exact .failing (by simpa [Instr.wellFormed] using hw)
  case unknownRequest => exact .unlisted (by simpa [Instr.wellFormed] using hw)
  case placeLimit => exact .request rfl fun a => placeWork_replies s a _ _ _ _ _ _
  case amendLimit => exact .request rfl fun a => amendWork_replies s a _ _ _ _ _
  case renewLimit => exact .request rfl fun a => renewWork_replies s a _ _
  case retireLimit => exact .request rfl fun a => retireWork_replies s a _ _
  case retireOwner => exact .request rfl fun a => retireOwnerWork_replies s a _
  case lookupLimit => exact .request rfl read
  case findLimit => exact .request rfl read
  case nextLimit => exact .request rfl read
  case readEnvelope => exact .request rfl read
  case loadSegment => exact .request rfl fun a => loadSegmentWork_replies s a _ _ _ _
  case amendSegment => exact .request rfl fun a => amendSegmentWork_replies s a _ _ _ _
  case retireSegment => exact .request rfl fun a => retireSegmentWork_replies s a _
  case enterSegment => exact .request rfl fun a => enterSegmentWork_replies s a _ _
  case leaveSegment => exact .request rfl (leaveSegmentWork_replies s)
  case readSegment => exact .request rfl read
  case speedFix => exact .request rfl fun a => speedFixWork_replies s a _ _
  case selectSpeedSource => exact .request rfl fun a => selectWork_replies s a _
  case lockSpeedSource => exact .request rfl (lockWork_replies s)
  case clearSourceFail => exact .request rfl (clearSourceFailWork_replies s)
  case setDemand => exact .request rfl fun a => setDemandWork_replies s a _ _ _
  case park => exact .request rfl (parkWork_replies s)
  case unpark => exact .request rfl (unparkWork_replies s)
  case clearHold => exact .request rfl (clearHoldWork_replies s)
  case safetyHold => exact .request rfl (safetyHoldWork_replies s)
  case trip => exact .request rfl (tripWork_replies s)
  case resetTrip => exact .request rfl (resetTripWork_replies s)
  case setControlMode => exact .request rfl fun a => setModeWork_replies s a _
  case restart => exact .restart _ _
  case clearGridFault => exact .request rfl fun a => clearGridWork_replies s a _
  case startSweep => exact .request rfl fun a => startSweepWork_replies s a _ _ _ _ _
  case readSweep => exact .request rfl (readSweepWork_replies s)
  case setSteerPoint => exact .request rfl fun a => setPointWork_replies s a _ _ _
  case readSteerPoint => exact .request rfl read
  case tare => exact .request rfl (tareWork_replies s)
  case readStatus => exact .request rfl read
  case clearAttention => exact .request rfl fun a => clearAttentionWork_replies s a _ _
  case setAttentionMask => exact .request rfl fun a => setMaskWork_replies s a _ _
  case setParam => exact .request rfl fun a => setParamWork_replies s a _ _
  case getParam => exact .request rfl read

/-! ### FRAME_ERROR, UNKNOWN and RESTART (R181, R183, R185) -/

theorem exec_frameError {l : Link} {bytes : List Byte} (h : frameOk bytes = false) (s : State) :
    exec (.frameError l bytes) s = .next (s.exchanged l (frameErrorAnswer bytes)) := by
  show Host.Outcome.next (if frameOk bytes then s else _) = _
  rw [if_neg (Bool.eq_false_iff.1 h)]
  rfl

theorem exec_unknownRequest {h : Hdr} {code : Byte} (hc : knownCodes.contains code = false)
    (s : State) :
    exec (.unknownRequest h code) s = .next (s.exchanged h.link (refusal h code .unknown)) := by
  show Host.Outcome.next (if knownCodes.contains code then s else _) = _
  rw [if_neg (Bool.eq_false_iff.1 hc)]
  rfl

theorem exec_restart_authority {h : Hdr} (ha : authorityOf h = none) (kind : Byte) (s : State) :
    exec (.restart h kind) s = .next (s.exchanged h.link (refusal h 0x48 .authority)) := by
  show Host.Outcome.next (restartState h kind s) = _
  simp only [restartState, ha]
  rfl

/-- A RESTART either is refused, or restarts the part and leaves NONE to be given out next; what its link
has given out is the answer formed before (R181, R184). -/
theorem exec_restart_cases (h : Hdr) (kind : Byte) (s : State) :
    (∃ c, exec (.restart h kind) s = .next (s.exchanged h.link (refusal h 0x48 c))) ∨
      ∃ t, exec (.restart h kind) s = .next t ∧ (t.port h.link).answer = .empty ∧
        (t.port h.link).given = (s.port h.link).answer := by
  cases ha : authorityOf h with
  | none => exact .inl ⟨_, exec_restart_authority ha kind s⟩
  | some a =>
    cases hc : restartCheck kind a with
    | error c => exact .inl ⟨c, exec_restart_refused ha hc⟩
    | ok cold =>
      have ended : ((exchangeEnded h.link s).port h.link).given = (s.port h.link).answer := by
        cases h.link <;> rfl
      refine .inr ⟨_, exec_restart_done ha hc, ?_⟩
      rw [← ended]
      cases cold with
      | true => cases h.link <;> exact ⟨rfl, rfl⟩
      | false =>
        rw [if_neg nofun, warmRestart_eq]
        cases h.link <;> exact ⟨rfl, rfl⟩

/-! ### Refusals (R185) -/

/-- Settles O5: a request's work changes nothing unless it is DONE, and the other refusals have no work. -/
theorem Settled.refusedRequestChangesNothing : Obligations.RefusedRequestChangesNothing := by
  intro i l bytes s t hw he ht hdone hnone
  have stands {l : Link} {a : Answer} (e : exec i s = .next (s.exchanged l a)) :
      t = s.setPort l { s.port l with given := (s.port l).answer, answer := (t.port l).answer } := by
    obtain rfl := Host.Outcome.next.inj (ht.symm.trans e)
    rw [exchanged_port_answer]
    rfl
  cases exchangeForm s hw he with
  | failing h => exact stands (exec_frameError h s)
  | unlisted hc => exact stands (exec_unknownRequest hc s)
  | restart h kind =>
    rcases exec_restart_cases h kind s with ⟨c, e⟩ | ⟨u, e, none, -⟩
    · exact stands e
    · obtain rfl := Host.Outcome.next.inj (ht.symm.trans e)
      exact absurd (congrArg Answer.outcome none) hnone
  | @request _ h code fields allowed work taken replies =>
    rcases takeRequest_cases h code allowed work s with e | ⟨a, -, -, e⟩ <;> rw [e] at taken
    · exact stands taken
    · have unchanged : (work a s).1 = s := (replies a).refused <| by
        rwa [Host.Outcome.next.inj (ht.symm.trans taken), exchanged_port_answer] at hdone
      rw [unchanged] at taken
      exact stands taken

/-- No sender speaks for a claim above 2 on the operations link (R185, check 2). -/
theorem authorityOf_none {h : Hdr} (hl : h.link = .operations) (hc : 2 < h.claim.toNat) :
    authorityOf h = none := by
  unfold authorityOf
  rw [hl]
  dsimp only
  split <;> simp_all

/-- Settles O7, by the forms of an exchange; the other two clauses are what FRAME_ERROR and UNKNOWN do. -/
theorem Settled.refusalsOfTheLink : Obligations.RefusalsOfTheLink := by
  refine ⟨fun i bytes s hw he hf hk hc => ?_, fun l bytes s h => exec_frameError h s,
    fun h code s hc => exec_unknownRequest hc s⟩
  generalize hl : Link.operations = l at he
  cases exchangeForm s hw he with
  | failing h => exact absurd hf (Bool.eq_false_iff.1 h)
  | unlisted h => exact absurd hk (Bool.eq_false_iff.1 h)
  | restart h kind =>
    exact ⟨_, exec_restart_authority (authorityOf_none hl.symm hc) kind s,
      congrArg Answer.outcome (exchanged_port_answer ..)⟩
  | @request _ h code fields allowed work taken _ =>
    have none := authorityOf_none hl.symm hc
    rw [takeRequest_refused (by simp [none])] at taken
    exact ⟨_, taken, congrArg Answer.outcome (exchanged_port_answer ..)⟩

/-! ### The answer given out and the answer formed (R184, R191) -/

/-- An exchange of these bytes has given out the answer formed before it and formed one with eight body
bytes, which echoes code and tag unless a restart left NONE (R184). -/
structure Answered (s t : State) (l : Link) (bytes : List Byte) : Prop where
  given : (t.port l).given = (s.port l).answer
  body : (t.port l).answer.body.length = 8
  echo : (t.port l).answer.outcome ≠ .none →
    (t.port l).answer.code = bytes.getD 0 0 ∧ (t.port l).answer.tag = bytes.getD 1 0

/-- An answer formed after work that leaves the answers. -/
theorem Answered.exchanged {s u : State} {l : Link} {bytes : List Byte} {a : Answer}
    (hu : SameAnswers s u) (hb : a.body.length = 8) (hc : a.code = bytes.getD 0 0)
    (ht : a.tag = bytes.getD 1 0) : Answered s (u.exchanged l a) l bytes := by
  refine ⟨(exchanged_port_given ..).trans (hu l), ?_, fun _ => ?_⟩ <;> rw [exchanged_port_answer]
  exacts [hb, ⟨hc, ht⟩]

theorem exec_answered {i : Instr} {l : Link} {bytes : List Byte} {s t : State}
    (hw : i.wellFormed = true) (he : encodeExchange i = some (l, bytes)) (ht : exec i s = .next t) :
    Answered s t l bytes := by
  have refused {h : Hdr} {code : Byte} {fields : List Byte} (c : ReplyCode) :
      Answered s (s.exchanged h.link (refusal h code c)) h.link (requestFrame h code fields) :=
    .exchanged (.refl s) rfl rfl rfl
  cases exchangeForm s hw he with
  | failing h =>
    obtain rfl := Host.Outcome.next.inj (ht.symm.trans (exec_frameError h s))
    exact .exchanged (.refl s) rfl rfl rfl
  | unlisted hc =>
    obtain rfl := Host.Outcome.next.inj (ht.symm.trans (exec_unknownRequest hc s))
    exact refused .unknown
  | restart h kind =>
    rcases exec_restart_cases h kind s with ⟨c, e⟩ | ⟨u, e, none, given⟩
    · obtain rfl := Host.Outcome.next.inj (ht.symm.trans e)
      exact refused c
    · obtain rfl := Host.Outcome.next.inj (ht.symm.trans e)
      refine ⟨given, ?_, fun hn => ?_⟩ <;> rw [none] at *
      · rfl
      · exact absurd rfl hn
  | @request _ h code fields allowed work taken replies =>
    obtain rfl := Host.Outcome.next.inj (ht.symm.trans taken)
    rcases takeRequest_cases h code allowed work s with e | ⟨a, -, -, e⟩ <;> rw [e]
    · exact refused .authority
    · exact .exchanged (replies a).answers (padBody_length _) rfl rfl

/-- Settles O6: the frames are those of the answer given out and of the answer formed. -/
theorem Settled.exchangeGivesThePreviousAnswer : Obligations.ExchangeGivesThePreviousAnswer := by
  intro i l bytes s t hw he ht
  obtain ⟨given, body, echo⟩ := exec_answered hw he ht
  obtain ⟨head, tail⟩ := Answer.frame_fields body
  exact ⟨given, body, echo, congrArg Answer.frame given, (Answer.frame_ok body).2, head, tail⟩

end Sys2Proof.Machine
end

section
/-! CLEAR_ATTENTION and SET_ATTENTION_MASK (O14), and the step (O1). -/

namespace Sys2Proof.Machine

/-! ### Attention (R188) -/

section
variable {h : Hdr} {causes : Half} {a : Owner} {s : State}

theorem exec_clearAttention (ha : authorityOf h = some a) : exec (.clearAttention h causes) s =
    .next ((clearAttentionWork h.link causes a s).1.exchanged h.link
      (answerOf h 0x61 (clearAttentionWork h.link causes a s).2)) :=
  congrArg Host.Outcome.next (takeRequest_of ha rfl)

theorem exec_setAttentionMask (ha : authorityOf h = some a) : exec (.setAttentionMask h causes) s =
    .next ((setMaskWork h.link causes a s).1.exchanged h.link
      (answerOf h 0x62 (setMaskWork h.link causes a s).2)) :=
  congrArg Host.Outcome.next (takeRequest_of ha rfl)

/-- Bits 9 to 15 of an attention set are 0 exactly when it is below 512 (R188). -/
theorem attentionSet_some (hc : causes.toNat < 512) :
    attentionSet causes = some (causes.setWidth 9) := if_pos hc

theorem attentionSet_none (hc : 512 ≤ causes.toNat) : attentionSet causes = none :=
  if_neg (Nat.not_lt.2 hc)

end

/-- Settles O14, by the bits of the set. -/
theorem Settled.attentionRequests : Obligations.AttentionRequests := by
  intro h causes s ha
  obtain ⟨a, ha⟩ := Option.ne_none_iff_exists'.1 ha
  rw [exec_clearAttention ha, exec_setAttentionMask ha]
  refine ⟨fun hc => ⟨_, _, rfl, rfl, ?_⟩, fun hc => ?_⟩
  · simp only [clearAttentionWork, setMaskWork, attentionSet_some hc]
    exact ⟨rfl, rfl⟩
  · simp only [clearAttentionWork, setMaskWork, attentionSet_none hc]
    exact ⟨rfl, rfl⟩

/-! ### The step -/

/-- Settles O1. -/
theorem Settled.stepRunsTheFrontCommand : Obligations.StepRunsTheFrontCommand := by
  intro c rest s h
  simp only [step, h]

end Sys2Proof.Machine
end
